-- ==== Sys2Proof/Word.lean ====
section
/-! DEFINITION. The byte, the one unit both serial lines carry (R131, R153). Every other number of the spec is a
count, a code or a time and is held as a `Nat` (or an `Int` where R185 marks it signed). -/

namespace Sys2Proof

/-- One byte of a line. -/
abbrev Byte := BitVec 8

end Sys2Proof
end

