-- ==== Sys2Proof/Syntax.lean ====
section
/-! DEFINITION. The commands of the block: one constructor for each row of spec/opcode_table.json, in its order.

A request row (STATUS … JOURNAL-TIMERS, and UNKNOWN-REQUEST) is the LIF's take of the oldest frame of the request
buffer (R157); its tag and its fields are that frame's, so the constructor carries none (log 3). An event that the
outside brings carries what it brings. A frame of the card line comes as all its bytes, from the kind byte to the check
byte (R131); `idle` says that the line was idle for more than 1 ms before the first of them (R132; log 6). -/

namespace Sys2Proof

/-- One indivisible step of the part (95_what_each_step_holds.md). -/
inductive Instr where
  /-- POWER_ON (R170). -/
  | powerOn
  /-- RESET_N_LOW (R170). -/
  | resetNLow
  /-- RESET_N_HIGH (R170). -/
  | resetNHigh
  /-- HOST_FRAME_RECEIVED (R154): the kind, tag and body of a complete frame, and the CRC sent with it. -/
  | hostFrameReceived (kind tag : Byte) (body : List Byte) (crc : BitVec 16)
  /-- LENGTH_FAULT (R155): the kind and tag received before the second length byte. -/
  | lengthFault (kind tag : Byte)
  /-- HOST_STOP_BIT_FAULT (R155): the kind and tag, where both had been received. -/
  | hostStopBitFault (header : Option (Byte × Byte))
  /-- GAP_FAULT (R155): the kind and tag, where both had been received. -/
  | gapFault (header : Option (Byte × Byte))
  /-- MARKER_WAKE (R168). -/
  | markerWake
  /-- FRAME_SENT (R159). -/
  | frameSent
  /-- WAITING_NOTICE_ENTER (R160). -/
  | waitingNoticeEnter
  /-- PENDING_NOTICE_ENTER (R161). -/
  | pendingNoticeEnter
  /-- UNKNOWN_REQUEST (R158). -/
  | unknownRequest
  /-- STATUS (R166). -/
  | status
  /-- STANDBY (R167). -/
  | standby
  /-- RESET (R169). -/
  | reset
  /-- INTAKE_MARKS (R164). -/
  | intakeMarks
  /-- PRESENT (R163). -/
  | present
  /-- CLOCK_SET (R36). -/
  | clockSet
  /-- CLOCK_TRIM (R35). -/
  | clockTrim
  /-- CLOCK_MILLISECOND (R33). -/
  | clockMillisecond
  /-- TRIM_SECOND (R34). -/
  | trimSecond
  /-- JOURNEY_OPEN (R24). -/
  | journeyOpen
  /-- JOURNEY_CLOSE (R37). -/
  | journeyClose
  /-- CLOSE_COMPLETION (R40). -/
  | closeCompletion
  /-- ROUTE_BEGIN (R20). -/
  | routeBegin
  /-- ROUTE_STOPS (R21). -/
  | routeStops
  /-- ROUTE_ARM (R22). -/
  | routeArm
  /-- ROUTE_CANCEL (R23). -/
  | routeCancel
  /-- STOP_ARRIVE (R29). -/
  | stopArrive
  /-- STOP_DEPART (R26). -/
  | stopDepart
  /-- CARRIAGE_SET (R32). -/
  | carriageSet
  /-- DELAY_SET (R31). -/
  | delaySet
  /-- KEY_LOAD (R11). -/
  | keyLoad
  /-- KEY_STATE (R12). -/
  | keyState
  /-- KEY_DROP (R13). -/
  | keyDrop
  /-- FILTER_BEGIN (R46). -/
  | filterBegin
  /-- FILTER_SEGMENT (R47). -/
  | filterSegment
  /-- FILTER_COMMIT (R48). -/
  | filterCommit
  /-- LIST_ADD (R50). -/
  | listAdd
  /-- LIST_REMOVE (R51). -/
  | listRemove
  /-- LIST_FLUSH (R52). -/
  | listFlush
  /-- AREA_SET (R63). -/
  | areaSet
  /-- ACCEPT_MAP (R64). -/
  | acceptMap
  /-- CLASS_SET (R91). -/
  | classSet
  /-- POLICY_SET (R76). -/
  | policySet
  /-- CASE_RESOLVE (R121). -/
  | caseResolve
  /-- CASE_CLOSED_QUEUED (R119). -/
  | caseClosedQueued
  /-- CASE_QUOTE (R97). -/
  | caseQuote
  /-- CASE_TIMEOUT (R126). -/
  | caseTimeout
  /-- CASE_DEADLINE_REACHED (R127). -/
  | caseDeadlineReached
  /-- PASSBACK_SET (R106). -/
  | passbackSet
  /-- CARD_OPTIONS (R149). -/
  | cardOptions
  /-- JOURNAL_READ (R178). -/
  | journalRead
  /-- JOURNAL_RELEASE (R179). -/
  | journalRelease
  /-- JOURNAL_TIMERS (R182). -/
  | journalTimers
  /-- QUIET_TIMER_EXPIRY (R181). -/
  | quietTimerExpiry
  /-- ABSOLUTE_TIMER_EXPIRY (R181). -/
  | absoluteTimerExpiry
  /-- ENGINE_TAKE (R58). -/
  | engineTake
  /-- CHECK_COMPLETE (R15). -/
  | checkComplete
  /-- ISSUE (R84): of the completed parked verdict, or of the evaluation in hand; where both wait for one slot
  "either may take it first", so the command says which (log 18). -/
  | issue (ofParked : Bool)
  /-- CARD_UP (R136). -/
  | cardUp (idle : Bool) (frame : List Byte)
  /-- BLOCK (R138). -/
  | block (idle : Bool) (frame : List Byte)
  /-- CARD_DOWN (R142). -/
  | cardDown (idle : Bool) (frame : List Byte)
  /-- WRITTEN (R146). -/
  | written (idle : Bool) (frame : List Byte)
  /-- WRITE_TIMER_EXPIRY (R146). -/
  | writeTimerExpiry
  /-- READ_TIMER_EXPIRY (R139). -/
  | readTimerExpiry
  /-- CARD_CHECK_ERROR (R132). -/
  | cardCheckError (idle : Bool) (frame : List Byte)
  /-- CARD_FRAME_CUT_SHORT (R131): the bytes stop for more than 1 ms before the frame is complete. -/
  | cardFrameCutShort (idle : Bool)
  /-- CARD_FRAMING_ERROR (R133). -/
  | cardFramingError
  /-- CARD_FRAME_SENT (R139). -/
  | cardFrameSent
  deriving DecidableEq, Repr

end Sys2Proof
end

