-- ==== Sys2Proof/Machine/State.lean ====
section
/-! DEFINITION. Everything the block holds, unit by unit (00 "The blocks"), as plain data; `State.reset`, the hard-reset
values each chapter gives; and the reasons a step may stop. A rule named in a docstring is the one that gives the item. -/

namespace Sys2Proof.Machine

/-! ### Credentials and issuer keys (01) -/

/-- A carriage class, 1 or 2, of a credential or of a carriage. -/
inductive TravelClass where
  | first
  | second
  deriving DecidableEq, Repr

/-- The credential key (R4): issuer 0 to 255 and 48-bit serial. -/
structure CredKey where
  issuer : Nat
  serial : Nat
  deriving DecidableEq, Repr

/-- The state of an issuer key (R10). -/
inductive KeyState where
  | active
  | retiring
  | withdrawn
  deriving DecidableEq, Repr

/-- An Issuer Key Table entry (R10). -/
structure KeyEntry where
  issuer : Nat
  version : Nat
  state : KeyState
  material : List Byte
  deriving DecidableEq, Repr

/-- The Credential Decoder and Check Unit. The check in flight is held by the engine's CHECKING state, which is the
only time there is one (R14, R15). -/
structure Dcu where
  keys : List KeyEntry
  deriving DecidableEq, Repr

/-- The places a credential covers (01 section 1.1). -/
inductive KindPart where
  | single (origin destination : Nat)
  | returnTrip (origin destination : Nat)
  | zones (area : Nat) (zones : List Nat)
  | area (area : Nat)
  deriving DecidableEq, Repr

/-- A decoded record (R8); absent optional parts are `none`. -/
structure Credential where
  key : CredKey
  version : Nat
  product : Nat
  kind : KindPart
  cls : TravelClass
  adults : Nat
  children : Nat
  validFrom : Nat
  validUntil : Nat
  rides : Option Nat
  service : Option Nat
  checkInput : List Byte
  checkValue : BitVec 64
  deriving DecidableEq, Repr

/-- What the DCU captures at the start of a check (R14). -/
structure CheckInFlight where
  material : List Byte
  keyState : KeyState
  input : List Byte
  value : BitVec 64
  deriving DecidableEq, Repr

/-! ### The journey (02) -/

/-- A stop record (02 section 2.2). -/
structure Stop where
  code : Nat
  post : Nat
  area : Nat
  zone : Nat
  planned : Nat
  deriving DecidableEq, Repr

/-- A complete route; its stop count is the length of `stops`. -/
structure Route where
  service : Nat
  dayStart : Nat
  stops : List Stop
  deriving DecidableEq, Repr

/-- The staging (R20 to R23). -/
inductive Staging where
  | empty
  | filling (service count dayStart : Nat) (stops : List Stop)
  | armed (route : Route)
  deriving DecidableEq, Repr

/-- The position on the active route (R25); in NONE there is none, because there is no `Running`. -/
inductive Position where
  | atStop (k : Nat)
  | running (k : Nat)
  deriving DecidableEq, Repr

/-- What the JCU holds only while a journey is OPEN or CLOSING (R18, R19, R25). -/
structure Running where
  closing : Bool
  route : Route
  epoch : Nat
  position : Position
  deriving DecidableEq, Repr

/-- The journey clock (R33 to R36). `withhold`: the next millisecond advance is withheld (R34). -/
structure Clock where
  isSet : Bool
  seconds : Nat
  millis : Nat
  trim : Int
  trimAcc : Int
  withhold : Bool
  deriving DecidableEq, Repr

/-- The Journey Context Unit; `journey = none` is the journey state NONE. -/
structure Jcu where
  journey : Option Running
  number : Nat
  staging : Staging
  delay : Int
  carriage : Nat
  cls : TravelClass
  closeAtArrival : Bool
  clock : Clock
  deriving DecidableEq, Repr

/-- The snapshot the engine takes (R41). `a` is the inspection section and its start stop. `route` is the reference
to the route image, held by value (log 20). -/
structure Snapshot where
  journey : Nat
  epoch : Nat
  route : Route
  a : Nat
  seconds : Nat
  delay : Int
  deriving DecidableEq, Repr

/-! ### Revocation screening (03) -/

/-- A screen image (R43): its 32 segments, each as the 32 body bytes of R43's layout. -/
structure ScreenImage where
  segments : Vector (List Byte) 32
  generation : Nat
  offset : Nat
  deriving DecidableEq, Repr

/-- The pending image (R45); `received` lists the received segment indices, rising. -/
structure PendingImage where
  image : ScreenImage
  received : List Nat
  deriving DecidableEq, Repr

/-- The action of an exact-list entry (R49). -/
inductive ListAction where
  | revoke
  | clear
  deriving DecidableEq, Repr

/-- An exact-list entry (R49). -/
structure ListEntry where
  key : CredKey
  action : ListAction
  reason : Nat
  added : Nat
  deriving DecidableEq, Repr

/-- The Revocation Screen. -/
structure Rsu where
  active : ScreenImage
  pendingImage : Option PendingImage
  list : List ListEntry
  deriving DecidableEq, Repr

/-! ### Evaluation, verdicts and quotes (04, 05) -/

/-- The findings, in the order of their codes 1 to 19 (R75). -/
inductive Finding where
  | checkMismatch
  | issuerUnknown
  | keyWithdrawn
  | keyRetiring
  | revoked
  | screenHit
  | notYetValid
  | expired
  | delayGrace
  | offRoute
  | shortCoverage
  | classMismatch
  | productRefused
  | ridesExhausted
  | serviceMismatch
  | repeatElsewhere
  | rideTorn
  | areaUnconfigured
  | registerFull
  deriving DecidableEq, Repr

/-- A policy (R75). -/
inductive Policy where
  | blocking
  | noted
  | ignored
  deriving DecidableEq, Repr

/-- A Tariff Area Table entry (R62); `accept` is the acceptance map, its 8 segments each as the 64 body bytes of R64's
layout. -/
structure AreaEntry where
  configured : Bool
  rate : Nat
  kmin : Nat
  step : Nat
  cap : Nat
  surcharge : Nat
  childPercent : Nat
  toleranceCap : Nat
  accept : Vector (List Byte) 8
  deriving DecidableEq, Repr

/-- A quote result (R96). -/
structure Quote where
  amount : Nat
  endStop : Nat
  kmShort : Nat
  kmUp : Nat
  upgrade : Bool
  capped : Bool
  area : Nat
  deriving DecidableEq, Repr

/-- The counter record of a card (R138, R188): its rides and its sequence. -/
structure Counter where
  rides : Nat
  sequence : Nat
  deriving DecidableEq, Repr

/-- The source of a presentation, with what only a card brings (R162). -/
inductive Origin where
  | link
  | card (counter : Counter) (session : Nat)
  deriving DecidableEq, Repr

/-- A verdict (R77, R9). -/
inductive Verdict where
  | pass
  | passNoted
  | action
  | unreadable
  deriving DecidableEq, Repr

/-- The register status of an evaluation (R102, R103). -/
inductive RegStatus where
  | none
  | new
  | seen
  | full
  deriving DecidableEq, Repr

/-- A ride outcome of a verdict, of a case's close or of a RIDE record (R79 to R83, R120, R125). -/
inductive RideOutcome where
  | none
  | written
  | torn
  | takenToken
  | notWritten
  | alreadyTaken
  | writeStarted
  deriving DecidableEq, Repr

/-- The trust of a credential, fixed at the end of CHECK (R17, R57). -/
inductive Trust where
  | undecided
  | trusted
  | untrusted
  deriving DecidableEq, Repr

/-- A finding of the set, and the policy read for it, once read (R57, R77). -/
structure Raised where
  finding : Finding
  policy : Option Policy
  deriving DecidableEq, Repr

/-- An evaluation record (R57). `readKey` is the credential key where it is readable (R2, R3); the register record is
the one with the credential's key, when `hasRecord` (log 22). -/
structure Evaluation where
  intake : Nat
  origin : Origin
  content : List Byte
  carriage : Nat
  cls : TravelClass
  snapshot : Snapshot
  readKey : Option CredKey
  credential : Option Credential
  findings : List Raised
  trust : Trust
  regStatus : RegStatus
  hasRecord : Bool
  inspCount : Nat
  areaReading : Option AreaEntry
  quote : Option Quote
  rideOutcome : RideOutcome
  ridesRemaining : Option Nat
  verdict : Option Verdict
  deriving DecidableEq, Repr

/-- The engine (R57). JUDGING between two commands is the wait at ISSUE: every other stage but CHECK takes no time
(R60). -/
inductive Engine where
  | idle
  | checking (ev : Evaluation) (check : CheckInFlight)
  | judging (ev : Evaluation)
  deriving DecidableEq, Repr

/-- The parked verdict; `completed` when its write has ended and it waits at ISSUE (R82, R84). -/
structure Parked where
  ev : Evaluation
  completed : Bool
  deriving DecidableEq, Repr

/-- The Verdict Engine: `areas` are the entries for area numbers 0 to 7, `policies` those for finding codes 1 to 19. -/
structure Ven where
  engine : Engine
  parked : Option Parked
  areas : Vector AreaEntry 8
  policies : Vector Policy 19
  m1 : Nat
  deriving DecidableEq, Repr

/-! ### The Inspection Register (06) -/

/-- The ride state (R107), with the expected counter sequence that PENDING and TORN hold (R100). -/
inductive RideState where
  | none
  | pending (expected : Nat)
  | consumed
  | torn (expected : Nat)
  deriving DecidableEq, Repr

/-- A register record (R100). `paid` is the paid span: its start and end stop codes. -/
structure Record where
  key : CredKey
  lastSeen : Nat
  lastCarriage : Nat
  count : Nat
  ride : RideState
  paid : Option (Nat × Nat)
  upgrade : Bool
  caseLink : Option Nat
  deriving DecidableEq, Repr

/-- The Inspection Register; records in the order of their creation. -/
structure Irg where
  records : List Record
  passback : Nat
  deriving DecidableEq, Repr

/-! ### Open cases (07) -/

/-- The quote basis of a trusted case (R96). -/
structure QuoteBasis where
  kind : KindPart
  cls : TravelClass
  adults : Nat
  children : Nat
  carriageClass : TravelClass
  deriving DecidableEq, Repr

/-- The source of a case and, for CARD, its session tag; the counter record for a trusted one (R116). -/
inductive CaseOrigin where
  | link
  | card (session : Nat) (counter : Option Counter)
  deriving DecidableEq, Repr

/-- An OPEN case (R116). `linked`: it has a register link, which is the record with its key (log 22). `rides`: the
current rides, when the credential is trusted and carries rides. -/
structure Case where
  serial : Nat
  journey : Nat
  intake : Nat
  key : CredKey
  linked : Bool
  origin : CaseOrigin
  rides : Option Nat
  route : Route
  epoch : Nat
  a : Nat
  quote : Option Quote
  basis : Option QuoteBasis
  opened : Nat
  deadline : Nat
  deriving DecidableEq, Repr

/-- A case outcome (R119). -/
inductive CaseOutcome where
  | accepted
  | refused
  | charged
  | timedOut
  | journeyEnded
  deriving DecidableEq, Repr

/-- What a CASE-CLOSED notice reports (R120), which is all that a CLOSED-WAITING slot still has a use for. -/
structure ClosedCase where
  serial : Nat
  journey : Nat
  intake : Nat
  key : CredKey
  outcome : CaseOutcome
  quote : Option (Nat × Nat)
  epoch : Nat
  rideOutcome : RideOutcome
  ridesRemaining : Option Nat
  deriving DecidableEq, Repr

/-- The resolution write entry (R125). -/
structure ResolutionWrite where
  serial : Nat
  journey : Nat
  key : CredKey
  rides : Nat
  deriving DecidableEq, Repr

/-- The Case Table. Its four slots are two lists: the OPEN cases in the order they opened, and the CLOSED-WAITING ones
in the order they closed; the rest of the four are FREE (log 21). -/
structure Ctb where
  cases : List Case
  closedWaiting : List ClosedCase
  nextSerial : Nat
  timeout : Nat
  resolution : Option ResolutionWrite
  deriving DecidableEq, Repr

/-! ### The card line (08) -/

/-- The CIU's states (R134). -/
inductive CardState where
  | absent
  | reading
  | queued
  | writing
  | settled
  deriving DecidableEq, Repr

/-- A RELEASE outcome (R189). -/
inductive ReleaseOutcome where
  | pass
  | note
  | action
  | error
  deriving DecidableEq, Repr

/-- A frame the CIU sends (R189). `session` is the model's own mark of the session a frame was made for, not sent on
the line: the timers of R139 and R145 run from the end of their own frame (log 30). -/
inductive CardFrame where
  | readImage (session : Nat)
  | writeCounter (session : Nat) (block : List Byte)
  | release (outcome : ReleaseOutcome)
  deriving DecidableEq, Repr

/-- Who a card write belongs to (R145). -/
inductive WriteOwner where
  | parkedVerdict
  | resolutionWrite
  deriving DecidableEq, Repr

/-- The write record (R134); `timer` is when the write timer is due, once it runs. -/
structure WriteRecord where
  owner : WriteOwner
  block : List Byte
  timer : Option Nat
  deriving DecidableEq, Repr

/-- The five error counts (R133). -/
structure ErrorCounts where
  framing : Nat
  check : Nat
  sequence : Nat
  timeout : Nat
  format : Nat
  deriving DecidableEq, Repr

/-- The Card Interface Unit (R134). `image` is the image buffer; the next block expected is its length. Timers are
held as the timebase millisecond at which they are due (log 13). `sending` are the frames still to be sent, the head
being the one on the line. `awaitsGap`: after a FRAMING error the receiver waits for an idle gap before it takes the next
kind byte (R132; log 6). -/
structure Ciu where
  state : CardState
  tag : Nat
  held : Bool
  identifier : Option (List Byte)
  image : List (List Byte)
  readTimer : Option Nat
  write : Option WriteRecord
  quiet : Bool
  counts : ErrorCounts
  sending : List CardFrame
  awaitsGap : Bool
  deriving DecidableEq, Repr

/-! ### The journal (10) -/

/-- The kind of a journal record with its fields (R174). -/
inductive JournalBody where
  | journeyStart (journey service dayStart stopCount startCode : Nat)
  | inspection (journey : Nat) (fromCard : Bool) (key : Option CredKey) (verdict : Verdict)
      (findings : List Finding) (quote : Option (Nat × Nat)) (caseSerial : Option Nat) (uncased : Bool)
      (ride : RideOutcome) (secIndex : Nat) (carriage : Nat) (cls : TravelClass)
  | caseEnd (serial journey : Nat) (key : CredKey) (outcome : CaseOutcome) (quote : Option (Nat × Nat))
      (ride : RideOutcome)
  | ride (serial journey : Nat) (key : CredKey) (outcome : RideOutcome) (remaining : Nat)
  | routeChange (journey oldEpoch newEpoch oldService newService code : Nat)
  | journeyEnd (journey epoch code cases : Nat)
  | partReset (journey journeyState : Nat)
  deriving DecidableEq, Repr

/-- A stored record (R173). -/
structure JournalRecord where
  sequence : Nat
  time : Nat
  body : JournalBody
  deriving DecidableEq, Repr

/-- The Journal (R172). The free count is 2048 minus the stored records. Timers are the timebase millisecond at which
they are due; `quietSetting` and `absoluteSetting` are Q and A in seconds. -/
structure Jnl where
  records : List JournalRecord
  lastSequence : Nat
  dropCount : Nat
  lowThreshold : Nat
  lowArmed : Bool
  fullArmed : Bool
  quietTimer : Option Nat
  absoluteTimer : Option Nat
  unreported : Nat
  quietSetting : Nat
  absoluteSetting : Nat
  deriving DecidableEq, Repr

/-! ### The link and the Intake Queue (09) -/

/-- An Intake Queue entry (R162). -/
structure Entry where
  intake : Nat
  origin : Origin
  content : List Byte
  carriage : Nat
  cls : TravelClass
  arrival : Nat
  deriving DecidableEq, Repr

/-- The Intake Queue (R162 to R165). -/
structure Iq where
  entries : List Entry
  hold : Bool
  high : Nat
  low : Nat
  counter : Nat
  deriving DecidableEq, Repr

/-- The cause of a START (R171). -/
inductive StartCause where
  | power
  | line
  | soft
  deriving DecidableEq, Repr

/-- The cause of a wake (R168). -/
inductive WakeCause where
  | link
  | card
  deriving DecidableEq, Repr

/-- The cause of a LINK-FAULT (R155). -/
inductive LinkFaultCause where
  | length
  | crc
  | gap
  | overrun
  deriving DecidableEq, Repr

/-- The cause of a ROUTE-DISCARDED (R27, R38). -/
inductive DiscardCause where
  | stopAbsent
  | atEnd
  | closing
  deriving DecidableEq, Repr

/-- The event of a CARD-EVENT (R148). -/
inductive CardEventKind where
  | busy
  | removedEarly
  | framing
  | check
  | sequence
  | timeout
  | format
  deriving DecidableEq, Repr

/-- The content of a CARD-EVENT (R148). -/
structure CardEvent where
  event : CardEventKind
  session : Option Nat
  identifier : Option (List Byte)
  count : Option Nat
  state : CardState
  deriving DecidableEq, Repr

/-- The content of a VERDICT (R85). -/
structure VerdictReport where
  intake : Nat
  fromCard : Bool
  journey : Nat
  key : Option CredKey
  verdict : Verdict
  findings : List Finding
  regStatus : RegStatus
  inspCount : Nat
  rideOutcome : RideOutcome
  ridesRemaining : Option Nat
  quote : Option (Nat × Nat)
  caseSerial : Option Nat
  secIndex : Nat
  epoch : Nat
  carriage : Nat
  cls : TravelClass
  deriving DecidableEq, Repr

/-- The notices (R186, R190, R191). -/
inductive Notice where
  | start (cause : StartCause) (journey : Nat) (clockSet : Bool) (newest : Nat)
  | wake (cause : WakeCause)
  | linkFault (cause : LinkFaultCause) (header : Option (Byte × Byte)) (count : Nat)
  | intakeHold (count high : Nat)
  | intakeResume (count low : Nat)
  | verdict (report : VerdictReport)
  | caseClosed (closed : ClosedCase)
  | routeApplied (epoch service code oldIndex newIndex : Nat)
  | routeDiscarded (cause : DiscardCause) (service : Nat)
  | journeyClosed (journey cases : Nat)
  | cardEvent (event : CardEvent)
  | journalReady (unreported last : Nat)
  | journalLow (free threshold oldest newest : Nat)
  | journalFull (sequence drops : Nat)
  deriving DecidableEq, Repr

/-- A frame of the outbound queue: a reply with its body, whose first byte is its status (R158), or a notice. -/
inductive OutFrame where
  | reply (kind tag : Byte) (body : List Byte)
  | notice (n : Notice)
  deriving DecidableEq, Repr

/-- A slot of the outbound queue that is not empty (R159). -/
inductive Slot where
  | reserved
  | frame (f : OutFrame)
  deriving DecidableEq, Repr

/-- A good frame of the request buffer (R156). -/
structure RequestFrame where
  kind : Byte
  tag : Byte
  body : List Byte
  deriving DecidableEq, Repr

/-- The receiver (R154). -/
inductive Receiver where
  | hunting
  | inFrame
  deriving DecidableEq, Repr

/-- The power state (R167). -/
inductive Power where
  | active
  | standby
  deriving DecidableEq, Repr

/-- The Link Interface. `outbound` holds the slots that are not empty, in the order they were taken; `pendingNotices`
the pending singletons, rising by kind code, at most one of a kind (R161); `standbyToSend` how many frames are still to
be sent in STANDBY, the STANDBY reply the last of them (R167). -/
structure Lif where
  receiver : Receiver
  requests : List RequestFrame
  outbound : List Slot
  pendingNotices : List Notice
  waiting : List Notice
  faultCount : Nat
  power : Power
  standbyToSend : Nat
  deriving DecidableEq, Repr

/-! ### The whole block -/

/-- The block. `resetN` is the level of RESET_N (true is high). `timebase` counts the nominal milliseconds of the
part's timebase; `hostSent` and `cardSent` are what the two transmit signals have carried, frame by frame as bytes, the
latest last (both the model's own record: log 13, log 31). `pending` is the queue of waiting commands. -/
structure State where
  lif : Lif
  iq : Iq
  ciu : Ciu
  dcu : Dcu
  jcu : Jcu
  rsu : Rsu
  ven : Ven
  irg : Irg
  ctb : Ctb
  jnl : Jnl
  resetN : Bool
  timebase : Nat
  hostSent : List (List Byte)
  cardSent : List (List Byte)
  pending : List Instr
  deriving DecidableEq, Repr

/-- LIF after a hard reset (R170). -/
def Lif.reset : Lif :=
  { receiver := .hunting, requests := [], outbound := [], pendingNotices := [], waiting := [], faultCount := 0,
    power := .active, standbyToSend := 0 }

/-- IQ after a hard reset (R170). -/
def Iq.reset : Iq := { entries := [], hold := false, high := 12, low := 4, counter := 0 }

/-- CIU after a hard reset (R151). -/
def Ciu.reset : Ciu :=
  { state := .absent, tag := 0, held := false, identifier := none, image := [], readTimer := none, write := none,
    quiet := false, counts := { framing := 0, check := 0, sequence := 0, timeout := 0, format := 0 }, sending := [],
    awaitsGap := false }

/-- DCU after a hard reset (R10). -/
def Dcu.reset : Dcu := { keys := [] }

/-- JCU after a hard reset (R42). -/
def Jcu.reset : Jcu :=
  { journey := none, number := 0, staging := .empty, delay := 0, carriage := 1, cls := .second,
    closeAtArrival := false,
    clock := { isSet := false, seconds := 0, millis := 0, trim := 0, trimAcc := 0, withhold := false } }

/-- The segments of an image all of whose 8192 bits are 0. -/
def ScreenImage.zeroSegments : Vector (List Byte) 32 := Vector.replicate 32 (List.replicate 32 0)

/-- RSU after a hard reset (R56). -/
def Rsu.reset : Rsu :=
  { active := { segments := ScreenImage.zeroSegments, generation := 0, offset := 0 }, pendingImage := none, list := [] }

/-- An unconfigured Tariff Area Table entry (R62). -/
def AreaEntry.unconfigured : AreaEntry :=
  { configured := false, rate := 0, kmin := 0, step := 1, cap := 0, surcharge := 0, childPercent := 0,
    toleranceCap := 0, accept := Vector.replicate 8 (List.replicate 64 0) }

/-- VEN after a hard reset (R57, R62, R75, R91); the policies are R75's defaults, codes 1 to 19. -/
def Ven.reset : Ven :=
  { engine := .idle, parked := none, areas := Vector.replicate 8 AreaEntry.unconfigured,
    policies := #v[.blocking, .blocking, .blocking, .noted, .blocking, .blocking, .blocking, .blocking, .noted,
      .blocking, .blocking, .blocking, .blocking, .blocking, .blocking, .noted, .noted, .blocking, .noted],
    m1 := 150 }

/-- IRG after a hard reset (R101, R106). -/
def Irg.reset : Irg := { records := [], passback := 120 }

/-- CTB after a hard reset (R130). -/
def Ctb.reset : Ctb := { cases := [], closedWaiting := [], nextSerial := 1, timeout := 10, resolution := none }

/-- JNL after a hard reset (R172, R184). -/
def Jnl.reset : Jnl :=
  { records := [], lastSequence := 0, dropCount := 0, lowThreshold := 512, lowArmed := true, fullArmed := true,
    quietTimer := none, absoluteTimer := none, unreported := 0, quietSetting := 5, absoluteSetting := 60 }

/-- The block right after a hard reset, before POWER_ON or RESET_N_HIGH queues START (log 10). -/
def State.reset : State :=
  { lif := Lif.reset, iq := Iq.reset, ciu := Ciu.reset, dcu := Dcu.reset, jcu := Jcu.reset, rsu := Rsu.reset,
    ven := Ven.reset, irg := Irg.reset, ctb := Ctb.reset, jnl := Jnl.reset, resetN := true, timebase := 0,
    hostSent := [], cardSent := [], pending := [] }

/-- Why the block stops: never. Every line fault and every refusal of a request is an effect on State (R133, R155,
R158), so no command ends in a fault and the type has no constructor (safe: nothing is stopped short). -/
inductive Fault where
  deriving DecidableEq, Repr

/-- Why a command has no meaning. -/
inductive Refusal where
  /-- Raised only by an arm of `exec` whose command has no meaning yet (there is none such; safe: it stops). -/
  | notModelled (mnemonic : String)
  deriving DecidableEq, Repr

end Sys2Proof.Machine
end

