-- ==== Sys2Proof/Machine/Formats.lean ====
section
/-! DEFINITION. The byte layouts of chapter 11 and the two lines' frame forms (R131, R153, R185 to R193): what every
reply, notice, journal record and card-line frame is as bytes. -/

namespace Sys2Proof.Machine

/-! ### Numbers as bytes (R185) -/

/-- A one-byte field. -/
def u8 (n : Nat) : List Byte := [BitVec.ofNat 8 n]

/-- A two-byte field, most significant byte first. -/
def u16 (n : Nat) : List Byte := [BitVec.ofNat 8 (n / 256), BitVec.ofNat 8 n]

/-- A three-byte field, most significant byte first. -/
def u24 (n : Nat) : List Byte := BitVec.ofNat 8 (n / 65536) :: u16 n

/-- A four-byte field, most significant byte first. -/
def u32 (n : Nat) : List Byte := u16 (n / 65536) ++ u16 n

/-- A six-byte field (a serial), most significant byte first. -/
def u48 (n : Nat) : List Byte := u16 (n / 4294967296) ++ u32 n

/-- A signed two-byte field, in two's complement. -/
def i16 (z : Int) : List Byte := u16 (BitVec.ofInt 16 z).toNat

/-- A yes or no field, or one bit of a flags byte: 1 or 0. -/
def bit (b : Bool) : Nat := if b then 1 else 0

/-- The number a string of bytes spells, most significant byte first. -/
def beNat (bytes : List Byte) : Nat := bytes.foldl (fun acc b => acc * 256 + b.toNat) 0

/-- The number in the `len` bytes at offset `off`. -/
def fieldAt (bytes : List Byte) (off len : Nat) : Nat := beNat ((bytes.drop off).take len)

/-- A two-byte field read as signed. -/
def signed16 (n : Nat) : Int := if n < 32768 then (n : Int) else (n : Int) - 65536

/-- Bit i of a bit map laid out as R43 and R64 give: byte i / 8, position i mod 8 counted from the most significant. -/
def bitAt (bytes : List Byte) (i : Nat) : Bool := (bytes.getD (i / 8) 0).getMsbD (i % 8)

/-- The optional value, or 0 in its place (R185: an absent field's bytes are sent as 0). -/
def orZero (o : Option Nat) : Nat := o.getD 0

/-! ### CRC-16 (R138, R153): polynomial 0x1021, initial value 0xFFFF, most significant bit first, not inverted -/

/-- One bit of the CRC. -/
def crcBit (c : BitVec 16) : BitVec 16 := if c.msb then (c <<< 1) ^^^ 0x1021#16 else c <<< 1

/-- One byte of the CRC. -/
def crcByte (c : BitVec 16) (b : Byte) : BitVec 16 :=
  crcBit (crcBit (crcBit (crcBit (crcBit (crcBit (crcBit (crcBit (c ^^^ (b.zeroExtend 16 <<< 8)))))))))

/-- The CRC-16 of a string of bytes. -/
def crc16 (bytes : List Byte) : BitVec 16 := bytes.foldl crcByte 0xFFFF#16

/-! ### Enumerations (R185, R186, R189) -/

/-- Reply statuses (R158). -/
inductive Status where
  | ok
  | busy
  | wrongState
  | badField
  | full
  | noSuch
  | unknown
  deriving DecidableEq, Repr

def Status.code : Status → Nat
  | .ok => 0 | .busy => 1 | .wrongState => 2 | .badField => 3 | .full => 4 | .noSuch => 5 | .unknown => 6

def TravelClass.code : TravelClass → Nat
  | .first => 1 | .second => 2

/-- The class a code names. -/
def TravelClass.ofCode? : Nat → Option TravelClass
  | 1 => some .first
  | 2 => some .second
  | _ => none

def KeyState.code : KeyState → Nat
  | .active => 1 | .retiring => 2 | .withdrawn => 3

/-- The key state a code names. -/
def KeyState.ofCode? : Nat → Option KeyState
  | 1 => some .active
  | 2 => some .retiring
  | 3 => some .withdrawn
  | _ => none

def ListAction.code : ListAction → Nat
  | .revoke => 1 | .clear => 2

/-- The list action a code names. -/
def ListAction.ofCode? : Nat → Option ListAction
  | 1 => some .revoke
  | 2 => some .clear
  | _ => none

def Policy.code : Policy → Nat
  | .blocking => 1 | .noted => 2 | .ignored => 3

/-- The policy a code names. -/
def Policy.ofCode? : Nat → Option Policy
  | 1 => some .blocking
  | 2 => some .noted
  | 3 => some .ignored
  | _ => none

def Finding.code : Finding → Nat
  | .checkMismatch => 1 | .issuerUnknown => 2 | .keyWithdrawn => 3 | .keyRetiring => 4 | .revoked => 5
  | .screenHit => 6 | .notYetValid => 7 | .expired => 8 | .delayGrace => 9 | .offRoute => 10
  | .shortCoverage => 11 | .classMismatch => 12 | .productRefused => 13 | .ridesExhausted => 14
  | .serviceMismatch => 15 | .repeatElsewhere => 16 | .rideTorn => 17 | .areaUnconfigured => 18
  | .registerFull => 19

/-- Every finding, by rising code. -/
def Finding.all : List Finding :=
  [.checkMismatch, .issuerUnknown, .keyWithdrawn, .keyRetiring, .revoked, .screenHit, .notYetValid, .expired,
    .delayGrace, .offRoute, .shortCoverage, .classMismatch, .productRefused, .ridesExhausted, .serviceMismatch,
    .repeatElsewhere, .rideTorn, .areaUnconfigured, .registerFull]

/-- The finding a code names. -/
def Finding.ofCode? (n : Nat) : Option Finding := Finding.all.find? (fun f => f.code == n)

def Verdict.code : Verdict → Nat
  | .pass => 1 | .passNoted => 2 | .action => 3 | .unreadable => 4

def RegStatus.code : RegStatus → Nat
  | .none => 0 | .new => 1 | .seen => 2 | .full => 3

def RideOutcome.code : RideOutcome → Nat
  | .none => 0 | .written => 1 | .torn => 2 | .takenToken => 3 | .notWritten => 4 | .alreadyTaken => 5
  | .writeStarted => 6

def CaseOutcome.code : CaseOutcome → Nat
  | .accepted => 1 | .refused => 2 | .charged => 3 | .timedOut => 4 | .journeyEnded => 5

def StartCause.code : StartCause → Nat
  | .power => 1 | .line => 2 | .soft => 3

def WakeCause.code : WakeCause → Nat
  | .link => 1 | .card => 2

def LinkFaultCause.code : LinkFaultCause → Nat
  | .length => 1 | .crc => 2 | .gap => 3 | .overrun => 4

def DiscardCause.code : DiscardCause → Nat
  | .stopAbsent => 1 | .atEnd => 2 | .closing => 3

def CardEventKind.code : CardEventKind → Nat
  | .busy => 1 | .removedEarly => 2 | .framing => 3 | .check => 4 | .sequence => 5 | .timeout => 6 | .format => 7

def CardState.code : CardState → Nat
  | .absent => 0 | .reading => 1 | .queued => 2 | .writing => 3 | .settled => 4

def ReleaseOutcome.code : ReleaseOutcome → Nat
  | .pass => 1 | .note => 2 | .action => 3 | .error => 4

def Engine.code : Engine → Nat
  | .idle => 0 | .judging _ => 1 | .checking _ _ => 2

def Power.code : Power → Nat
  | .active => 1 | .standby => 2

def Staging.code : Staging → Nat
  | .empty => 0 | .filling _ _ _ _ => 1 | .armed _ => 2

/-- The journey state's code: NONE 0, OPEN 1, CLOSING 2. -/
def Jcu.stateCode (j : Jcu) : Nat :=
  match j.journey with
  | none => 0
  | some r => if r.closing then 2 else 1

/-- The position code and index byte (R185). -/
def Position.bytes : Position → List Byte
  | .atStop k => u8 1 ++ u8 k
  | .running k => u8 2 ++ u8 k

/-- The source's code: LINK 1, CARD 2. -/
def Origin.code : Origin → Nat
  | .link => 1
  | .card _ _ => 2

/-- The source is CARD. -/
def Origin.isCard : Origin → Bool
  | .link => false
  | .card _ _ => true

/-! ### Notices (R186, R190, R191) -/

/-- A notice's kind. -/
def Notice.code : Notice → Nat
  | .start _ _ _ _ => 0x80 | .wake _ => 0x81 | .linkFault _ _ _ => 0x82 | .intakeHold _ _ => 0x83
  | .intakeResume _ _ => 0x84 | .verdict _ => 0x88 | .caseClosed _ => 0x89 | .routeApplied _ _ _ _ _ => 0x8C
  | .routeDiscarded _ _ => 0x8D | .journeyClosed _ _ => 0x8E | .cardEvent _ => 0x90 | .journalReady _ _ => 0x94
  | .journalLow _ _ _ _ => 0x95 | .journalFull _ _ => 0x96

/-- The key bytes of a notice or record: issuer and serial, or zeros. -/
def keyBytes (k : Option CredKey) : List Byte :=
  match k with
  | some k => u8 k.issuer ++ u48 k.serial
  | none => List.replicate 7 0

/-- The quote bytes of a notice: amount and end stop code, or zeros. -/
def quoteBytes (q : Option (Nat × Nat)) : List Byte :=
  match q with
  | some (amount, stop) => u32 amount ++ u16 stop
  | none => List.replicate 6 0

/-- The VERDICT body (R190). -/
def VerdictReport.body (v : VerdictReport) : List Byte :=
  u16 v.intake ++ u8 (bit v.fromCard + 1) ++ u16 v.journey ++
  u8 (bit v.key.isSome + 2 * bit v.ridesRemaining.isSome + 4 * bit v.quote.isSome + 8 * bit v.caseSerial.isSome) ++
  keyBytes v.key ++ u8 v.verdict.code ++ u8 v.regStatus.code ++ u8 v.inspCount ++ u8 v.rideOutcome.code ++
  u8 (orZero v.ridesRemaining) ++ quoteBytes v.quote ++ u16 (orZero v.caseSerial) ++ u8 v.secIndex ++
  u16 v.epoch ++ u8 v.carriage ++ u8 v.cls.code ++ u8 v.findings.length ++ v.findings.flatMap (fun f => u8 f.code)

/-- The CASE-CLOSED body (R191). -/
def ClosedCase.body (c : ClosedCase) : List Byte :=
  u16 c.serial ++ u16 c.journey ++ u16 c.intake ++ u8 (bit c.quote.isSome + 2 * bit c.ridesRemaining.isSome) ++
  keyBytes (some c.key) ++ u8 c.outcome.code ++ u8 c.rideOutcome.code ++ u8 (orZero c.ridesRemaining) ++
  quoteBytes c.quote ++ u16 c.epoch

/-- The CARD-EVENT body (R191). -/
def CardEvent.body (e : CardEvent) : List Byte :=
  u8 e.event.code ++ u8 (bit e.session.isSome + 2 * bit e.identifier.isSome + 4 * bit e.count.isSome) ++
  u16 (orZero e.session) ++ e.identifier.getD (List.replicate 7 0) ++ u16 (orZero e.count) ++ u8 e.state.code

/-- A notice's body (R190, R191). -/
def Notice.body : Notice → List Byte
  | .start cause journey clockSet newest => u8 cause.code ++ u16 journey ++ u8 (bit clockSet) ++ u32 newest
  | .wake cause => u8 cause.code
  | .linkFault cause header count =>
      u8 cause.code ++ u8 (bit header.isSome) ++
      (match header with
        | some (kind, tag) => [kind, tag]
        | none => [0, 0]) ++ u8 count
  | .intakeHold count high => u8 count ++ u8 high
  | .intakeResume count low => u8 count ++ u8 low
  | .verdict report => report.body
  | .caseClosed closed => closed.body
  | .routeApplied epoch service code oldIndex newIndex =>
      u16 epoch ++ u16 service ++ u16 code ++ u8 oldIndex ++ u8 newIndex
  | .routeDiscarded cause service => u8 cause.code ++ u16 service
  | .journeyClosed journey cases => u16 journey ++ u8 cases
  | .cardEvent event => event.body
  | .journalReady unreported last => u16 unreported ++ u32 last
  | .journalLow free threshold oldest newest => u16 free ++ u16 threshold ++ u32 oldest ++ u32 newest
  | .journalFull sequence drops => u32 sequence ++ u16 drops

/-- What the CRC of a host-link frame covers (R153): kind, tag, body length and body. -/
def coveredBytes (kind tag : Byte) (body : List Byte) : List Byte := kind :: tag :: (u16 body.length ++ body)

/-- A host-link frame (R153): marker, the covered bytes, CRC. -/
def hostFrameBytes (kind tag : Byte) (body : List Byte) : List Byte :=
  0xA5#8 :: (coveredBytes kind tag body ++ u16 (crc16 (coveredBytes kind tag body)).toNat)

/-- A frame of the outbound queue as bytes; the tag of every notice is 0 (R153). -/
def OutFrame.bytes : OutFrame → List Byte
  | .reply kind tag body => hostFrameBytes kind tag body
  | .notice n => hostFrameBytes (BitVec.ofNat 8 n.code) 0 n.body

/-! ### Journal records (R192) -/

/-- The kind's code. -/
def JournalBody.code : JournalBody → Nat
  | .journeyStart _ _ _ _ _ => 1
  | .inspection _ _ _ _ _ _ _ _ _ _ _ _ => 2
  | .caseEnd _ _ _ _ _ _ => 3
  | .ride _ _ _ _ _ => 4
  | .routeChange _ _ _ _ _ _ => 5
  | .journeyEnd _ _ _ _ => 6
  | .partReset _ _ => 7

/-- The findings word: bit c - 1 is set for each finding code c. -/
def findingsWord (fs : List Finding) : Nat :=
  (Finding.all.filter (fun f => f ∈ fs)).foldl (fun acc f => acc + 2 ^ (f.code - 1)) 0

/-- The three-byte quote amount and the end stop code, or zeros. -/
def journalQuoteBytes (q : Option (Nat × Nat)) : List Byte :=
  match q with
  | some (amount, stop) => u24 amount ++ u16 stop
  | none => List.replicate 5 0

/-- The kind's fields, from offset 9. -/
def JournalBody.fields : JournalBody → List Byte
  | .journeyStart journey service dayStart stopCount startCode =>
      u16 journey ++ u16 service ++ u32 dayStart ++ u8 stopCount ++ u16 startCode
  | .inspection journey fromCard key verdict findings quote caseSerial uncased taken secIndex carriage cls =>
      u16 journey ++
      u8 (bit fromCard + 2 * bit key.isSome + 4 * bit quote.isSome + 8 * bit caseSerial.isSome + 16 * bit uncased) ++
      u8 (16 * verdict.code + taken.code) ++ keyBytes key ++ u24 (findingsWord findings) ++
      journalQuoteBytes quote ++ u16 (orZero caseSerial) ++ u8 secIndex ++ u8 (8 * carriage + (cls.code - 1))
  | .caseEnd serial journey key outcome quote taken =>
      u16 serial ++ u16 journey ++ keyBytes (some key) ++ u8 outcome.code ++ u8 taken.code ++
      u8 (bit quote.isSome) ++ journalQuoteBytes quote
  | .ride serial journey key outcome remaining =>
      u16 serial ++ u16 journey ++ keyBytes (some key) ++ u8 outcome.code ++ u8 remaining
  | .routeChange journey oldEpoch newEpoch oldService newService code =>
      u16 journey ++ u16 oldEpoch ++ u16 newEpoch ++ u16 oldService ++ u16 newService ++ u16 code
  | .journeyEnd journey epoch code cases => u16 journey ++ u16 epoch ++ u16 code ++ u8 cases
  | .partReset journey journeyState => u16 journey ++ u8 journeyState

/-- The 32 bytes of a record. -/
def JournalRecord.bytes (r : JournalRecord) : List Byte :=
  let fields := r.body.fields
  u32 r.sequence ++ u8 r.body.code ++ u32 r.time ++ fields ++ List.replicate (23 - fields.length) 0

/-! ### Card-line frames (R131, R188, R189) -/

/-- The kind of a frame the CIU sends. -/
def CardFrame.code : CardFrame → Nat
  | .readImage _ => 0x11
  | .writeCounter _ _ => 0x12
  | .release _ => 0x13

/-- The body of a frame the CIU sends. -/
def CardFrame.body : CardFrame → List Byte
  | .readImage _ => []
  | .writeCounter _ block => block
  | .release outcome => u8 outcome.code

/-- The sum of bytes modulo 256. -/
def byteSum (bytes : List Byte) : Byte := bytes.foldl (fun acc b => acc + b) 0

/-- A card-line frame as bytes, in either direction: kind, length, body, and the check byte that makes the sum of all of
them 0 modulo 256 (R131). -/
def cardFrameBytes (kind : Nat) (body : List Byte) : List Byte :=
  let front := u8 kind ++ u8 body.length ++ body
  front ++ [0 - byteSum front]

/-- The frame as bytes. -/
def CardFrame.bytes (f : CardFrame) : List Byte := cardFrameBytes f.code f.body

/-- The CRC of a counter record (R138): over its rides and sequence and the six serial bytes. -/
def counterCrc (c : Counter) (serial : List Byte) : BitVec 16 := crc16 (u8 c.rides ++ u16 c.sequence ++ serial)

/-- The counter block of a WRITE-COUNTER (R145, R188). -/
def counterBlock (c : Counter) (serial : List Byte) : List Byte :=
  u8 c.rides ++ u16 c.sequence ++ u16 (counterCrc c serial).toNat ++ List.replicate 11 0

end Sys2Proof.Machine
end

