-- ==== Sys2Proof/Machine/Operands.lean ====
section
/-! DEFINITION. The catalogue of request kinds and the body size each requires (R186), the readers of the request
fields that are more than one number, and the decoder of the frames received on the card line (R131, R132, R189). -/

namespace Sys2Proof.Machine

/-- The request kinds whose body has one fixed size, with that size (R186). -/
def fixedSizes : List (Nat × Nat) :=
  [(0x01, 0), (0x02, 0), (0x03, 0), (0x04, 2), (0x10, 6), (0x11, 2), (0x12, 1), (0x13, 1), (0x14, 7), (0x16, 0),
    (0x17, 0), (0x18, 1), (0x19, 1), (0x1A, 2), (0x1B, 2), (0x20, 18), (0x21, 3), (0x22, 2), (0x24, 5), (0x25, 33),
    (0x26, 0), (0x27, 9), (0x28, 7), (0x29, 0), (0x2C, 13), (0x2D, 66), (0x2E, 1), (0x2F, 2), (0x30, 3), (0x31, 4),
    (0x32, 1), (0x33, 2), (0x34, 1), (0x38, 4), (0x39, 4), (0x3A, 5)]

/-- PRESENT, whose body is 1 to 80 bytes. -/
def presentKind : Nat := 0x08

/-- ROUTE-STOPS, whose body size its count byte decides. -/
def routeStopsKind : Nat := 0x15

/-- The kind is a request kind of the catalogue (R158, R186). -/
def isRequestKind (kind : Nat) : Bool :=
  kind == presentKind || kind == routeStopsKind || (fixedSizes.lookup kind).isSome

/-- The body is the size its kind requires (R158, R186). -/
def sizeOk (kind : Nat) (body : List Byte) : Bool :=
  if kind = presentKind then 1 ≤ body.length && body.length ≤ 80
  else if kind = routeStopsKind then 2 ≤ body.length && body.length == 2 + 8 * fieldAt body 1 1
  else fixedSizes.lookup kind == some body.length

/-- One stop record of ROUTE-STOPS (R186): code, post, area, zone, planned departure. -/
def stopAt (body : List Byte) (off : Nat) : Stop :=
  { code := fieldAt body off 2, post := fieldAt body (off + 2) 2, area := fieldAt body (off + 4) 1,
    zone := fieldAt body (off + 5) 1, planned := fieldAt body (off + 6) 2 }

/-- The `count` stop records of a ROUTE-STOPS body. -/
def stopRecords (body : List Byte) (count : Nat) : List Stop :=
  (List.range count).map (fun i => stopAt body (2 + 8 * i))

/-- The credential key at an offset: issuer (1) and serial (6). -/
def credKeyAt (body : List Byte) (off : Nat) : CredKey :=
  { issuer := fieldAt body off 1, serial := fieldAt body (off + 1) 6 }

/-! ### Frames received on the card line (R131, R132, R189) -/

/-- The result byte of a WRITTEN frame (R189). -/
inductive WriteResult where
  | done
  | lost
  deriving DecidableEq, Repr

/-- What a well-formed frame of the front end says (R132). -/
inductive CardReceived where
  | cardUp (identifier : List Byte)
  | block (index : Byte) (data : List Byte)
  | cardDown
  | written (result : WriteResult)
  deriving DecidableEq, Repr

/-- The body has the size and the values its kind requires, and the kind is one that the front end sends; none otherwise
(R132, R189). -/
def decodeCardBody (kind : Nat) (body : List Byte) : Option CardReceived :=
  match kind, body with
  | 1, _ => if body.length = 7 then some (.cardUp body) else none
  | 2, index :: data => if data.length = 16 then some (.block index data) else none
  | 3, [] => some .cardDown
  | 4, [result] =>
    if result = 1 then some (.written .done) else if result = 2 then some (.written .lost) else none
  | _, _ => none

/-- A received frame as its parts kind, length, body and check byte: what it says, or none when it is not well formed.
The check byte is right when the sum of all bytes is 0 modulo 256, and the length is at most 20 (R131, R132). -/
def decodeCardFrame (frame : List Byte) : Option CardReceived :=
  match frame with
  | kind :: length :: rest =>
    if length.toNat ≤ 20 ∧ rest.length = length.toNat + 1 ∧ byteSum frame = 0 then
      decodeCardBody kind.toNat (rest.take length.toNat)
    else none
  | _ => none

/-! ### Clamping -/

/-- A signed value held to the range lo to hi (00 "Clamping"). -/
def clampInt (lo hi z : Int) : Int := max lo (min hi z)

/-- A value held to the range lo to hi (00 "Clamping"). -/
def clampNat (lo hi n : Nat) : Nat := max lo (min hi n)

end Sys2Proof.Machine
end

