-- ==== Sys2Proof/Machine/Ops.lean ====
section
/-! DEFINITION. The operations more than one unit uses: the outbound queue and its notices (R159 to R161), the take of
a request (R157, R158), the wake (R168), the journal's append (R175 to R177, R180), the Intake Queue's additions and its
HOLD (R163, R165), and the clock. -/

namespace Sys2Proof.Machine

/-- Saturating increment. -/
def satSucc (max n : Nat) : Nat := if n < max then n + 1 else n

/-- A command acts only while RESET_N is high: while it is low the part "takes no frame on either line, sends nothing
and runs no timer" (R170). -/
def whenRunning (f : State → State) (s : State) : State := if s.resetN then f s else s

/-! ### The outbound queue -/

/-- The free slots (R159): neither holding a frame nor reserved. While a notice waits in the list or pends, none: a slot
that empties is taken by such a notice "at that instant, before the slot counts as free to any other producer" (R160,
R161; log 8). -/
def freeSlots (l : Lif) : Nat :=
  if l.waiting.isEmpty && l.pendingNotices.isEmpty then 24 - l.outbound.length else 0

/-- The notice enters the outbound queue; a LINK-FAULT that enters returns the fault count to 0 (R155). -/
def enterNotice (n : Notice) (l : Lif) : Lif :=
  { l with
    outbound := l.outbound ++ [.frame (.notice n)]
    faultCount := match n with
      | .linkFault _ _ _ => 0
      | _ => l.faultCount }

/-- The notice takes its place among the pending notices, which rise by kind code, and replaces one of its own kind
(R161). -/
def insertPending (n : Notice) : List Notice → List Notice
  | [] => [n]
  | m :: ms =>
    if n.code < m.code then n :: m :: ms
    else if n.code = m.code then n :: ms
    else m :: insertPending n ms

/-- The kind that a notice cancels when it becomes pending: INTAKE-HOLD and INTAKE-RESUME cancel each other (R161). -/
def cancelledCode (n : Notice) : Option Nat :=
  match n with
  | .intakeHold _ _ => some 0x84
  | .intakeResume _ _ => some 0x83
  | _ => none

/-- The singleton notice becomes the pending content of its kind (R161). -/
def pendNotice (n : Notice) (l : Lif) : Lif :=
  { l with
    pendingNotices :=
      insertPending n (l.pendingNotices.filter (fun m => cancelledCode n != some m.code)) }

/-- A singleton notice is produced: it enters at once if a slot is free and becomes pending otherwise (R161). -/
def produceSingleton (n : Notice) (l : Lif) : Lif :=
  if 0 < freeSlots l then enterNotice n l else pendNotice n l

/-- A ROUTE-APPLIED, ROUTE-DISCARDED or WAKE is produced: it enters at once if a slot is free and joins the waiting
list otherwise (R160). -/
def produceWaiting (n : Notice) (l : Lif) : Lif :=
  if 0 < freeSlots l then enterNotice n l else { l with waiting := l.waiting ++ [n] }

/-- Several singleton notices are produced in order. -/
def produceAll (ns : List Notice) (l : Lif) : Lif := ns.foldl (fun l n => produceSingleton n l) l

/-- Several singleton notices become pending in order, as if no slot were free (R40). -/
def pendAll (ns : List Notice) (l : Lif) : Lif := ns.foldl (fun l n => pendNotice n l) l

/-- The reply is placed in the reserved slot (R157). -/
def placeReply (reply : OutFrame) : List Slot → List Slot
  | [] => []
  | .reserved :: rest => .frame reply :: rest
  | slot :: rest => slot :: placeReply reply rest

/-- The frame on the line, when one is being sent: in ACTIVE the LIF sends the head whenever there is one, in STANDBY
until the STANDBY reply has been sent (R159, R167; log 9). -/
def beingSent (l : Lif) : List Slot :=
  match l.outbound with
  | .frame f :: _ => if l.power = .active ∨ 0 < l.standbyToSend then [.frame f] else []
  | _ => []

/-! ### Taking a request (R157, R158) -/

/-- What a request's handling gives: the state, and the reply's body. -/
abbrev Answer := State × List Byte

/-- A refusal with its status alone, the state unchanged (R158). -/
def refuse (status : Status) (s : State) : Answer := (s, u8 status.code)

/-- An OK reply with its fields (R158). -/
def okReply (fields : List Byte) (s : State) : Answer := (s, u8 Status.ok.code ++ fields)

/-- The conditions of R157 other than the buffer's: ACTIVE, a free slot, an empty waiting list. -/
def canTakeRequest (l : Lif) : Bool := l.power == .active && 0 < freeSlots l && l.waiting.isEmpty

/-- The LIF takes the oldest frame of the request buffer, when it is one that `wanted` names and the conditions of R157
hold: it leaves the buffer, a slot is reserved, the request is handled in one step, and the reply goes into the reserved
slot, before every notice the handling queued (R157). -/
def takeFrame (wanted : RequestFrame → Bool) (handle : RequestFrame → State → State × OutFrame) (s : State) : State :=
  match s.lif.requests with
  | [] => s
  | frame :: rest =>
    if wanted frame && canTakeRequest s.lif then
      let r := handle frame
        { s with lif := { s.lif with requests := rest, outbound := s.lif.outbound ++ [.reserved] } }
      { r.1 with lif := { r.1.lif with outbound := placeReply r.2 r.1.lif.outbound } }
    else s

/-- The LIF refuses a body of the wrong size BAD-FIELD before the owning block sees it (R158, R186); the reply's kind
is the request's plus 0x40 and its tag the request's (R157). -/
def answerRequest (kind : Nat) (handle : List Byte → State → Answer) (frame : RequestFrame) (s : State) :
    State × OutFrame :=
  let answer := if sizeOk kind frame.body then handle frame.body s else refuse .badField s
  (answer.1, .reply (BitVec.ofNat 8 (kind + 0x40)) frame.tag answer.2)

/-- The take of a request of one kind. -/
def takeRequest (kind : Nat) (handle : List Byte → State → Answer) (s : State) : State :=
  whenRunning (takeFrame (fun frame => frame.kind.toNat == kind) (answerRequest kind handle)) s

/-! ### Power -/

/-- The LIF's part of a wake (R168): nothing while ACTIVE. -/
def wakeLif (cause : WakeCause) (l : Lif) : Lif :=
  match l.power with
  | .active => l
  | .standby => produceWaiting (.wake cause) { l with power := .active, standbyToSend := 0 }

/-- A wake is asked for (R168). -/
def wake (cause : WakeCause) (s : State) : State := { s with lif := wakeLif cause s.lif }

/-! ### The journal's append (R175 to R177, R180) -/

/-- The free count (R172). -/
def Jnl.free (j : Jnl) : Nat := 2048 - j.records.length

/-- The oldest stored sequence, 0 when the ring is empty (R172). -/
def Jnl.oldest (j : Jnl) : Nat :=
  match j.records with
  | [] => 0
  | r :: _ => r.sequence

/-- The newest stored sequence, 0 when the ring is empty (R172). -/
def Jnl.newest (j : Jnl) : Nat :=
  match j.records.getLast? with
  | none => 0
  | some r => r.sequence

/-- The largest sequence number (R175). -/
def maxSequence : Nat := 4294967295

/-- A record is dropped (R175, R176): the drop count rises, and a drop taken while full armed produces JOURNAL-FULL. -/
def Jnl.drop (sequence : Nat) (j : Jnl) : Jnl × List Notice :=
  let drops := satSucc 65535 j.dropCount
  ({ j with lastSequence := sequence, dropCount := drops, fullArmed := false },
    if j.fullArmed then [.journalFull sequence drops] else [])

/-- The JOURNAL-LOW a stored append produces (R177), on the ring with the record stored. -/
def Jnl.lowCheck (j : Jnl) : Jnl × List Notice :=
  if j.lowArmed && j.free == j.lowThreshold then
    ({ j with lowArmed := false }, [.journalLow j.free j.lowThreshold j.oldest j.newest])
  else (j, [])

/-- JOURNAL-READY is produced: it holds the unreported count, which becomes 0, and the last sequence (R181). -/
def Jnl.ready (j : Jnl) : Jnl × List Notice :=
  ({ j with unreported := 0 }, [.journalReady j.unreported j.lastSequence])

/-- The batch timers at a stored append (R180); `now` is the timebase. -/
def Jnl.batch (now : Nat) (j : Jnl) : Jnl × List Notice :=
  let counted := { j with unreported := satSucc 65535 j.unreported }
  if j.quietSetting = 0 then counted.ready
  else
    let absolute :=
      if j.quietTimer.isNone && j.absoluteTimer.isNone then
        if j.absoluteSetting = 0 then none else some (now + 1000 * j.absoluteSetting)
      else j.absoluteTimer
    ({ counted with quietTimer := some (now + 1000 * j.quietSetting), absoluteTimer := absolute }, [])

/-- A record is stored (R175): JOURNAL-LOW first, then the batch timers. -/
def Jnl.store (time now : Nat) (body : JournalBody) (j : Jnl) : Jnl × List Notice :=
  let sequence := j.lastSequence + 1
  let low := Jnl.lowCheck
    { j with lastSequence := sequence, records := j.records ++ [{ sequence := sequence, time := time, body := body }] }
  let batched := low.1.batch now
  (batched.1, low.2 ++ batched.2)

/-- An append (R175): stored, dropped with its number spent, or, once the last sequence is the largest, dropped with no
number spent. -/
def Jnl.append (time now : Nat) (body : JournalBody) (j : Jnl) : Jnl × List Notice :=
  if maxSequence ≤ j.lastSequence then j.drop j.lastSequence
  else if j.free = 0 then j.drop (j.lastSequence + 1)
  else j.store time now body

/-- The tariff time a record carries: the clock's whole seconds, or 0 while it is unset (R173). -/
def tariffTime (s : State) : Nat := if s.jcu.clock.isSet then s.jcu.clock.seconds else 0

/-- A unit appends a record; `emit` says what becomes of the notices the append produces. -/
def journalWith (emit : List Notice → Lif → Lif) (body : JournalBody) (s : State) : State :=
  let r := s.jnl.append (tariffTime s) s.timebase body
  { s with jnl := r.1, lif := emit r.2 s.lif }

/-- A unit appends a record, its notices produced at once (R175). -/
def journal (body : JournalBody) (s : State) : State := journalWith produceAll body s

/-! ### The Intake Queue -/

/-- The entry count has risen: the queue enters HOLD at the high mark (R165). -/
def holdAfterAdd (s : State) : State :=
  if !s.iq.hold && s.iq.high ≤ s.iq.entries.length then
    { s with iq := { s.iq with hold := true },
             lif := produceSingleton (.intakeHold s.iq.entries.length s.iq.high) s.lif }
  else s

/-- The entry count has fallen: the queue leaves HOLD at the low mark (R165). -/
def resumeAfterTake (s : State) : State :=
  if s.iq.hold && s.iq.entries.length ≤ s.iq.low then
    { s with iq := { s.iq with hold := false },
             lif := produceSingleton (.intakeResume s.iq.entries.length s.iq.low) s.lif }
  else s

/-- The intake number after `n` (R163). -/
def nextIntake (n : Nat) : Nat := (n + 1) % 65536

/-- An entry is added at the tail with the next intake number, the carriage and class of this instant and the clock's
whole seconds (R32, R162, R163), and the HOLD state follows (R165). -/
def addEntry (origin : Origin) (content : List Byte) (s : State) : State :=
  let number := nextIntake s.iq.counter
  let entry : Entry :=
    { intake := number, origin := origin, content := content, carriage := s.jcu.carriage, cls := s.jcu.cls,
      arrival := s.jcu.clock.seconds }
  holdAfterAdd { s with iq := { s.iq with counter := number, entries := s.iq.entries ++ [entry] } }

/-- The journey is OPEN (R18). -/
def journeyOpen (s : State) : Bool :=
  match s.jcu.journey with
  | some r => !r.closing
  | none => false

/-- The journey is CLOSING (R18). -/
def journeyClosing (s : State) : Bool :=
  match s.jcu.journey with
  | some r => r.closing
  | none => false

/-! ### Routes -/

/-- The index of a stop code on a route; codes are distinct (R22). -/
def Route.indexOf? (r : Route) (code : Nat) : Option Nat := r.stops.findIdx? (fun st => st.code == code)

/-- The stop at an index; every index the rules reach lies on the route. -/
def Route.stop (r : Route) (i : Nat) : Stop :=
  r.stops.getD i { code := 0, post := 0, area := 0, zone := 0, planned := 0 }

/-- The index a position names: its stop, or the start of its section (R25). -/
def Position.index : Position → Nat
  | .atStop k => k
  | .running k => k

end Sys2Proof.Machine
end

