-- ==== Sys2Proof/Machine/Coverage.lean ====
section
/-! DEFINITION. Coverage of a section (R66 to R68) and the quote (R86 to R96): the arithmetic that JUDGE, QUOTE and
CASE-QUOTE share. -/

namespace Sys2Proof.Machine

/-! ### Coverage -/

/-- Some stop of the route has the area. -/
def Route.hasArea (r : Route) (area : Nat) : Bool := r.stops.any (fun st => st.area == area)

/-- The credential is off the route: its placing fails (R66). -/
def offRoute (k : KindPart) (r : Route) : Bool :=
  match k with
  | .single o d =>
    match r.indexOf? o, r.indexOf? d with
    | some io, some id => io > id
    | _, _ => true
  | .returnTrip o d => (r.indexOf? o).isNone || (r.indexOf? d).isNone
  | .zones area _ => !r.hasArea area
  | .area area => !r.hasArea area

/-- Section i runs inside the stops lo to hi. -/
def sectionWithin (lo hi i : Nat) : Bool := lo ≤ i && i + 1 ≤ hi

/-- Section i is covered by kind (R67); a credential off the route covers none. -/
def coveredByKind (k : KindPart) (r : Route) (i : Nat) : Bool :=
  !offRoute k r &&
  match k with
  | .single o d =>
    match r.indexOf? o, r.indexOf? d with
    | some io, some id => sectionWithin io id i
    | _, _ => false
  | .returnTrip o d =>
    match r.indexOf? o, r.indexOf? d with
    | some io, some id => sectionWithin (min io id) (max io id) i
    | _, _ => false
  | .zones area zones =>
    (r.stop i).area == area && (r.stop (i + 1)).area == area &&
      zones.contains (r.stop i).zone && zones.contains (r.stop (i + 1)).zone
  | .area area => (r.stop i).area == area && (r.stop (i + 1)).area == area

/-- Section i is covered by the paid span (R67). -/
def coveredByPaid (paid : Option (Nat × Nat)) (r : Route) (i : Nat) : Bool :=
  match paid with
  | none => false
  | some (startCode, endCode) =>
    match r.indexOf? startCode, r.indexOf? endCode with
    | some ps, some pe => sectionWithin ps pe i
    | _, _ => false

/-- Section i is covered, by kind or by the paid span (R67). -/
def covered (k : KindPart) (paid : Option (Nat × Nat)) (r : Route) (i : Nat) : Bool :=
  coveredByKind k r i || coveredByPaid paid r i

/-! ### The quote -/

/-- What a quote is made from (R86). -/
structure QuoteInput where
  route : Route
  a : Nat
  x : Nat
  kind : KindPart
  cls : TravelClass
  adults : Nat
  children : Nat
  carriageClass : TravelClass
  paid : Option (Nat × Nat)
  upgradeHeld : Bool
  entry : AreaEntry
  m1 : Nat
  deriving DecidableEq, Repr

/-- The sections of the span, a to x - 1 (R87). -/
def spanSections (a x : Nat) : List Nat := (List.range (x - a)).map (fun i => a + i)

/-- A section's distance: the post of its end stop minus that of its start stop (02 section 2.2). -/
def sectionDistance (r : Route) (i : Nat) : Nat := (r.stop (i + 1)).post - (r.stop i).post

/-- The sum of the distances of the sections that pass a test (R88). -/
def sumDistances (r : Route) (test : Nat → Bool) (sections : List Nat) : Nat :=
  ((sections.filter test).map (sectionDistance r)).sum

/-- D_short: the distance of the uncovered sections (R88). -/
def shortDistance (q : QuoteInput) : Nat :=
  sumDistances q.route (fun i => !covered q.kind q.paid q.route i) (spanSections q.a q.x)

/-- C: the distance of the covered sections (R88). -/
def coveredDistance (q : QuoteInput) : Nat :=
  sumDistances q.route (fun i => covered q.kind q.paid q.route i) (spanSections q.a q.x)

/-- A class-2 credential in a class-1 carriage, with no class upgrade held (R71, R88). -/
def upgradeDue (cls carriageClass : TravelClass) (upgradeHeld : Bool) : Bool :=
  cls == .second && carriageClass == .first && !upgradeHeld

/-- D_up (R88). -/
def upgradeDistance (q : QuoteInput) : Nat :=
  if upgradeDue q.cls q.carriageClass q.upgradeHeld then coveredDistance q else 0

/-- A distance in hectometres as whole kilometres, part of one charged as one (R89). -/
def kmUpward (d : Nat) : Nat := if d % 10 > 0 then d / 10 + 1 else d / 10

/-- km_short (R89). -/
def chargedShort (kmin d : Nat) : Nat := if d = 0 then 0 else max kmin (kmUpward d)

/-- km_up (R89). -/
def chargedUp (d : Nat) : Nat := if d = 0 then 0 else kmUpward d

/-- A class's multiplier, out of 100 (R90). -/
def classMultiplier (m1 : Nat) : TravelClass → Nat
  | .first => m1
  | .second => 100

/-- The upgrade factor U: M_c - M_t when positive, 0 otherwise (R90). -/
def upgradeFactor (m1 : Nat) (carriageClass cls : TravelClass) : Nat :=
  classMultiplier m1 carriageClass - classMultiplier m1 cls

/-- The traveller weight Wt (R92). -/
def travellerWeight (adults children childPercent : Nat) : Nat := adults * 100 + children * childPercent

/-- The product P (R93), exact. -/
def quoteProduct (q : QuoteInput) : Nat :=
  q.entry.rate * travellerWeight q.adults q.children q.entry.childPercent *
    (chargedShort q.entry.kmin (shortDistance q) * classMultiplier q.m1 q.carriageClass +
      chargedUp (upgradeDistance q) * upgradeFactor q.m1 q.carriageClass q.cls)

/-- The amount: the product rounded once and upward to whole steps (R94). -/
def roundToStep (step product : Nat) : Nat :=
  let g := 1000000 * step
  if product % g > 0 then (product / g + 1) * step else product / g * step

/-- The total: the surcharge is added to a non-zero amount only (R95). -/
def withSurcharge (surcharge amount : Nat) : Nat := if 0 < amount then amount + surcharge else 0

/-- The quote result (R95, R96). -/
def computeQuote (q : QuoteInput) : Quote :=
  let total := withSurcharge q.entry.surcharge (roundToStep q.entry.step (quoteProduct q))
  { amount := min total q.entry.cap
    endStop := (q.route.stop q.x).code
    kmShort := chargedShort q.entry.kmin (shortDistance q)
    kmUp := chargedUp (upgradeDistance q)
    upgrade := 0 < upgradeDistance q
    capped := q.entry.cap < total
    area := (q.route.stop q.a).area }

/-- A quote's amount and end stop, as notices and records carry it (R85, R120). -/
def Quote.brief (q : Quote) : Nat × Nat := (q.amount, q.endStop)

end Sys2Proof.Machine
end

