-- ==== Sys2Proof/Machine/Irg.lean ====
section
/-! DEFINITION. The Inspection Register (06): finding, creating, evicting and updating records, the ride state's moves,
the paid span, and PASSBACK-SET. -/

namespace Sys2Proof.Machine

/-- The record with a credential key (R99). -/
def findRecord (key : CredKey) (rs : List Record) : Option Record := rs.find? (fun r => r.key == key)

/-- The record with a key is changed; its place in the order stays (R99). -/
def updateRecord (key : CredKey) (f : Record → Record) (rs : List Record) : List Record :=
  rs.map (fun r => if r.key = key then f r else r)

/-- The same on the block. -/
def modifyRecord (key : CredKey) (f : Record → Record) (s : State) : State :=
  { s with irg := { s.irg with records := updateRecord key f s.irg.records } }

/-- A record as it is created (R100, R102): its inspection count is 0 until JUDGE sets it. -/
def newRecord (key : CredKey) (seconds carriage : Nat) : Record :=
  { key := key, lastSeen := seconds, lastCarriage := carriage, count := 0, ride := .none, paid := none,
    upgrade := false, caseLink := none }

/-- The record may be evicted: its ride state is NONE and it holds no case link (R103). -/
def evictable (r : Record) : Bool := r.ride == .none && r.caseLink.isNone

/-- The register at the REGISTER stage: what it holds after, and the register status (R102, R103). -/
def registerLookup (key : CredKey) (seconds carriage : Nat) (rs : List Record) : List Record × RegStatus :=
  if (findRecord key rs).isSome then (rs, .seen)
  else if rs.length < 1024 then (rs ++ [newRecord key seconds carriage], .new)
  else if rs.any evictable then (rs.eraseP evictable ++ [newRecord key seconds carriage], .new)
  else (rs, .full)

/-- The update at the end of JUDGE (R104). -/
def seenUpdate (seconds carriage : Nat) (r : Record) : Record :=
  { r with lastSeen := seconds, lastCarriage := carriage, count := satSucc 255 r.count }

/-- The repeat judgement (R105) on a SEEN record as it stood before the update. -/
def repeatElsewhere (window seconds carriage : Nat) (r : Record) : Bool :=
  0 < window && r.lastCarriage != carriage && decide ((seconds : Int) - (r.lastSeen : Int) ≤ (window : Int))

/-- The sequence after `n`, modulo 65536 (R108). -/
def nextSequence (n : Nat) : Nat := (n + 1) % 65536

/-- The counter record a write places on the card (R145): rides minus 1, sequence plus 1. -/
def writtenCounter (c : Counter) : Counter := { rides := c.rides - 1, sequence := nextSequence c.sequence }

/-- A card write starts: PENDING, with the sequence the write leaves on the card (R108). -/
def Record.startWrite (c : Counter) (r : Record) : Record := { r with ride := .pending (nextSequence c.sequence) }

/-- The ride is taken: CONSUMED (R80, R109). -/
def Record.consume (r : Record) : Record := { r with ride := .consumed }

/-- A write ended without DONE: TORN, keeping its expected sequence (R109). -/
def Record.tear (r : Record) : Record :=
  match r.ride with
  | .pending expected => { r with ride := .torn expected }
  | _ => r

/-- The move of the record at the end of a write (R109). -/
def Record.endWrite (done : Bool) (r : Record) : Record := if done then r.consume else r.tear

/-- The paid span after a CHARGED decision for the stretch from stop a to stop x of the case's route (R113). -/
def extendPaid (route : Route) (a x : Nat) (paid : Option (Nat × Nat)) : Nat × Nat :=
  let fresh := ((route.stop a).code, (route.stop x).code)
  match paid with
  | none => fresh
  | some (startCode, endCode) =>
    match route.indexOf? startCode, route.indexOf? endCode with
    | some ps, some pe =>
      if ps ≤ x && a ≤ pe then ((route.stop (min ps a)).code, (route.stop (max pe x)).code) else fresh
    | _, _ => fresh

/-- PASSBACK-SET (R106). -/
def answerPassbackSet (body : List Byte) (s : State) : Answer :=
  let w := min 600 (fieldAt body 0 2)
  okReply (u16 w) { s with irg := { s.irg with passback := w } }

/-- PASSBACK_SET (R106). -/
def execPassbackSet (s : State) : Host.Outcome State Fault Refusal := .next (takeRequest 0x33 answerPassbackSet s)

end Sys2Proof.Machine
end

