-- ==== Sys2Proof/Machine/Cards.lean ====
section
/-! DEFINITION. What other units ask of the CIU: the session tests (R144), the start of a write (R145), and RELEASE. -/

namespace Sys2Proof.Machine

/-- The CIU sends a frame: it joins the frames to be sent, each complete before the next begins (R131). -/
def sendCard (f : CardFrame) (c : Ciu) : Ciu := { c with sending := c.sending ++ [f] }

/-- The session is present: the unit holds it, in the state the caller needs (R144). -/
def sessionPresent (state : CardState) (session : Nat) (c : Ciu) : Bool :=
  c.held && c.tag == session && c.state == state

/-- A write starts (R145): WRITE-COUNTER is sent with rides minus 1, sequence plus 1 and a CRC over these and the
serial; the unit enters WRITING, still holding the session. The timer starts when the frame has been sent. -/
def startWrite (owner : WriteOwner) (counter : Counter) (serial : Nat) (c : Ciu) : Ciu :=
  let block := counterBlock (writtenCounter counter) (u48 serial)
  sendCard (.writeCounter c.tag block)
    { c with state := .writing, write := some { owner := owner, block := block, timer := none } }

/-- The RELEASE outcome of a verdict (R143). -/
def releaseOf : Verdict → ReleaseOutcome
  | .pass => .pass
  | .passNoted => .note
  | .action => .action
  | .unreadable => .error

/-- The CIU at the issue of a CARD verdict (R143): RELEASE and SETTLED, when it is QUEUED on that session; otherwise
nothing. -/
def releaseAtIssue (verdict : Verdict) (session : Nat) (c : Ciu) : Ciu :=
  if sessionPresent .queued session c then sendCard (.release (releaseOf verdict)) { c with state := .settled } else c

end Sys2Proof.Machine
end

