-- ==== Sys2Proof/Machine/Cases.lean ====
section
/-! DEFINITION. Opening and closing a case (R117 to R119), shared by ISSUE, the decisions, the timeouts, CLOCK-SET and
close completion. -/

namespace Sys2Proof.Machine

/-- The value after `n` of the case serial counter: from 65535 to 1 (R117). -/
def serialAfter (n : Nat) : Nat := if n < 65535 then n + 1 else 1

/-- The serials of the cases still in a slot (R117). -/
def heldSerials (c : Ctb) : List Nat := c.cases.map (·.serial) ++ c.closedWaiting.map (·.serial)

/-- The first value from `n` on that no case in a slot has (R117); with at most three slots taken, `fuel` 4 reaches
it. -/
def freshSerial (held : List Nat) : Nat → Nat → Nat
  | 0, n => n
  | fuel + 1, n => if held.contains n then freshSerial held fuel (serialAfter n) else n

/-- The slots that are not FREE (R116, R130). -/
def heldSlots (c : Ctb) : Nat := c.cases.length + c.closedWaiting.length

/-- The register record an evaluation holds, as it stands (R57). -/
def recordOf (ev : Evaluation) (key : CredKey) (s : State) : Option Record :=
  if ev.hasRecord then findRecord key s.irg.records else none

/-- The current rides of a presentation: the counter record's for CARD, the content's for LINK (R73). -/
def currentRides (c : Credential) (o : Origin) : Nat :=
  match o with
  | .link => c.rides.getD 0
  | .card counter _ => counter.rides

/-- The new case's register link: the evaluation's record, when that holds no case link (R118). -/
def linksRecord (ev : Evaluation) (key : CredKey) (s : State) : Bool :=
  match recordOf ev key s with
  | some r => r.caseLink.isNone
  | none => false

/-- The fields of a new case (R118). -/
def newCase (serial : Nat) (linked : Bool) (c : Credential) (ev : Evaluation) (s : State) : Case :=
  let trusted := ev.trust == .trusted
  { serial := serial
    journey := ev.snapshot.journey
    intake := ev.intake
    key := c.key
    linked := linked
    origin := match ev.origin with
      | .link => .link
      | .card counter session => .card session (if trusted then some counter else none)
    rides := if trusted && c.rides.isSome then some (currentRides c ev.origin) else none
    route := ev.snapshot.route
    epoch := ev.snapshot.epoch
    a := ev.snapshot.a
    quote := ev.quote
    basis := if trusted then
        some { kind := c.kind, cls := c.cls, adults := c.adults, children := c.children, carriageClass := ev.cls }
      else none
    opened := s.jcu.clock.seconds
    deadline := s.jcu.clock.seconds + 60 * s.ctb.timeout }

/-- A case opens for an ACTION verdict if a slot is FREE (R118); the serial, or none for an UNCASED verdict. -/
def openCase (c : Credential) (ev : Evaluation) (s : State) : State × Option Nat :=
  if heldSlots s.ctb < 4 then
    let serial := freshSerial (heldSerials s.ctb) 4 s.ctb.nextSerial
    let linked := linksRecord ev c.key s
    let opened := { s with ctb := { s.ctb with cases := s.ctb.cases ++ [newCase serial linked c ev s],
                                               nextSerial := serialAfter serial } }
    (if linked then modifyRecord c.key (fun r => { r with caseLink := some serial }) opened else opened, some serial)
  else (s, none)

/-- What the CASE-CLOSED of a case reports (R120). -/
def closedOf (outcome : CaseOutcome) (ride : RideOutcome) (remaining : Option Nat) (c : Case) : ClosedCase :=
  { serial := c.serial, journey := c.journey, intake := c.intake, key := c.key, outcome := outcome,
    quote := c.quote.map Quote.brief, epoch := c.epoch, rideOutcome := ride, ridesRemaining := remaining }

/-- Steps 2 and 3 of a close (R119): the case leaves the OPEN cases, its record's case link is removed, and its route
reference goes with it. -/
def detachCase (c : Case) (s : State) : State :=
  let s' := { s with ctb := { s.ctb with cases := s.ctb.cases.filter (fun d => d.serial != c.serial) } }
  if c.linked then modifyRecord c.key (fun r => { r with caseLink := none }) s' else s'

/-- The CASE-END record of a close (R119, R174). -/
def caseEndRecord (closed : ClosedCase) : JournalBody :=
  .caseEnd closed.serial closed.journey closed.key closed.outcome closed.quote closed.rideOutcome

/-- Step 5 of a close (R119): CASE-CLOSED enters if a slot is free, and the case becomes CLOSED-WAITING otherwise. While a
case that closed before it is CLOSED-WAITING it waits behind that one, so the notices enter in the order of the closes
(R119, R127; log 19). -/
def queueCaseClosed (closed : ClosedCase) (s : State) : State :=
  if s.ctb.closedWaiting.isEmpty && 0 < freeSlots s.lif then { s with lif := enterNotice (.caseClosed closed) s.lif }
  else { s with ctb := { s.ctb with closedWaiting := s.ctb.closedWaiting ++ [closed] } }

/-- A case closes (R119). -/
def closeCase (outcome : CaseOutcome) (ride : RideOutcome) (remaining : Option Nat) (c : Case) (s : State) : State :=
  let closed := closedOf outcome ride remaining c
  queueCaseClosed closed (journal (caseEndRecord closed) (detachCase c s))

/-- A case closes by its timeout (R127): ride outcome NONE, the ride count as the case holds it (log 28). -/
def timeOutCase (c : Case) (s : State) : State := closeCase .timedOut .none c.rides c s

/-- A case's deadline has been reached (R127). -/
def deadlineReached (s : State) (c : Case) : Bool := s.jcu.clock.isSet && c.deadline ≤ s.jcu.clock.seconds

/-- Every OPEN case whose deadline the clock has reached closes, in the order the cases opened (R127). -/
def timeOutCases (s : State) : State := (s.ctb.cases.filter (deadlineReached s)).foldl (fun s c => timeOutCase c s) s

end Sys2Proof.Machine
end

