-- ==== Sys2Proof/Machine/Ctb.lean ====
section
/-! DEFINITION. The Case Table (07): the conductor's decisions, requoting, the timeouts, and the end of a resolution
write. -/

namespace Sys2Proof.Machine

/-- The OPEN case with a serial. -/
def findCase (serial : Nat) (cases : List Case) : Option Case := cases.find? (fun c => c.serial == serial)

/-- The CTB changes. -/
def withCtb (c : Ctb) (s : State) : State := { s with ctb := c }

/-! ### Decisions (R121 to R125) -/

/-- The decision a code names: ACCEPTED 1, REFUSED 2, CHARGED 3. -/
def decisionOf? : Nat → Option CaseOutcome
  | 1 => some .accepted
  | 2 => some .refused
  | 3 => some .charged
  | _ => none

/-- The effects of CHARGED on the linked record, before the ride (R124 steps 1 and 2, R113, R114). -/
def chargeRecord (c : Case) (q : Quote) (r : Record) : Record :=
  let x := (c.route.indexOf? q.endStop).getD 0
  { r with paid := some (extendPaid c.route c.a x r.paid), upgrade := r.upgrade || q.upgrade }

/-- A decision starts a card write (R125): PENDING, WRITE-COUNTER, and the resolution write entry. -/
def startResolutionWrite (c : Case) (counter : Counter) (current : Nat) (s : State) : State :=
  let written := modifyRecord c.key (Record.startWrite counter) s
  withCtb
    { written.ctb with
      resolution := some { serial := c.serial, journey := c.journey, key := c.key, rides := current } }
    { written with ciu := startWrite .resolutionWrite counter c.key.serial written.ciu }

/-- The ride an ACCEPTED or CHARGED decision takes (R123): the state, the ride outcome and the rides remaining. -/
def takeCaseRide (c : Case) (s : State) : State × RideOutcome × Option Nat :=
  match c.rides with
  | none => (s, .none, none)
  | some current =>
    match (if c.linked then findRecord c.key s.irg.records else none) with
    | none => (s, .notWritten, some current)
    | some r =>
      match r.ride with
      | .pending _ | .consumed => (s, .alreadyTaken, some current)
      | .torn _ => (s, .torn, some current)
      | .none =>
        if current = 0 then (s, .none, some 0)
        else
          match c.origin with
          | .link => (modifyRecord c.key Record.consume s, .takenToken, some (current - 1))
          | .card session (some counter) =>
            if sessionPresent .settled session s.ciu then
              (startResolutionWrite c counter current s, .writeStarted, some current)
            else (s, .notWritten, some current)
          | .card _ none => (s, .notWritten, some current)

/-- A decision's own effects (R122 to R124): REFUSED has none, and reports the ride count the case holds (log 28). -/
def decisionEffects (d : CaseOutcome) (c : Case) (s : State) : State × RideOutcome × Option Nat :=
  match d with
  | .accepted => takeCaseRide c s
  | .charged =>
    match c.quote with
    | some q => takeCaseRide c (modifyRecord c.key (chargeRecord c q) s)
    | none => takeCaseRide c s
  | _ => (s, .none, c.rides)

/-- CHARGED needs a register link and a current quote (R121). -/
def decisionAllowed (d : CaseOutcome) (c : Case) : Bool := d != .charged || (c.linked && c.quote.isSome)

/-- What the reply to CHARGED carries beside the fields of R121: the amount paid, which is the current quote's (R124). The
other decisions carry nothing more. -/
def paidAmount (d : CaseOutcome) (c : Case) : List Byte :=
  match d, c.quote with
  | .charged, some q => u32 q.amount
  | _, _ => []

/-- CASE-RESOLVE (R121): the effects first, then the close; an absent ride count is sent as 0 (log 26). The fields that
R121 lists come first, and the amount that R124 adds for CHARGED last (log 43). -/
def answerCaseResolve (body : List Byte) (s : State) : Answer :=
  match findCase (fieldAt body 0 2) s.ctb.cases with
  | none => refuse .noSuch s
  | some c =>
    match decisionOf? (fieldAt body 2 1) with
    | none => refuse .badField s
    | some d =>
      if !decisionAllowed d c then refuse .wrongState s
      else
        let r := decisionEffects d c s
        okReply (u16 c.serial ++ u8 d.code ++ u8 r.2.1.code ++ u8 (orZero r.2.2) ++ paidAmount d c)
          (closeCase d r.2.1 r.2.2 c r.1)

/-- The resolution write ends (R125, R109): the record moves, RIDE is appended, the entry is discarded; and the RELEASE
outcome (R146). -/
def endResolutionWrite (done : Bool) (s : State) : State × ReleaseOutcome :=
  match s.ctb.resolution with
  | some w =>
    let moved := modifyRecord w.key (Record.endWrite done) s
    let recorded := journal
      (.ride w.serial w.journey w.key (if done then .written else .torn) (if done then w.rides - 1 else w.rides)) moved
    (withCtb { recorded.ctb with resolution := none } recorded, if done then .pass else .note)
  | none => (s, if done then .pass else .note)

/-! ### Requoting (R97) -/

/-- The input of a requote (R86): the case's own, with the record, the area entry and M1 as they stand now. -/
def caseQuoteInput (c : Case) (b : QuoteBasis) (x : Nat) (s : State) : QuoteInput :=
  let rec' := if c.linked then findRecord c.key s.irg.records else none
  { route := c.route, a := c.a, x := x, kind := b.kind, cls := b.cls, adults := b.adults, children := b.children,
    carriageClass := b.carriageClass, paid := rec'.bind (·.paid),
    upgradeHeld := (rec'.map (·.upgrade)).getD false,
    entry := s.ven.areas[(c.route.stop c.a).area]?.getD AreaEntry.unconfigured, m1 := s.ven.m1 }

/-- The reply fields of a requote (R97). -/
def Quote.fields (q : Quote) : List Byte :=
  u32 q.amount ++ u16 q.endStop ++ u16 q.kmShort ++ u16 q.kmUp ++ u8 (bit q.upgrade) ++ u8 (bit q.capped) ++ u8 q.area

/-- The case's current quote becomes `q`. -/
def setQuote (serial : Nat) (q : Quote) (cases : List Case) : List Case :=
  cases.map (fun c => if c.serial = serial then { c with quote := some q } else c)

/-- CASE-QUOTE (R97). -/
def answerCaseQuote (body : List Byte) (s : State) : Answer :=
  match findCase (fieldAt body 0 2) s.ctb.cases with
  | none => refuse .noSuch s
  | some c =>
    match c.route.indexOf? (fieldAt body 2 2) with
    | none => refuse .badField s
    | some x =>
      if x ≤ c.a then refuse .badField s
      else
        match c.basis with
        | none => refuse .wrongState s
        | some b =>
          let input := caseQuoteInput c b x s
          if !input.entry.configured then refuse .wrongState s
          else
            let q := computeQuote input
            okReply (u16 c.serial ++ q.fields) (withCtb { s.ctb with cases := setQuote c.serial q s.ctb.cases } s)

/-! ### Timeouts and waiting notices (R119, R126, R127) -/

/-- CASE-TIMEOUT (R126). -/
def answerCaseTimeout (body : List Byte) (s : State) : Answer :=
  let minutes := clampNat 1 60 (fieldAt body 0 1)
  okReply (u8 minutes) (withCtb { s.ctb with timeout := minutes } s)

/-- The CASE-CLOSED of the case that became CLOSED-WAITING first enters a free slot, and its case slot becomes FREE
(R119). -/
def caseClosedQueued (s : State) : State :=
  match s.ctb.closedWaiting with
  | [] => s
  | closed :: rest =>
    if 0 < freeSlots s.lif then
      { s with ctb := { s.ctb with closedWaiting := rest }, lif := enterNotice (.caseClosed closed) s.lif }
    else s

/-- CASE_RESOLVE (R121). -/
def execCaseResolve (s : State) : Host.Outcome State Fault Refusal := .next (takeRequest 0x30 answerCaseResolve s)

/-- CASE_QUOTE (R97). -/
def execCaseQuote (s : State) : Host.Outcome State Fault Refusal := .next (takeRequest 0x31 answerCaseQuote s)

/-- CASE_TIMEOUT (R126). -/
def execCaseTimeout (s : State) : Host.Outcome State Fault Refusal := .next (takeRequest 0x32 answerCaseTimeout s)

/-- CASE_DEADLINE_REACHED (R127): the timeouts of one advance of the clock (log 19). -/
def execCaseDeadlineReached (s : State) : Host.Outcome State Fault Refusal := .next (whenRunning timeOutCases s)

/-- CASE_CLOSED_QUEUED (R119). -/
def execCaseClosedQueued (s : State) : Host.Outcome State Fault Refusal := .next (whenRunning caseClosedQueued s)

end Sys2Proof.Machine
end

