-- ==== Sys2Proof/Config.lean ====
section
/-! DEFINITION. What the part fixes and the manual does not state. -/

namespace Sys2Proof

/-- The keyed check function, fixed in the part (R15; 00 "It does not specify the function itself"): from the 16 bytes
of key material and the check input it yields 8 bytes, here the 64-bit number they spell most significant byte first.
A FREE function: it has no body, so no proof can rest on any value of it (log 15). -/
opaque Config.keyedCheck (material input : List Byte) : BitVec 64

end Sys2Proof
end

