-- ==== Sys2Proof/Machine/Dcu.lean ====
section
/-! DEFINITION. The Credential Decoder and Check Unit (01): decoding, and the Issuer Key Table's requests. -/

namespace Sys2Proof.Machine

/-! ### Decoding (R2 to R8, R187) -/

/-- The content the DCU decodes: all of a LINK presentation's bytes (R3), the first L of a CARD's 80 (R2). -/
def contentBytes (o : Origin) (content : List Byte) : List Byte :=
  match o with
  | .link => content
  | .card _ _ => content.take (fieldAt content 9 1)

/-- The credential key, when at least 9 bytes were delivered; a card's image always holds more (R2 to R4). -/
def readableKey (content : List Byte) : Option CredKey :=
  if 9 ≤ content.length then some { issuer := fieldAt content 1 1, serial := fieldAt content 3 6 } else none

/-- The zones of a ZONES kind part. -/
def zoneList (c : List Byte) : List Nat := (List.range (fieldAt c 23 1)).map (fun i => fieldAt c (24 + i) 1)

/-- The kind part and its length in bytes, or none where a field is out of range (R6) or the fields do not agree (R7). -/
def decodeKind (c : List Byte) : Option (KindPart × Nat) :=
  let o := fieldAt c 22 2
  let d := fieldAt c 24 2
  let stopsOk := o != 0 && d != 0 && o != d
  match fieldAt c 12 2 / 8192 with
  | 1 => if stopsOk then some (.single o d, 4) else none
  | 2 => if stopsOk then some (.returnTrip o d, 4) else none
  | 3 =>
    let area := fieldAt c 22 1
    let count := fieldAt c 23 1
    let zones := zoneList c
    if area ≤ 7 ∧ 1 ≤ count ∧ count ≤ 8 ∧ zones.Nodup then some (.zones area zones, 2 + count) else none
  | 4 =>
    let area := fieldAt c 22 1
    if area ≤ 7 then some (.area area, 1) else none
  | _ => none

/-- The decoded record of a content of which `c` are the bytes delivered, or none where the decode fails (R5 to R8). -/
def decodeBytes (c : List Byte) : Option Credential :=
  let word := fieldAt c 12 2
  let hasRides := word % 2 == 1
  let hasService := word / 2 % 2 == 1
  let adults := word / 128 % 16
  let children := word / 8 % 16
  let validFrom := fieldAt c 14 4
  let validUntil := fieldAt c 18 4
  match decodeKind c, TravelClass.ofCode? (word / 2048 % 4) with
  | some (kind, kindLength), some cls =>
    let afterKind := 22 + kindLength
    let service := fieldAt c (afterKind + bit hasRides) 2
    let expected := afterKind + bit hasRides + 2 * bit hasService + 8
    if 22 ≤ c.length ∧ c.length = fieldAt c 9 1 ∧ c.length = expected ∧ fieldAt c 0 1 = 2 ∧ fieldAt c 2 1 ≤ 15 ∧
        fieldAt c 10 2 ≤ 4095 ∧ adults ≤ 9 ∧ children ≤ 9 ∧ word / 4 % 2 = 0 ∧ (hasService = true → service ≠ 0) ∧
        1 ≤ adults + children ∧ adults + children ≤ 9 ∧ validFrom ≤ validUntil then
      some
        { key := { issuer := fieldAt c 1 1, serial := fieldAt c 3 6 }
          version := fieldAt c 2 1
          product := fieldAt c 10 2
          kind := kind
          cls := cls
          adults := adults
          children := children
          validFrom := validFrom
          validUntil := validUntil
          rides := if hasRides then some (fieldAt c afterKind 1) else none
          service := if hasService then some service else none
          checkInput := c.take (expected - 8)
          checkValue := BitVec.ofNat 64 (fieldAt c (expected - 8) 8) }
    else none
  | _, _ => none

/-- The decode of a presentation's content (R1). -/
def decodeContent (o : Origin) (content : List Byte) : Option Credential := decodeBytes (contentBytes o content)

/-! ### The Issuer Key Table (R10 to R13) -/

/-- The entry has the pair. -/
def hasPair (issuer version : Nat) (e : KeyEntry) : Bool := e.issuer == issuer && e.version == version

/-- The entry named by a pair. -/
def findKey (issuer version : Nat) (keys : List KeyEntry) : Option KeyEntry := keys.find? (hasPair issuer version)

/-- The entry named by a pair is replaced. -/
def setKey (entry : KeyEntry) (keys : List KeyEntry) : List KeyEntry :=
  keys.map (fun e => if hasPair entry.issuer entry.version e then entry else e)

/-- The table changes. -/
def withKeys (keys : List KeyEntry) (s : State) : State := { s with dcu := { s.dcu with keys := keys } }

/-- KEY-LOAD (R11). -/
def answerKeyLoad (body : List Byte) (s : State) : Answer :=
  let entry : KeyEntry :=
    { issuer := fieldAt body 0 1, version := fieldAt body 1 1, state := .active, material := body.drop 2 }
  let present := (findKey entry.issuer entry.version s.dcu.keys).isSome
  if s.jcu.journey.isSome then refuse .wrongState s
  else if 15 < entry.version then refuse .badField s
  else if 32 ≤ s.dcu.keys.length && !present then refuse .full s
  else
    let keys := if present then setKey entry s.dcu.keys else s.dcu.keys ++ [entry]
    okReply (u8 (if present then 2 else 1) ++ u8 keys.length) (withKeys keys s)

/-- KEY-STATE (R12). -/
def answerKeyState (body : List Byte) (s : State) : Answer :=
  let issuer := fieldAt body 0 1
  let version := fieldAt body 1 1
  match KeyState.ofCode? (fieldAt body 2 1) with
  | none => refuse .badField s
  | some state =>
    if 15 < version then refuse .badField s
    else
      match findKey issuer version s.dcu.keys with
      | none => refuse .noSuch s
      | some e => okReply (u8 e.state.code) (withKeys (setKey { e with state := state } s.dcu.keys) s)

/-- KEY-DROP (R13). -/
def answerKeyDrop (body : List Byte) (s : State) : Answer :=
  let issuer := fieldAt body 0 1
  let version := fieldAt body 1 1
  if s.jcu.journey.isSome then refuse .wrongState s
  else if 15 < version then refuse .badField s
  else if (findKey issuer version s.dcu.keys).isNone then refuse .noSuch s
  else
    let keys := s.dcu.keys.filter (fun e => !hasPair issuer version e)
    okReply (u8 keys.length) (withKeys keys s)

/-- KEY_LOAD (R11). -/
def execKeyLoad (s : State) : Host.Outcome State Fault Refusal := .next (takeRequest 0x20 answerKeyLoad s)

/-- KEY_STATE (R12). -/
def execKeyState (s : State) : Host.Outcome State Fault Refusal := .next (takeRequest 0x21 answerKeyState s)

/-- KEY_DROP (R13). -/
def execKeyDrop (s : State) : Host.Outcome State Fault Refusal := .next (takeRequest 0x22 answerKeyDrop s)

end Sys2Proof.Machine
end

