-- ==== Sys2Proof/Machine/Rsu.lean ====
section
/-! DEFINITION. The Revocation Screen (03): the images, the exact list and the screening lookup. -/

namespace Sys2Proof.Machine

/-! ### The lookup (R44, R53) -/

/-- An image bit (R43). -/
def ScreenImage.imageBit (img : ScreenImage) (b : Nat) : Bool :=
  bitAt (img.segments[b / 256]?.getD []) (b % 256)

/-- The first probe index (R44). -/
def probe1 (offset serial : Nat) : Nat := serial / 16 ^ offset % 8192

/-- The second probe index (R44). -/
def probe2 (offset serial : Nat) : Nat := serial / 2 ^ (4 * offset + 20) % 8192

/-- The screen hits (R44). -/
def ScreenImage.hits (img : ScreenImage) (serial : Nat) : Bool :=
  img.imageBit (probe1 img.offset serial) && img.imageBit (probe2 img.offset serial)

/-- The exact-list entry of a credential key (R49, R53). -/
def findListed (key : CredKey) (l : List ListEntry) : Option ListEntry := l.find? (fun e => e.key == key)

/-- The screening lookup (R53). -/
def screenFinding (key : CredKey) (r : Rsu) : Option Finding :=
  match findListed key r.list with
  | some e =>
    match e.action with
    | .revoke => some .revoked
    | .clear => none
  | none => if r.active.hits key.serial then some .screenHit else none

/-! ### Loading an image (R45 to R48) -/

/-- An index joins a set held as a rising list. -/
def insertIndex (i : Nat) : List Nat → List Nat
  | [] => [i]
  | j :: js => if i < j then i :: j :: js else if i = j then j :: js else j :: insertIndex i js

/-- How many segments a pending image has received, 0 when none is held. -/
def receivedCount (p : Option PendingImage) : Nat :=
  match p with
  | some p => p.received.length
  | none => 0

/-- The RSU changes. -/
def withRsu (r : Rsu) (s : State) : State := { s with rsu := r }

/-- FILTER-BEGIN (R46). -/
def answerFilterBegin (body : List Byte) (s : State) : Answer :=
  let offset := fieldAt body 4 1
  if 3 < offset then refuse .badField s
  else
    okReply (u8 (receivedCount s.rsu.pendingImage))
      (withRsu
        { s.rsu with
          pendingImage := some
            { image := { segments := ScreenImage.zeroSegments, generation := fieldAt body 0 4, offset := offset }
              received := [] } } s)

/-- A segment is stored (R47). -/
def PendingImage.store (index : Nat) (segment : List Byte) (p : PendingImage) : PendingImage :=
  { image := { p.image with segments := p.image.segments.setIfInBounds index segment }
    received := insertIndex index p.received }

/-- FILTER-SEGMENT (R47). -/
def answerFilterSegment (body : List Byte) (s : State) : Answer :=
  let index := fieldAt body 0 1
  match s.rsu.pendingImage with
  | none => refuse .wrongState s
  | some p =>
    if 31 < index then refuse .badField s
    else
      let stored := p.store index (body.drop 1)
      okReply (u8 stored.received.length) (withRsu { s.rsu with pendingImage := some stored } s)

/-- FILTER-COMMIT (R48). -/
def answerFilterCommit (_body : List Byte) (s : State) : Answer :=
  match s.rsu.pendingImage with
  | none => refuse .wrongState s
  | some p =>
    if p.received.length < 32 then refuse .wrongState s
    else
      okReply (u32 s.rsu.active.generation ++ u32 p.image.generation)
        (withRsu { s.rsu with active := p.image, pendingImage := none } s)

/-! ### The exact list (R49 to R52) -/

/-- The entry of its key is replaced in its place (R49). -/
def replaceListed (entry : ListEntry) (l : List ListEntry) : List ListEntry :=
  l.map (fun e => if e.key = entry.key then entry else e)

/-- The reply fields of an entry: its action, reason and time added. -/
def ListEntry.fields (e : ListEntry) : List Byte := u8 e.action.code ++ u8 e.reason ++ u32 e.added

/-- The FULL reply of LIST-ADD (R50, R185): status, then the first entry's key, action and reason. -/
def fullReply (l : List ListEntry) : List Byte :=
  u8 Status.full.code ++
  match l with
  | [] => []
  | e :: _ => keyBytes (some e.key) ++ u8 e.action.code ++ u8 e.reason

/-- LIST-ADD (R50). -/
def answerListAdd (body : List Byte) (s : State) : Answer :=
  let key := credKeyAt body 0
  let reason := fieldAt body 8 1
  match ListAction.ofCode? (fieldAt body 7 1) with
  | none => refuse .badField s
  | some action =>
    let entry : ListEntry := { key := key, action := action, reason := reason, added := tariffTime s }
    if 15 < reason then refuse .badField s
    else
      match findListed key s.rsu.list with
      | some old =>
        okReply (u8 2 ++ u8 s.rsu.list.length ++ old.fields)
          (withRsu { s.rsu with list := replaceListed entry s.rsu.list } s)
      | none =>
        if 64 ≤ s.rsu.list.length then (s, fullReply s.rsu.list)
        else
          okReply (u8 1 ++ u8 (s.rsu.list.length + 1)) (withRsu { s.rsu with list := s.rsu.list ++ [entry] } s)

/-- LIST-REMOVE (R51). -/
def answerListRemove (body : List Byte) (s : State) : Answer :=
  let key := credKeyAt body 0
  match findListed key s.rsu.list with
  | none => refuse .noSuch s
  | some e =>
    let list := s.rsu.list.filter (fun d => d.key != key)
    okReply (e.fields ++ u8 list.length) (withRsu { s.rsu with list := list } s)

/-- LIST-FLUSH (R52). -/
def answerListFlush (_body : List Byte) (s : State) : Answer :=
  okReply (u8 s.rsu.list.length) (withRsu { s.rsu with list := [] } s)

/-- FILTER_BEGIN (R46). -/
def execFilterBegin (s : State) : Host.Outcome State Fault Refusal := .next (takeRequest 0x24 answerFilterBegin s)

/-- FILTER_SEGMENT (R47). -/
def execFilterSegment (s : State) : Host.Outcome State Fault Refusal := .next (takeRequest 0x25 answerFilterSegment s)

/-- FILTER_COMMIT (R48). -/
def execFilterCommit (s : State) : Host.Outcome State Fault Refusal := .next (takeRequest 0x26 answerFilterCommit s)

/-- LIST_ADD (R50). -/
def execListAdd (s : State) : Host.Outcome State Fault Refusal := .next (takeRequest 0x27 answerListAdd s)

/-- LIST_REMOVE (R51). -/
def execListRemove (s : State) : Host.Outcome State Fault Refusal := .next (takeRequest 0x28 answerListRemove s)

/-- LIST_FLUSH (R52). -/
def execListFlush (s : State) : Host.Outcome State Fault Refusal := .next (takeRequest 0x29 answerListFlush s)

end Sys2Proof.Machine
end

