-- ==== Sys2Proof/Machine/Ven.lean ====
section
/-! DEFINITION. The Verdict Engine (04): the take, the stages, parked verdicts, ISSUE, and the requests that load the
Tariff Area Table, the Finding Policy Table and the class rate. -/

namespace Sys2Proof.Machine

/-- The VEN changes. -/
def withVen (v : Ven) (s : State) : State := { s with ven := v }

/-! ### Tables (R62 to R64, R75, R76, R91) -/

/-- The findings whose policy is fixed (R75). -/
def Finding.fixed : Finding → Bool
  | .checkMismatch | .issuerUnknown | .keyWithdrawn | .revoked | .areaUnconfigured | .registerFull => true
  | _ => false

/-- The policy of a finding (R75). -/
def Ven.policyOf (v : Ven) (f : Finding) : Policy := v.policies[f.code - 1]?.getD .blocking

/-- The Tariff Area Table entry of an area (R62). -/
def Ven.areaOf (v : Ven) (area : Nat) : AreaEntry := v.areas[area]?.getD AreaEntry.unconfigured

/-- The area accepts a product (R64, R70). -/
def AreaEntry.accepts (e : AreaEntry) (product : Nat) : Bool :=
  bitAt (e.accept[product / 512]?.getD []) (product % 512)

/-- The rounding steps (R62). -/
def roundingSteps : List Nat := [1, 2, 5, 10, 20, 50, 100]

/-- AREA-SET (R63): the reply carries the values stored and whether the entry was configured before (log 25). -/
def answerAreaSet (body : List Byte) (s : State) : Answer :=
  let area := fieldAt body 0 1
  let step := fieldAt body 4 1
  if 7 < area then refuse .badField s
  else if !roundingSteps.contains step then refuse .badField s
  else
    let old := s.ven.areaOf area
    let entry : AreaEntry :=
      { configured := true, rate := fieldAt body 1 2, kmin := fieldAt body 3 1, step := step,
        cap := min 1000000 (fieldAt body 5 4), surcharge := fieldAt body 9 2,
        childPercent := min 100 (fieldAt body 11 1), toleranceCap := min 240 (fieldAt body 12 1),
        accept := old.accept }
    okReply
      (u16 entry.rate ++ u8 entry.kmin ++ u8 entry.step ++ u32 entry.cap ++ u16 entry.surcharge ++
        u8 entry.childPercent ++ u8 entry.toleranceCap ++ u8 (bit old.configured))
      (withVen { s.ven with areas := s.ven.areas.setIfInBounds area entry } s)

/-- ACCEPT-MAP (R64). -/
def answerAcceptMap (body : List Byte) (s : State) : Answer :=
  let area := fieldAt body 0 1
  let g := fieldAt body 1 1
  if 7 < area ∨ 7 < g then refuse .badField s
  else
    let old := s.ven.areaOf area
    let entry := { old with accept := old.accept.setIfInBounds g (body.drop 2) }
    okReply [] (withVen { s.ven with areas := s.ven.areas.setIfInBounds area entry } s)

/-- CLASS-SET (R91). -/
def answerClassSet (body : List Byte) (s : State) : Answer :=
  let m1 := clampNat 100 250 (fieldAt body 0 1)
  okReply (u8 m1) (withVen { s.ven with m1 := m1 } s)

/-- POLICY-SET (R76): a fixed finding keeps its policy, and the reply carries the policy held after. -/
def answerPolicySet (body : List Byte) (s : State) : Answer :=
  match Finding.ofCode? (fieldAt body 0 1), Policy.ofCode? (fieldAt body 1 1) with
  | some f, some p =>
    let ven := if f.fixed then s.ven else { s.ven with policies := s.ven.policies.setIfInBounds (f.code - 1) p }
    okReply (u8 (ven.policyOf f).code) (withVen ven s)
  | _, _ => refuse .badField s

/-! ### The evaluation record (R57, R59) -/

/-- A finding joins the set, which holds no repeats (R57). -/
def Evaluation.raise (f : Finding) (ev : Evaluation) : Evaluation :=
  if ev.findings.any (fun r => r.finding == f) then ev
  else { ev with findings := ev.findings ++ [{ finding := f, policy := none }] }

/-- A finding joins the set when its condition holds. -/
def Evaluation.raiseIf (condition : Bool) (f : Finding) (ev : Evaluation) : Evaluation :=
  if condition then ev.raise f else ev

/-- The set holds a finding. -/
def Evaluation.has (f : Finding) (ev : Evaluation) : Bool := ev.findings.any (fun r => r.finding == f)

/-- The ride outcome and the rides remaining reported (R79). -/
def Evaluation.setRide (outcome : RideOutcome) (remaining : Option Nat) (ev : Evaluation) : Evaluation :=
  { ev with rideOutcome := outcome, ridesRemaining := remaining }

/-- The inspection section (R30). -/
def inspectionSection (j : Running) : Nat :=
  match j.position with
  | .running k => k
  | .atStop k => if k + 2 ≤ j.route.stops.length then k else j.route.stops.length - 2

/-- The snapshot (R41). -/
def snapshot (j : Running) (s : State) : Snapshot :=
  { journey := s.jcu.number, epoch := j.epoch, route := j.route, a := inspectionSection j,
    seconds := s.jcu.clock.seconds, delay := s.jcu.delay }

/-- The snapshot's tariff minute (R41). -/
def Snapshot.minute (sn : Snapshot) : Nat := sn.seconds / 60

/-- The evaluation record built at the take (R59). -/
def newEvaluation (e : Entry) (sn : Snapshot) : Evaluation :=
  { intake := e.intake, origin := e.origin, content := e.content, carriage := e.carriage, cls := e.cls,
    snapshot := sn, readKey := readableKey e.content, credential := none, findings := [], trust := .undecided,
    regStatus := .none, hasRecord := false, inspCount := 0, areaReading := none, quote := none,
    rideOutcome := .none, ridesRemaining := none, verdict := none }

/-! ### The stages after CHECK (R60) -/

/-- SCREEN (R53). -/
def screenStage (c : Credential) (s : State) (ev : Evaluation) : Evaluation :=
  match screenFinding c.key s.rsu with
  | some f => ev.raise f
  | none => ev

/-- REGISTER (R102, R103): the evaluation and the register after it. -/
def registerStage (c : Credential) (ev : Evaluation) (s : State) : Evaluation × State :=
  let r := registerLookup c.key ev.snapshot.seconds ev.carriage s.irg.records
  (({ ev with regStatus := r.2, hasRecord := r.2 != .full } : Evaluation).raiseIf (r.2 == .full) .registerFull,
    { s with irg := { s.irg with records := r.1 } })

/-- The time judgement's finding (R69), for minute `m` with tolerance `tau`. -/
def timeFinding (validFrom validUntil m tau : Nat) : Option Finding :=
  if m < validFrom then some .notYetValid
  else if m ≤ validUntil then none
  else if m ≤ validUntil + tau then some .delayGrace
  else some .expired

/-- The tolerance (R69): the positive part of the delay, capped; 0 when the area is unconfigured (R65). -/
def tolerance (delay : Int) (e : AreaEntry) : Nat := if e.configured then min delay.toNat e.toleranceCap else 0

/-- The coverage finding (R68). -/
def coverageFinding (k : KindPart) (paid : Option (Nat × Nat)) (r : Route) (a : Nat) : Option Finding :=
  if coveredByPaid paid r a then none
  else if offRoute k r then some .offRoute
  else if coveredByKind k r a then none
  else some .shortCoverage

/-- The optional finding joins the set. -/
def Evaluation.raise? (f : Option Finding) (ev : Evaluation) : Evaluation :=
  match f with
  | some f => ev.raise f
  | none => ev

/-- The ride state a judgement reads: NONE when there is no record (04 section 4.4). -/
def rideStateOf (r : Option Record) : RideState :=
  match r with
  | some r => r.ride
  | none => .none

/-- The service judgement (R72). -/
def serviceMismatch (service : Option Nat) (running : Nat) : Bool :=
  match service with
  | some n => n != running
  | none => false

/-- The findings of JUDGE (R65, R68 to R74), on the record as it stood before the update of R104. -/
def judgements (c : Credential) (rec' : Option Record) (entry : AreaEntry) (m1window : Nat) (ev : Evaluation) :
    Evaluation :=
  let sn := ev.snapshot
  let paid := rec'.bind (·.paid)
  let upgradeHeld := (rec'.map (·.upgrade)).getD false
  ev |>.raiseIf (!entry.configured) .areaUnconfigured
    |>.raise? (coverageFinding c.kind paid sn.route sn.a)
    |>.raise? (timeFinding c.validFrom c.validUntil sn.minute (tolerance sn.delay entry))
    |>.raiseIf (entry.configured && !entry.accepts c.product) .productRefused
    |>.raiseIf (upgradeDue c.cls ev.cls upgradeHeld) .classMismatch
    |>.raiseIf (serviceMismatch c.service sn.route.service) .serviceMismatch
    |>.raiseIf (c.rides.isSome && rideStateOf rec' == .none && currentRides c ev.origin == 0) .ridesExhausted
    |>.raiseIf (ev.regStatus == .seen && (rec'.map (repeatElsewhere m1window sn.seconds ev.carriage)).getD false)
      .repeatElsewhere

/-- JUDGE (R65 to R74, R104): the area is read, the judgements are made, and the record is updated. -/
def judgeStage (c : Credential) (ev : Evaluation) (s : State) : Evaluation × State :=
  let entry := s.ven.areaOf (ev.snapshot.route.stop ev.snapshot.a).area
  let rec' := recordOf ev c.key s
  let judged := judgements c rec' entry s.irg.passback ev
  match rec' with
  | some r =>
    ({ judged with areaReading := some entry, inspCount := satSucc 255 r.count },
      modifyRecord c.key (seenUpdate ev.snapshot.seconds ev.carriage) s)
  | none => ({ judged with areaReading := some entry }, s)

/-- The verdict of a finding set with its policies (R77). -/
def deriveVerdict (fs : List Raised) : Verdict :=
  if fs.any (fun r => r.policy == some .blocking) then .action else if fs.isEmpty then .pass else .passNoted

/-- POLICY (R77): the policies are read, IGNORED findings removed, and the verdict derived. -/
def policyStage (v : Ven) (ev : Evaluation) : Evaluation :=
  let kept := (ev.findings.map (fun r => { r with policy := some (v.policyOf r.finding) })).filter
    (fun r => r.policy != some .ignored)
  { ev with findings := kept, verdict := some (deriveVerdict kept) }

/-- The input of the quote of an evaluation (R86), over the inspection section alone. -/
def evaluationQuote (c : Credential) (ev : Evaluation) (rec' : Option Record) (entry : AreaEntry) (m1 : Nat) :
    QuoteInput :=
  { route := ev.snapshot.route, a := ev.snapshot.a, x := ev.snapshot.a + 1, kind := c.kind, cls := c.cls,
    adults := c.adults, children := c.children, carriageClass := ev.cls, paid := rec'.bind (·.paid),
    upgradeHeld := (rec'.map (·.upgrade)).getD false, entry := entry, m1 := m1 }

/-- QUOTE (R78): run when SHORT-COVERAGE or CLASS-MISMATCH is still in the set and the area reading is configured. -/
def quoteStage (c : Credential) (s : State) (ev : Evaluation) : Evaluation :=
  match ev.areaReading with
  | some entry =>
    if entry.configured && (ev.has .shortCoverage || ev.has .classMismatch) then
      { ev with quote := some (computeQuote (evaluationQuote c ev (recordOf ev c.key s) entry s.ven.m1)) }
    else ev
  | none => ev

/-- The evaluation goes on to ISSUE, where it waits in JUDGING (R84). -/
def toIssue (ev : Evaluation) (s : State) : State := withVen { s.ven with engine := .judging ev } s

/-- The card write of CONSUME starts and the verdict is parked; the engine returns to IDLE (R81). -/
def parkAndWrite (c : Credential) (counter : Counter) (ev : Evaluation) (s : State) : State :=
  let written := modifyRecord c.key (Record.startWrite counter) s
  withVen { written.ven with engine := .idle, parked := some { ev := ev, completed := false } }
    { written with ciu := startWrite .parkedVerdict counter c.key.serial written.ciu }

/-- The sequence before `n`, modulo 65536 (R111). -/
def sequenceBefore (n : Nat) : Nat := (n + 65535) % 65536

/-- A TORN record at CONSUME (R111, R112); `expected` is its expected sequence. -/
def recoverTorn (c : Credential) (expected : Nat) (ev : Evaluation) (s : State) : State :=
  match ev.origin with
  | .link => toIssue (ev.setRide .torn (some (currentRides c ev.origin))) s
  | .card counter session =>
    if !sessionPresent .queued session s.ciu then toIssue (ev.setRide .torn (some counter.rides)) s
    else if counter.sequence = sequenceBefore expected then
      if 1 ≤ counter.rides then parkAndWrite c counter ev s else toIssue (ev.setRide .torn (some 0)) s
    else toIssue (ev.setRide .alreadyTaken (some counter.rides)) (modifyRecord c.key Record.consume s)

/-- CONSUME (R79 to R81). -/
def consumeStage (c : Credential) (ev : Evaluation) (s : State) : State :=
  let current := currentRides c ev.origin
  if c.rides.isNone then toIssue (ev.setRide .none none) s
  else
    match recordOf ev c.key s with
    | none => toIssue (ev.setRide .notWritten (some current)) s
    | some r =>
      match r.ride with
      | .pending _ | .consumed => toIssue (ev.setRide .alreadyTaken (some current)) s
      | .torn expected => recoverTorn c expected ev s
      | .none =>
        if ev.verdict == some .action || current == 0 then toIssue (ev.setRide .none (some current)) s
        else
          match ev.origin with
          | .link => toIssue (ev.setRide .takenToken (some (current - 1))) (modifyRecord c.key Record.consume s)
          | .card counter session =>
            if sessionPresent .queued session s.ciu then parkAndWrite c counter ev s
            else toIssue (ev.setRide .notWritten (some current)) s

/-- The stages of a trusted credential after SCREEN (R60). -/
def trustedStages (c : Credential) (ev : Evaluation) (s : State) : State :=
  let registered := registerStage c ev s
  let judged := judgeStage c registered.1 registered.2
  let weighed := policyStage judged.2.ven judged.1
  consumeStage c (quoteStage c judged.2 weighed) judged.2

/-- CHECK has ended: the trust is fixed (R17), and the stages after it follow one another with no time between (R60).
An untrusted credential skips REGISTER and JUDGE, has nothing to quote, and CONSUME takes no ride (R17). -/
def afterCheck (c : Credential) (ev : Evaluation) (s : State) : State :=
  let untrusted := ev.has .issuerUnknown || ev.has .keyWithdrawn || ev.has .checkMismatch
  let screened := screenStage c s { ev with trust := if untrusted then .untrusted else .trusted }
  if untrusted then toIssue (policyStage s.ven screened) s else trustedStages c screened s

/-! ### The take and the check (R14, R15, R58, R59) -/

/-- CHECK starts (R14): no check for an unknown or withdrawn key, a check in flight otherwise. -/
def startCheck (c : Credential) (ev : Evaluation) (s : State) : State :=
  match findKey c.key.issuer c.version s.dcu.keys with
  | none => afterCheck c (ev.raise .issuerUnknown) s
  | some k =>
    let check : CheckInFlight :=
      { material := k.material, keyState := k.state, input := c.checkInput, value := c.checkValue }
    match k.state with
    | .withdrawn => afterCheck c (ev.raise .keyWithdrawn) s
    | .retiring => withVen { s.ven with engine := .checking (ev.raise .keyRetiring) check } s
    | .active => withVen { s.ven with engine := .checking ev check } s

/-- DECODE (R1, R9), then CHECK: a failed decode goes straight to ISSUE with UNREADABLE. -/
def startEvaluation (ev : Evaluation) (s : State) : State :=
  match decodeContent ev.origin ev.content with
  | none => toIssue { ev with verdict := some .unreadable } s
  | some c => startCheck c { ev with credential := some c } s

/-- The head entry may be taken: it has source LINK, or no verdict is parked (R58). -/
def headTakable (e : Entry) (v : Ven) : Bool := !e.origin.isCard || v.parked.isNone

/-- The conditions of R58 other than the entry's and the journey's. -/
def canTakeEntry (s : State) : Bool :=
  s.ven.engine == .idle && s.lif.power == .active && 2 ≤ freeSlots s.lif

/-- The engine takes the head entry when all the conditions of R58 hold. -/
def engineTake (s : State) : State :=
  match s.iq.entries, s.jcu.journey with
  | e :: rest, some j =>
    if canTakeEntry s && headTakable e s.ven then
      startEvaluation (newEvaluation e (snapshot j s))
        (resumeAfterTake { s with iq := { s.iq with entries := rest } })
    else s
  | _, _ => s

/-- ENGINE_TAKE (R58). -/
def execEngineTake (s : State) : Host.Outcome State Fault Refusal := .next (whenRunning engineTake s)

/-- The check in flight matches: the part's keyed check function of what was captured gives the check value (R15). -/
def CheckInFlight.matches (check : CheckInFlight) : Bool :=
  Config.keyedCheck check.material check.input == check.value

/-- The completion of a check with its result (R15): the DCU holds no check, and the evaluation continues. -/
def finishCheck (matched : Bool) (ev : Evaluation) (s : State) : State :=
  match ev.credential with
  | some c => afterCheck c (ev.raiseIf (!matched) .checkMismatch) s
  | none => s

/-- The check in flight completes (R15). -/
def checkComplete (s : State) : State :=
  match s.ven.engine with
  | .checking ev check => finishCheck check.matches ev s
  | _ => s

/-- CHECK_COMPLETE (R15). -/
def execCheckComplete (s : State) : Host.Outcome State Fault Refusal := .next (whenRunning checkComplete s)

/-! ### Parked verdicts (R83) -/

/-- RIDE-TORN at the end of a write (R83): its policy is read now, and an IGNORED one is not added. A verdict that becomes
ACTION by it alone has no quote, and its case opens without one (R83, R96). That this takes away also the quote that a
noted finding had called for is the model's reading (log 42). -/
def addRideTorn (policy : Policy) (ev : Evaluation) : Evaluation :=
  if policy = .ignored then ev
  else
    let findings := ev.findings ++ [{ finding := .rideTorn, policy := some policy }]
    let verdict := deriveVerdict findings
    { ev with findings := findings, verdict := some verdict,
              quote := if verdict = .action ∧ deriveVerdict ev.findings ≠ .action then none else ev.quote }

/-- The rides a card's counter record held at the presentation. -/
def Origin.counterRides : Origin → Nat
  | .link => 0
  | .card counter _ => counter.rides

/-- The parked evaluation after its write (R83). -/
def parkedAfterWrite (done : Bool) (v : Ven) (ev : Evaluation) : Evaluation :=
  if done then ev.setRide .written (some (ev.origin.counterRides - 1))
  else addRideTorn (v.policyOf .rideTorn) (ev.setRide .torn (some ev.origin.counterRides))

/-- The write of the parked verdict ends (R83, R109); the state, and the RELEASE outcome the verdict gives (R146). -/
def endParkedWrite (done : Bool) (s : State) : State × ReleaseOutcome :=
  match s.ven.parked with
  | some p =>
    let ev := parkedAfterWrite done s.ven p.ev
    let moved := match ev.credential with
      | some c => modifyRecord c.key (Record.endWrite done) s
      | none => s
    (withVen { moved.ven with parked := some { ev := ev, completed := true } } moved,
      releaseOf (ev.verdict.getD .pass))
  | none => (s, .note)

/-! ### ISSUE (R84, R85) -/

/-- The finding codes of the final set, ascending (R85). -/
def Evaluation.finalFindings (ev : Evaluation) : List Finding := Finding.all.filter (fun f => ev.has f)

/-- The credential key a verdict reports: when decoded, or when readable (R85). -/
def Evaluation.reportedKey (ev : Evaluation) : Option CredKey :=
  match ev.credential with
  | some c => some c.key
  | none => ev.readKey

/-- The verdict of an evaluation at ISSUE; every stage before ISSUE has set one. -/
def Evaluation.finalVerdict (ev : Evaluation) : Verdict := ev.verdict.getD .unreadable

/-- What the VERDICT notice reports (R85). -/
def Evaluation.report (caseSerial : Option Nat) (ev : Evaluation) : VerdictReport :=
  { intake := ev.intake, fromCard := ev.origin.isCard, journey := ev.snapshot.journey, key := ev.reportedKey,
    verdict := ev.finalVerdict, findings := ev.finalFindings, regStatus := ev.regStatus, inspCount := ev.inspCount,
    rideOutcome := ev.rideOutcome, ridesRemaining := ev.ridesRemaining, quote := ev.quote.map Quote.brief,
    caseSerial := caseSerial, secIndex := ev.snapshot.a, epoch := ev.snapshot.epoch, carriage := ev.carriage,
    cls := ev.cls }

/-- The INSPECTION record (R174). -/
def Evaluation.inspection (caseSerial : Option Nat) (ev : Evaluation) : JournalBody :=
  .inspection ev.snapshot.journey ev.origin.isCard ev.reportedKey ev.finalVerdict ev.finalFindings
    (ev.quote.map Quote.brief) caseSerial (ev.finalVerdict == .action && caseSerial.isNone) ev.rideOutcome
    ev.snapshot.a ev.carriage ev.cls

/-- Step 1 of ISSUE (R84): an ACTION verdict opens a case, if a slot is free. -/
def openForAction (ev : Evaluation) (s : State) : State × Option Nat :=
  match ev.finalVerdict, ev.credential with
  | .action, some c => openCase c ev s
  | _, _ => (s, none)

/-- Step 4 of ISSUE (R84): the CIU is told of a CARD verdict. -/
def releaseCard (ev : Evaluation) (s : State) : State :=
  match ev.origin with
  | .link => s
  | .card _ session => { s with ciu := releaseAtIssue ev.finalVerdict session s.ciu }

/-- Steps 1 to 4 of ISSUE, in order (R84). -/
def issueVerdict (ev : Evaluation) (s : State) : State :=
  let opened := openForAction ev s
  let noticed := { opened.1 with lif := enterNotice (.verdict (ev.report opened.2)) opened.1.lif }
  releaseCard ev (journal (ev.inspection opened.2) noticed)

/-- ISSUE of the evaluation in hand, or of the completed parked verdict, once a slot is free (R84). -/
def issue (ofParked : Bool) (s : State) : State :=
  if freeSlots s.lif = 0 then s
  else if ofParked then
    match s.ven.parked with
    | some p =>
      if p.completed then
        let issued := issueVerdict p.ev s
        withVen { issued.ven with parked := none } issued
      else s
    | none => s
  else
    match s.ven.engine with
    | .judging ev =>
      let issued := issueVerdict ev s
      withVen { issued.ven with engine := .idle } issued
    | _ => s

/-- ISSUE (R84). -/
def execIssue (ofParked : Bool) (s : State) : Host.Outcome State Fault Refusal :=
  .next (whenRunning (issue ofParked) s)

/-- AREA_SET (R63). -/
def execAreaSet (s : State) : Host.Outcome State Fault Refusal := .next (takeRequest 0x2C answerAreaSet s)

/-- ACCEPT_MAP (R64). -/
def execAcceptMap (s : State) : Host.Outcome State Fault Refusal := .next (takeRequest 0x2D answerAcceptMap s)

/-- CLASS_SET (R91). -/
def execClassSet (s : State) : Host.Outcome State Fault Refusal := .next (takeRequest 0x2E answerClassSet s)

/-- POLICY_SET (R76). -/
def execPolicySet (s : State) : Host.Outcome State Fault Refusal := .next (takeRequest 0x2F answerPolicySet s)

end Sys2Proof.Machine
end

