-- ==== Sys2Proof/Machine/Ciu.lean ====
section
/-! DEFINITION. The Card Interface Unit (08): the frames it receives, reads, the ends of writes, card-line errors, their reports and their
behaviour in STANDBY, and CARD-OPTIONS. -/

namespace Sys2Proof.Machine

/-- The CIU changes. -/
def withCiu (c : Ciu) (s : State) : State := { s with ciu := c }

/-! ### Error counts and CARD-EVENT (R133, R148, R150) -/

/-- The count of an error event after it has risen by one, saturating; BUSY and REMOVED-EARLY have none (R133). -/
def ErrorCounts.bump (event : CardEventKind) (c : ErrorCounts) : ErrorCounts :=
  match event with
  | .framing => { c with framing := satSucc 65535 c.framing }
  | .check => { c with check := satSucc 65535 c.check }
  | .sequence => { c with sequence := satSucc 65535 c.sequence }
  | .timeout => { c with timeout := satSucc 65535 c.timeout }
  | .format => { c with format := satSucc 65535 c.format }
  | .busy => c
  | .removedEarly => c

/-- The count of an error event (R148). -/
def ErrorCounts.of (event : CardEventKind) (c : ErrorCounts) : Option Nat :=
  match event with
  | .framing => some c.framing
  | .check => some c.check
  | .sequence => some c.sequence
  | .timeout => some c.timeout
  | .format => some c.format
  | .busy => none
  | .removedEarly => none

/-- In STANDBY with quiet errors set, nothing is counted and no CARD-EVENT is sent (R150). -/
def quietNow (s : State) : Bool := s.lif.power == .standby && s.ciu.quiet

/-- A card-line event is counted and reported (R133, R141, R148), after a wake with cause CARD in STANDBY, unless
quiet errors apply (R150). `session` is the session the event ended, `after` the unit's state after it. -/
def reportCard (event : CardEventKind) (session : Option Nat) (after : CardState) (s : State) : State :=
  if quietNow s then s
  else
    let counts := s.ciu.counts.bump event
    let notice : CardEvent :=
      { event := event, session := session, identifier := s.ciu.identifier, count := counts.of event, state := after }
    { s with ciu := { s.ciu with counts := counts },
             lif := produceSingleton (.cardEvent notice) (wakeLif .card s.lif) }

/-- RELEASE ERROR, and SETTLED with no held session; the read timer stops (R136, R139, R140, R141). -/
def settleUnheld (c : Ciu) : Ciu :=
  sendCard (.release .error) { c with state := .settled, held := false, readTimer := none }

/-- A read fails (R141). -/
def failRead (event : CardEventKind) (s : State) : State :=
  let reported := reportCard event (some s.ciu.tag) .settled s
  withCiu (settleUnheld { reported.ciu with image := [] }) reported

/-- An error of the line (R133): it fails a read in progress and changes no state of the unit otherwise. -/
def lineError (event : CardEventKind) (s : State) : State :=
  if s.ciu.state = .reading then failRead event s else reportCard event none s.ciu.state s

/-- A BUSY answer, to a CARD-UP or to a completed read (R136, R140). -/
def answerBusy (s : State) : State :=
  let reported := reportCard .busy none .settled s
  withCiu (settleUnheld reported.ciu) reported

/-! ### Cards coming and going (R136, R137, R142) -/

/-- The Intake Queue takes another card: the journey is OPEN and it holds fewer than 16 entries (R136, R140). -/
def intakeOpen (s : State) : Bool := journeyOpen s && s.iq.entries.length < 16

/-- A CARD-UP taken in ABSENT (R136). -/
def cardUpAbsent (identifier : List Byte) (s : State) : State :=
  let stored := withCiu { s.ciu with identifier := some identifier } s
  if intakeOpen stored then
    let tag := (s.ciu.tag + 1) % 65536
    withCiu
      (sendCard (.readImage tag)
        { stored.ciu with tag := tag, held := true, image := [], readTimer := none, state := .reading }) stored
  else answerBusy stored

/-- The unit is ABSENT and holds no session and no identifier (R134). -/
def leaveField (c : Ciu) : Ciu := { c with state := .absent, held := false, identifier := none }

/-- The write ends (R146): the outcome goes to its owner, RELEASE is sent, and the unit is SETTLED, still holding the
session, or ABSENT after a CARD-DOWN. -/
def endWrite (done cardDown : Bool) (s : State) : State :=
  match s.ciu.write with
  | none => s
  | some w =>
    let r := match w.owner with
      | .parkedVerdict => endParkedWrite done s
      | .resolutionWrite => endResolutionWrite done s
    let settled := sendCard (.release r.2) { r.1.ciu with write := none, state := .settled }
    withCiu (if cardDown then leaveField settled else settled) r.1

/-- A CARD-DOWN (R142). -/
def cardDown (s : State) : State :=
  match s.ciu.state with
  | .absent => s
  | .reading =>
    let reported := reportCard .removedEarly (some s.ciu.tag) .absent s
    withCiu (leaveField { reported.ciu with image := [], readTimer := none }) reported
  | .queued => withCiu (leaveField s.ciu) s
  | .writing => endWrite false true s
  | .settled => withCiu (leaveField s.ciu) s

/-- A CARD-UP (R136); in any state other than ABSENT a CARD-DOWN first (R137). -/
def cardUp (identifier : List Byte) (s : State) : State := cardUpAbsent identifier (cardDown s)

/-! ### Reading (R138 to R140) -/

/-- The counter record in block 5 (R188). -/
def counterOf (block5 : List Byte) : Counter := { rides := fieldAt block5 0 1, sequence := fieldAt block5 1 2 }

/-- The counter record's CRC is right (R138). -/
def counterCrcOk (content block5 : List Byte) : Bool :=
  (counterCrc (counterOf block5) ((content.drop 3).take 6)).toNat == fieldAt block5 3 2

/-- The read is complete (R140): its tests, and the entry handed to the Intake Queue after a wake in STANDBY (R150). -/
def completeRead (image : List (List Byte)) (s : State) : State :=
  let content := (image.take 5).flatten
  let block5 := image.getD 5 []
  if !counterCrcOk content block5 then failRead .format s
  else if 80 < fieldAt content 9 1 then failRead .format s
  else if !intakeOpen s then answerBusy s
  else
    let added := addEntry (.card (counterOf block5) s.ciu.tag) content (wake .card s)
    withCiu { added.ciu with state := .queued, readTimer := none } added

/-- A well-formed BLOCK taken in READING (R138): the image buffer grows and the block timer restarts (R139). -/
def takeBlock (index : Nat) (data : List Byte) (s : State) : State :=
  if index = s.ciu.image.length ∧ index ≤ 5 then
    let image := s.ciu.image ++ [data]
    let stored := withCiu { s.ciu with image := image, readTimer := some (s.timebase + 50) } s
    if index = 5 then completeRead image stored else stored
  else failRead .sequence s

/-- A BLOCK (R138): ignored outside READING (R132). -/
def block (index : Byte) (data : List Byte) (s : State) : State :=
  if s.ciu.state = .reading then takeBlock index.toNat data s else s

/-- A timer is due: it runs, and the timebase has reached it (log 13). -/
def timerDue (timer : Option Nat) (now : Nat) : Bool :=
  match timer with
  | some due => due ≤ now
  | none => false

/-- A read timer expires in READING (R139). -/
def readTimerExpiry (s : State) : State :=
  if s.ciu.state = .reading && timerDue s.ciu.readTimer s.timebase then failRead .timeout s else s

/-! ### Writing (R146) -/

/-- A WRITTEN (R146): ignored outside WRITING (R132). -/
def written (result : WriteResult) (s : State) : State :=
  if s.ciu.state = .writing then endWrite (result = .done) false s else s

/-- The write timer expires in WRITING (R146). -/
def writeTimerExpiry (s : State) : State :=
  if s.ciu.state = .writing && timerDue (s.ciu.write.bind (·.timer)) s.timebase then endWrite false false s else s

/-! ### Sending (R131, R139, R145) -/

/-- The timer that starts when a frame's last byte has been sent: the first-block timer with READ-IMAGE (R139), the
write timer with WRITE-COUNTER (R145), each for its own session (log 30). A read that has stored a block before its
READ-IMAGE has gone out has the block timer, and the first-block timer does not start (log 44). -/
def startTimer (f : CardFrame) (now : Nat) (c : Ciu) : Ciu :=
  match f with
  | .readImage session =>
    if c.state = .reading ∧ c.tag = session ∧ c.image = [] then { c with readTimer := some (now + 100) } else c
  | .writeCounter session _ =>
    if c.state = .writing ∧ c.tag = session then
      { c with write := c.write.map (fun w => { w with timer := some (now + 300) }) }
    else c
  | .release _ => c

/-- The last byte of the frame on the card line goes out (R131). -/
def cardFrameSent (s : State) : State :=
  match s.ciu.sending with
  | [] => s
  | f :: rest =>
    { s with ciu := startTimer f s.timebase { s.ciu with sending := rest }, cardSent := s.cardSent ++ [f.bytes] }

/-! ### Receiving (R131 to R133) -/

/-- The receiver waits for an idle gap, or no longer does. -/
def setAwaitsGap (waits : Bool) (s : State) : State := withCiu { s.ciu with awaitsGap := waits } s

/-- Bytes come in on the card line. After a FRAMING error they are discarded until the line has been idle for more than
1 ms; the first byte after that gap is a kind byte again (R131, R132; log 6). -/
def whenListening (idle : Bool) (f : State → State) (s : State) : State :=
  if idle || !s.ciu.awaitsGap then f (setAwaitsGap false s) else s

/-- A frame comes in for a row of the table, which does `own` with what it says. A frame that is not well formed is a
CHECK error (R132), after which the receiver takes what comes next as a new frame: R132 gives the wait for an idle gap to a
FRAMING error alone (log 47). -/
def receiveFrame (own : CardReceived → State → State) (idle : Bool) (frame : List Byte) (s : State) : State :=
  match decodeCardFrame frame with
  | none => whenListening idle (lineError .check) s
  | some received => whenListening idle (own received) s

/-- What CARD_UP does with a well-formed frame: one of another kind is another row's (log 5). -/
def takeCardUp (received : CardReceived) (s : State) : State :=
  match received with
  | .cardUp identifier => cardUp identifier s
  | .block _ _ => s
  | .cardDown => s
  | .written _ => s

/-- What BLOCK does with a well-formed frame (log 5). -/
def takeBlockFrame (received : CardReceived) (s : State) : State :=
  match received with
  | .cardUp _ => s
  | .block index data => block index data s
  | .cardDown => s
  | .written _ => s

/-- What CARD_DOWN does with a well-formed frame (log 5). -/
def takeCardDown (received : CardReceived) (s : State) : State :=
  match received with
  | .cardUp _ => s
  | .block _ _ => s
  | .cardDown => cardDown s
  | .written _ => s

/-- What WRITTEN does with a well-formed frame (log 5). -/
def takeWritten (received : CardReceived) (s : State) : State :=
  match received with
  | .cardUp _ => s
  | .block _ _ => s
  | .cardDown => s
  | .written result => written result s

/-- A frame is cut short by an idle gap, a CHECK error (R131, R132). Of bytes that the receiver was discarding nothing is
left, and their end is the gap it waited for (R132; log 6). -/
def frameCutShort (idle : Bool) (s : State) : State :=
  if idle || !s.ciu.awaitsGap then lineError .check (setAwaitsGap false s) else setAwaitsGap false s

/-- A byte without its stop bit: a FRAMING error, after which the receiver waits for an idle gap (R132, R133). -/
def framingError (s : State) : State := setAwaitsGap true (lineError .framing s)

/-! ### CARD-OPTIONS (R149) -/

/-- CARD-OPTIONS (R149): the reply carries the value held before. -/
def answerCardOptions (body : List Byte) (s : State) : Answer :=
  let old := u8 (bit s.ciu.quiet)
  match fieldAt body 0 1 with
  | 0 => okReply old (withCiu { s.ciu with quiet := false } s)
  | 1 => okReply old (withCiu { s.ciu with quiet := true } s)
  | _ => refuse .badField s

/-- CARD_OPTIONS (R149). -/
def execCardOptions (s : State) : Host.Outcome State Fault Refusal := .next (takeRequest 0x34 answerCardOptions s)

/-- CARD_UP (R136). -/
def execCardUp (idle : Bool) (frame : List Byte) (s : State) : Host.Outcome State Fault Refusal :=
  .next (whenRunning (receiveFrame takeCardUp idle frame) s)

/-- BLOCK (R138). -/
def execBlock (idle : Bool) (frame : List Byte) (s : State) : Host.Outcome State Fault Refusal :=
  .next (whenRunning (receiveFrame takeBlockFrame idle frame) s)

/-- CARD_DOWN (R142). -/
def execCardDown (idle : Bool) (frame : List Byte) (s : State) : Host.Outcome State Fault Refusal :=
  .next (whenRunning (receiveFrame takeCardDown idle frame) s)

/-- WRITTEN (R146). -/
def execWritten (idle : Bool) (frame : List Byte) (s : State) : Host.Outcome State Fault Refusal :=
  .next (whenRunning (receiveFrame takeWritten idle frame) s)

/-- WRITE_TIMER_EXPIRY (R146). -/
def execWriteTimerExpiry (s : State) : Host.Outcome State Fault Refusal := .next (whenRunning writeTimerExpiry s)

/-- READ_TIMER_EXPIRY (R139). -/
def execReadTimerExpiry (s : State) : Host.Outcome State Fault Refusal := .next (whenRunning readTimerExpiry s)

/-- CARD_CHECK_ERROR (R132): a frame that is not well formed; a well-formed one is another row's (log 5). -/
def execCardCheckError (idle : Bool) (frame : List Byte) (s : State) : Host.Outcome State Fault Refusal :=
  .next (whenRunning (receiveFrame (fun _ s => s) idle frame) s)

/-- CARD_FRAME_CUT_SHORT (R131). -/
def execCardFrameCutShort (idle : Bool) (s : State) : Host.Outcome State Fault Refusal :=
  .next (whenRunning (frameCutShort idle) s)

/-- CARD_FRAMING_ERROR (R133). -/
def execCardFramingError (s : State) : Host.Outcome State Fault Refusal := .next (whenRunning framingError s)

/-- CARD_FRAME_SENT (R131, R139, R145). -/
def execCardFrameSent (s : State) : Host.Outcome State Fault Refusal := .next (whenRunning cardFrameSent s)

end Sys2Proof.Machine
end

