-- ==== Sys2Proof/Machine/Jcu.lean ====
section
/-! DEFINITION. The Journey Context Unit (02): clock, routes and their staging, position, delay, carriage, and the
opening and closing of a journey. -/

namespace Sys2Proof.Machine

/-- The JCU changes. -/
def withJcu (j : Jcu) (s : State) : State := { s with jcu := j }

/-! ### The clock (R33 to R36) -/

/-- The largest seconds count (R33). -/
def maxSeconds : Nat := 4294967295

/-- The clock goes on by one millisecond; at its largest value it holds (R33). -/
def Clock.advance (c : Clock) : Clock :=
  if c.millis < 999 then { c with millis := c.millis + 1 }
  else if c.seconds < maxSeconds then { c with millis := 0, seconds := c.seconds + 1 }
  else c

/-- A nominal millisecond of a clock (R33, R34): a set clock advances, unless this advance is withheld. -/
def Clock.tick (c : Clock) : Clock :=
  if !c.isSet then c else if c.withhold then { c with withhold := false } else c.advance

/-- A nominal second of a clock (R34): a set clock adds the trim to the accumulator and corrects by one millisecond. -/
def Clock.trimSecond (c : Clock) : Clock :=
  if !c.isSet then c
  else
    let acc := c.trimAcc + c.trim
    if 1000 ≤ acc then ({ c with trimAcc := acc - 1000 } : Clock).advance
    else if acc ≤ -1000 then { c with trimAcc := acc + 1000, withhold := true }
    else { c with trimAcc := acc }

/-- A nominal millisecond passes (R33): the timebase counts it and the clock follows. -/
def millisecond (s : State) : State :=
  { s with timebase := s.timebase + 1, jcu := { s.jcu with clock := s.jcu.clock.tick } }

/-- CLOCK_MILLISECOND (R33). -/
def execClockMillisecond (s : State) : Host.Outcome State Fault Refusal := .next (whenRunning millisecond s)

/-- TRIM_SECOND (R34). -/
def execTrimSecond (s : State) : Host.Outcome State Fault Refusal :=
  .next (whenRunning (fun s => withJcu { s.jcu with clock := s.jcu.clock.trimSecond } s) s)

/-- CLOCK-TRIM (R35). -/
def answerClockTrim (body : List Byte) (s : State) : Answer :=
  let trim := clampInt (-200) 200 (signed16 (fieldAt body 0 2))
  okReply (i16 trim) (withJcu { s.jcu with clock := { s.jcu.clock with trim := trim } } s)

/-- A clock value in milliseconds. -/
def clockMillis (seconds millis : Nat) : Int := (seconds : Int) * 1000 + (millis : Int)

/-- Two clock values differ by more than 120 seconds, to the millisecond (R36). -/
def stepTooLarge (present new : Int) : Bool := 120000 < (new - present).natAbs

/-- CLOCK-SET (R36); every case whose deadline the new value reaches closes in the same step, after the reply (R127). -/
def answerClockSet (body : List Byte) (s : State) : Answer :=
  let seconds := fieldAt body 0 4
  let millis := fieldAt body 4 2
  let c := s.jcu.clock
  if 999 < millis then refuse .badField s
  else if s.jcu.journey.isSome && stepTooLarge (clockMillis c.seconds c.millis) (clockMillis seconds millis) then
    refuse .badField s
  else
    okReply (u32 c.seconds ++ u16 c.millis)
      (timeOutCases
        (withJcu { s.jcu with clock := { c with isSet := true, seconds := seconds, millis := millis, trimAcc := 0 } } s))

/-! ### Routes and their staging (R20 to R23) -/

/-- ROUTE-BEGIN (R20). -/
def answerRouteBegin (body : List Byte) (s : State) : Answer :=
  let service := fieldAt body 0 2
  let count := fieldAt body 2 1
  let dayStart := fieldAt body 3 4
  if journeyClosing s then refuse .wrongState s
  else
    match s.jcu.staging with
    | .armed _ => refuse .wrongState s
    | _ =>
      if service = 0 ∨ count < 2 ∨ 64 < count then refuse .badField s
      else okReply [] (withJcu { s.jcu with staging := .filling service count dayStart [] } s)

/-- A stop record's fields are in range (R21). -/
def stopOk (st : Stop) : Bool := st.code != 0 && st.area ≤ 7 && st.planned ≤ 2879

/-- ROUTE-STOPS (R21). -/
def answerRouteStops (body : List Byte) (s : State) : Answer :=
  let first := fieldAt body 0 1
  let n := fieldAt body 1 1
  let stops := stopRecords body n
  if journeyClosing s then refuse .wrongState s
  else
    match s.jcu.staging with
    | .filling service count dayStart received =>
      if first ≠ received.length then refuse .badField s
      else if n = 0 ∨ 16 < n ∨ count < first + n then refuse .badField s
      else if !stops.all stopOk then refuse .badField s
      else
        okReply (u8 (received.length + n))
          (withJcu { s.jcu with staging := .filling service count dayStart (received ++ stops) } s)
    | _ => refuse .wrongState s

/-- Stop `st` after the stops `before` breaks a check of R22: its code is repeated, or its post or planned departure is
below its predecessor's. -/
def breaksRoute (before : List Stop) (st : Stop) : Bool :=
  before.any (fun p => p.code == st.code) ||
  match before.getLast? with
  | none => false
  | some p => decide (st.post < p.post) || decide (st.planned < p.planned)

/-- The lowest stop index at which a check of R22 fails. -/
def firstRouteFault (stops : List Stop) : Option Nat :=
  (List.range stops.length).find? fun i =>
    match stops[i]? with
    | some st => breaksRoute (stops.take i) st
    | none => false

/-- ROUTE-ARM (R22); its BAD-FIELD carries the failing stop index. -/
def answerRouteArm (_body : List Byte) (s : State) : Answer :=
  if journeyClosing s then refuse .wrongState s
  else
    match s.jcu.staging with
    | .filling service count dayStart stops =>
      if stops.length < count then refuse .wrongState s
      else
        match firstRouteFault stops with
        | some i => (s, u8 Status.badField.code ++ u8 i)
        | none =>
          okReply (u16 service ++ u8 count)
            (withJcu { s.jcu with staging := .armed { service := service, dayStart := dayStart, stops := stops } } s)
    | _ => refuse .wrongState s

/-- ROUTE-CANCEL (R23). -/
def answerRouteCancel (_body : List Byte) (s : State) : Answer :=
  okReply (u8 s.jcu.staging.code) (withJcu { s.jcu with staging := .empty } s)

/-! ### Opening a journey (R24) -/

/-- JOURNEY-OPEN (R24). -/
def answerJourneyOpen (body : List Byte) (s : State) : Answer :=
  let start := fieldAt body 0 1
  if s.jcu.journey.isSome then refuse .wrongState s
  else if !s.jcu.clock.isSet then refuse .wrongState s
  else
    match s.jcu.staging with
    | .armed route =>
      if route.stops.length < start + 2 then refuse .badField s
      else
        let number := (s.jcu.number + 1) % 65536
        let opened := withJcu
          { s.jcu with
            journey := some { closing := false, route := route, epoch := 1, position := .atStop start }
            number := number
            staging := .empty
            delay := 0
            carriage := 1
            cls := .second
            closeAtArrival := false } s
        okReply (u16 number)
          (journal (.journeyStart number route.service route.dayStart route.stops.length (route.stop start).code) opened)
    | _ => refuse .wrongState s

/-! ### Position and delay (R26 to R31) -/

/-- The epoch after `n`: from 65535 to 1 (R19). -/
def nextEpoch (n : Nat) : Nat := if n < 65535 then n + 1 else 1

/-- The delay a departure computes (R28): whole minutes rounded towards minus infinity, held to -60 to 720. -/
def departureDelay (seconds dayStart planned : Nat) : Int :=
  clampInt (-60) 720 (((seconds : Int) - ((dayStart : Int) + (planned : Int)) * 60) / 60)

/-- A ROUTE-DISCARDED is sent (R27, R38). -/
def discardNotice (cause : DiscardCause) (route : Route) (s : State) : State :=
  { s with lif := produceWaiting (.routeDiscarded cause route.service) s.lif }

/-- The staged route is applied at the departure from index k of the active route (R27); `k'` is the stop's index on
the staged one. -/
def applyRoute (j : Running) (staged : Route) (k k' : Nat) (s : State) : State :=
  let epoch := nextEpoch j.epoch
  let code := (j.route.stop k).code
  let applied := withJcu { s.jcu with staging := .empty,
                                      journey := some { j with route := staged, epoch := epoch } } s
  journal (.routeChange s.jcu.number j.epoch epoch j.route.service staged.service code)
    { applied with lif := produceWaiting (.routeApplied epoch staged.service code k k') applied.lif }

/-- An armed staged route is tried at the departure from index k (R27): the state after, and the departure index on
the active route as it then stands. -/
def tryStaged (j : Running) (k : Nat) (s : State) : State × Nat :=
  match s.jcu.staging with
  | .armed staged =>
    match staged.indexOf? (j.route.stop k).code with
    | some k' =>
      if k' + 2 ≤ staged.stops.length then (applyRoute j staged k k' s, k')
      else (discardNotice .atEnd staged (withJcu { s.jcu with staging := .empty } s), k)
    | none => (discardNotice .stopAbsent staged (withJcu { s.jcu with staging := .empty } s), k)
  | _ => (s, k)

/-- The position becomes RUNNING(k) and the delay is computed, on the active route as it stands (R26, R28). -/
def depart (k : Nat) (s : State) : State :=
  match s.jcu.journey with
  | some j =>
    withJcu
      { s.jcu with
        journey := some { j with position := .running k }
        delay := departureDelay s.jcu.clock.seconds j.route.dayStart (j.route.stop k).planned } s
  | none => s

/-- The fields of a STOP-DEPART reply (R26): the position index after the departure, the route epoch and the delay. -/
def departFields (s : State) : List Byte :=
  match s.jcu.journey with
  | some j => u8 j.position.index ++ u16 j.epoch ++ i16 s.jcu.delay
  | none => []

/-- STOP-DEPART (R26). -/
def answerStopDepart (body : List Byte) (s : State) : Answer :=
  let k := fieldAt body 0 1
  match s.jcu.journey with
  | none => refuse .wrongState s
  | some j =>
    if j.closing then refuse .wrongState s
    else
      match j.position with
      | .running _ => refuse .wrongState s
      | .atStop at' =>
        if k ≠ at' ∨ j.route.stops.length < k + 2 then refuse .badField s
        else
          let tried := tryStaged j k s
          let departed := depart tried.2 tried.1
          okReply (departFields departed) departed

/-- The journey enters CLOSING (R38). -/
def enterClosing (s : State) : State :=
  match s.jcu.journey with
  | none => s
  | some j =>
    let jcu := { s.jcu with journey := some { j with closing := true }, closeAtArrival := false }
    match s.jcu.staging with
    | .armed staged => discardNotice .closing staged (withJcu { jcu with staging := .empty } s)
    | _ => withJcu jcu s

/-- STOP-ARRIVE (R29). -/
def answerStopArrive (body : List Byte) (s : State) : Answer :=
  let k := fieldAt body 0 1
  match s.jcu.journey with
  | none => refuse .wrongState s
  | some j =>
    if j.closing then refuse .wrongState s
    else
      match j.position with
      | .atStop _ => refuse .wrongState s
      | .running at' =>
        if k < at' + 1 ∨ j.route.stops.length < k + 1 then refuse .badField s
        else
          let arrived := withJcu { s.jcu with journey := some { j with position := .atStop k } } s
          let after := if k + 1 = j.route.stops.length ∨ s.jcu.closeAtArrival then enterClosing arrived else arrived
          okReply ((Position.atStop k).bytes ++ u8 after.jcu.stateCode) after

/-- DELAY-SET (R31). -/
def answerDelaySet (body : List Byte) (s : State) : Answer :=
  if s.jcu.journey.isNone then refuse .wrongState s
  else
    let delay := clampInt (-60) 720 (signed16 (fieldAt body 0 2))
    okReply (i16 delay) (withJcu { s.jcu with delay := delay } s)

/-- CARRIAGE-SET (R32). -/
def answerCarriageSet (body : List Byte) (s : State) : Answer :=
  let carriage := fieldAt body 0 1
  if s.jcu.journey.isNone then refuse .wrongState s
  else if carriage < 1 ∨ 16 < carriage then refuse .badField s
  else
    match TravelClass.ofCode? (fieldAt body 1 1) with
    | none => refuse .badField s
    | some cls => okReply [] (withJcu { s.jcu with carriage := carriage, cls := cls } s)

/-! ### Closing a journey (R37 to R40) -/

/-- JOURNEY-CLOSE (R37): mode NOW 1, AT-ARRIVAL 2. -/
def answerJourneyClose (body : List Byte) (s : State) : Answer :=
  if !journeyOpen s then refuse .wrongState s
  else
    match fieldAt body 0 1 with
    | 1 => okReply [] (enterClosing s)
    | 2 => okReply [] (withJcu { s.jcu with closeAtArrival := true } s)
    | _ => refuse .badField s

/-- The conditions of close completion (R40). -/
def canComplete (s : State) : Bool :=
  journeyClosing s && s.iq.entries.isEmpty && s.ven.engine == .idle && s.ciu.state != .writing &&
    s.ven.parked.isNone && s.ctb.closedWaiting.isEmpty && s.ctb.cases.length + 1 ≤ freeSlots s.lif

/-- A case closes at completion (R119, R129): its CASE-CLOSED enters at once, and a notice of the journal becomes
pending (R40). -/
def completeCase (s : State) (c : Case) : State :=
  let closed := closedOf .journeyEnded .none c.rides c
  let ended := journalWith pendAll (caseEndRecord closed) (detachCase c s)
  { ended with lif := enterNotice (.caseClosed closed) ended.lif }

/-- A pending notice enters while a slot is empty (R161). -/
def enterIfEmpty (l : Lif) (n : Notice) : Lif :=
  if l.outbound.length < 24 then
    enterNotice n { l with pendingNotices := l.pendingNotices.filter (fun m => m.code != n.code) }
  else l

/-- The pending notices enter in the order of their kind codes while slots are empty (R40, R161). -/
def flushPending (l : Lif) : Lif := l.pendingNotices.foldl enterIfEmpty l

/-- The close completes (R40). -/
def completeClose (j : Running) (s : State) : State :=
  let count := s.ctb.cases.length
  let closed := s.ctb.cases.foldl completeCase s
  let cleared := { closed with irg := { closed.irg with records := [] } }
  let released := withJcu { cleared.jcu with journey := none, delay := 0 } cleared
  let ended := journalWith pendAll
    (.journeyEnd s.jcu.number j.epoch (j.route.stop j.position.index).code count) released
  { ended with lif := flushPending (enterNotice (.journeyClosed s.jcu.number count) ended.lif) }

/-- The close completes when all its conditions hold (R40). -/
def closeCompletion (s : State) : State :=
  match s.jcu.journey with
  | some j => if canComplete s then completeClose j s else s
  | none => s

/-- CLOSE_COMPLETION (R40). -/
def execCloseCompletion (s : State) : Host.Outcome State Fault Refusal := .next (whenRunning closeCompletion s)

/-- CLOCK_SET (R36). -/
def execClockSet (s : State) : Host.Outcome State Fault Refusal := .next (takeRequest 0x10 answerClockSet s)

/-- CLOCK_TRIM (R35). -/
def execClockTrim (s : State) : Host.Outcome State Fault Refusal := .next (takeRequest 0x11 answerClockTrim s)

/-- JOURNEY_OPEN (R24). -/
def execJourneyOpen (s : State) : Host.Outcome State Fault Refusal := .next (takeRequest 0x12 answerJourneyOpen s)

/-- JOURNEY_CLOSE (R37). -/
def execJourneyClose (s : State) : Host.Outcome State Fault Refusal := .next (takeRequest 0x13 answerJourneyClose s)

/-- ROUTE_BEGIN (R20). -/
def execRouteBegin (s : State) : Host.Outcome State Fault Refusal := .next (takeRequest 0x14 answerRouteBegin s)

/-- ROUTE_STOPS (R21). -/
def execRouteStops (s : State) : Host.Outcome State Fault Refusal := .next (takeRequest 0x15 answerRouteStops s)

/-- ROUTE_ARM (R22). -/
def execRouteArm (s : State) : Host.Outcome State Fault Refusal := .next (takeRequest 0x16 answerRouteArm s)

/-- ROUTE_CANCEL (R23). -/
def execRouteCancel (s : State) : Host.Outcome State Fault Refusal := .next (takeRequest 0x17 answerRouteCancel s)

/-- STOP_ARRIVE (R29). -/
def execStopArrive (s : State) : Host.Outcome State Fault Refusal := .next (takeRequest 0x18 answerStopArrive s)

/-- STOP_DEPART (R26). -/
def execStopDepart (s : State) : Host.Outcome State Fault Refusal := .next (takeRequest 0x19 answerStopDepart s)

/-- CARRIAGE_SET (R32). -/
def execCarriageSet (s : State) : Host.Outcome State Fault Refusal := .next (takeRequest 0x1A answerCarriageSet s)

/-- DELAY_SET (R31). -/
def execDelaySet (s : State) : Host.Outcome State Fault Refusal := .next (takeRequest 0x1B answerDelaySet s)

end Sys2Proof.Machine
end

