-- ==== Sys2Proof/Machine/Jnl.lean ====
section
/-! DEFINITION. The Journal's requests and timers (10); its append stands in Machine/Ops.lean. -/

namespace Sys2Proof.Machine

/-- The JNL changes. -/
def withJnl (j : Jnl) (s : State) : State := { s with jnl := j }

/-- The stored records a read returns: up to 7, from the first whose sequence is at or above `from'` (R178). -/
def readRecords (from' : Nat) (rs : List JournalRecord) : List JournalRecord :=
  (rs.dropWhile (fun r => r.sequence < from')).take 7

/-- The read reaches the newest: its records include the newest stored one, or the ring is empty (R178). -/
def reachesNewest (from' : Nat) (j : Jnl) : Bool :=
  j.records.isEmpty || (readRecords from' j.records).any (fun r => r.sequence == j.newest)

/-- The batch timers stop and the unreported count is 0 (R178). -/
def Jnl.stopBatch (j : Jnl) : Jnl := { j with quietTimer := none, absoluteTimer := none, unreported := 0 }

/-- JOURNAL-READ (R178). -/
def answerJournalRead (body : List Byte) (s : State) : Answer :=
  let from' := fieldAt body 0 4
  let rs := readRecords from' s.jnl.records
  okReply (u8 rs.length ++ u32 s.jnl.lastSequence ++ u32 s.jnl.oldest ++ rs.flatMap JournalRecord.bytes)
    (if reachesNewest from' s.jnl then withJnl s.jnl.stopBatch s else s)

/-- The ring after a release up to a value (R179): a record above it stays; when at least one is removed the full armed
flag is set, and the low armed flag too if the free count is then above the threshold. -/
def Jnl.release (upTo : Nat) (j : Jnl) : Jnl :=
  let kept := j.records.filter (fun r => min upTo j.newest < r.sequence)
  if kept.length < j.records.length then
    { j with records := kept, fullArmed := true, lowArmed := j.lowArmed || decide (j.lowThreshold < 2048 - kept.length) }
  else j

/-- JOURNAL-RELEASE (R179). -/
def answerJournalRelease (body : List Byte) (s : State) : Answer :=
  let j := s.jnl.release (fieldAt body 0 4)
  okReply (u16 (s.jnl.records.length - j.records.length) ++ u32 j.oldest ++ u16 j.free) (withJnl j s)

/-- The threshold of a divisor step: 1024, 512 or 256 (R182). -/
def thresholdOf (step : Nat) : Nat := 2048 / 2 ^ step

/-- JOURNAL-TIMERS (R182): the reply carries the values stored, the threshold as its step (log 25). -/
def answerJournalTimers (body : List Byte) (s : State) : Answer :=
  let q := min 255 (fieldAt body 0 2)
  let a := min 3600 (fieldAt body 2 2)
  let step := clampNat 1 3 (fieldAt body 4 1)
  let threshold := thresholdOf step
  okReply (u16 q ++ u16 a ++ u8 step)
    (withJnl { s.jnl with quietSetting := q, absoluteSetting := a, lowThreshold := threshold,
                          lowArmed := decide (threshold < s.jnl.free) } s)

/-- JOURNAL-READY is produced and both timers are stopped (R181). -/
def reportBatch (s : State) : State :=
  let r := ({ s.jnl with quietTimer := none, absoluteTimer := none } : Jnl).ready
  { s with jnl := r.1, lif := produceAll r.2 s.lif }

/-- The timebase has reached a running journal timer. -/
def batchDue (timer : Option Nat) (now : Nat) : Bool :=
  match timer with
  | some due => due ≤ now
  | none => false

/-- QUIET_TIMER_EXPIRY (R181): the absolute timer stops too. -/
def execQuietTimerExpiry (s : State) : Host.Outcome State Fault Refusal :=
  .next (whenRunning (fun s => if batchDue s.jnl.quietTimer s.timebase then reportBatch s else s) s)

/-- ABSOLUTE_TIMER_EXPIRY (R181): the quiet timer stops too. -/
def execAbsoluteTimerExpiry (s : State) : Host.Outcome State Fault Refusal :=
  .next (whenRunning (fun s => if batchDue s.jnl.absoluteTimer s.timebase then reportBatch s else s) s)

/-- JOURNAL_READ (R178). -/
def execJournalRead (s : State) : Host.Outcome State Fault Refusal := .next (takeRequest 0x38 answerJournalRead s)

/-- JOURNAL_RELEASE (R179). -/
def execJournalRelease (s : State) : Host.Outcome State Fault Refusal := .next (takeRequest 0x39 answerJournalRelease s)

/-- JOURNAL_TIMERS (R182). -/
def execJournalTimers (s : State) : Host.Outcome State Fault Refusal := .next (takeRequest 0x3A answerJournalTimers s)

end Sys2Proof.Machine
end

