-- ==== Sys2Proof/Machine/Lif.lean ====
section
/-! DEFINITION. The Link Interface and the Intake Queue's requests (09): reception and its faults, the outbound queue's
own steps, STATUS, STANDBY, PRESENT and INTAKE-MARKS. RESET stands in Machine/Reset.lean. -/

namespace Sys2Proof.Machine

/-- The LIF changes. -/
def withLif (l : Lif) (s : State) : State := { s with lif := l }

/-! ### Reception (R154 to R156, R168) -/

/-- The marker that begins a frame: it ends the hunt, and wakes the part in STANDBY with cause LINK (R154, R168). While
the receiver is in a frame, 0xA5 is an ordinary byte (R153). -/
def markerReceived (l : Lif) : Lif :=
  match l.receiver with
  | .hunting => wakeLif .link { l with receiver := .inFrame }
  | .inFrame => l

/-- MARKER_WAKE (R168). -/
def execMarkerWake (s : State) : Host.Outcome State Fault Refusal :=
  .next (whenRunning (fun s => withLif (markerReceived s.lif) s) s)

/-- A fault is detected (R155): the fault count rises, saturating at 255, and LINK-FAULT is produced with it. -/
def linkFault (cause : LinkFaultCause) (header : Option (Byte × Byte)) (l : Lif) : Lif :=
  let count := satSucc 255 l.faultCount
  produceSingleton (.linkFault cause header count) { l with faultCount := count }

/-- The frame in progress is discarded by a fault, and the receiver hunts again (R155). The frame's marker was received
before the fault (log 4). -/
def faultFrame (cause : LinkFaultCause) (header : Option (Byte × Byte)) (l : Lif) : Lif :=
  linkFault cause header { markerReceived l with receiver := .hunting }

/-- LENGTH_FAULT (R155). -/
def execLengthFault (kind tag : Byte) (s : State) : Host.Outcome State Fault Refusal :=
  .next (whenRunning (fun s => withLif (faultFrame .length (some (kind, tag)) s.lif) s) s)

/-- HOST_STOP_BIT_FAULT (R155): reported as CRC. -/
def execHostStopBitFault (header : Option (Byte × Byte)) (s : State) : Host.Outcome State Fault Refusal :=
  .next (whenRunning (fun s => withLif (faultFrame .crc header s.lif) s) s)

/-- GAP_FAULT (R155). -/
def execGapFault (header : Option (Byte × Byte)) (s : State) : Host.Outcome State Fault Refusal :=
  .next (whenRunning (fun s => withLif (faultFrame .gap header s.lif) s) s)

/-- A good frame joins the request buffer, or is dropped with OVERRUN when it holds 4 (R156). -/
def bufferFrame (frame : RequestFrame) (l : Lif) : Lif :=
  if l.requests.length < 4 then { l with requests := l.requests ++ [frame] }
  else linkFault .overrun (some (frame.kind, frame.tag)) l

/-- A complete frame has been received (R154): with the right CRC it is good. A body above 240 bytes is the LENGTH fault
its second length byte is (R155; log 5). -/
def frameReceived (kind tag : Byte) (body : List Byte) (crc : BitVec 16) (l : Lif) : Lif :=
  if 240 < body.length then faultFrame .length (some (kind, tag)) l
  else if crc16 (coveredBytes kind tag body) = crc then
    bufferFrame { kind := kind, tag := tag, body := body } { markerReceived l with receiver := .hunting }
  else faultFrame .crc (some (kind, tag)) l

/-- HOST_FRAME_RECEIVED (R154). -/
def execHostFrameReceived (kind tag : Byte) (body : List Byte) (crc : BitVec 16) (s : State) :
    Host.Outcome State Fault Refusal :=
  .next (whenRunning (fun s => withLif (frameReceived kind tag body crc s.lif) s) s)

/-! ### Sending, and the entry of notices (R159 to R161, R167) -/

/-- The last byte of the frame on the line is sent, and its slot becomes empty (R159, R167). -/
def frameSent (s : State) : State :=
  match beingSent s.lif with
  | .frame f :: _ =>
    { s with lif := { s.lif with outbound := s.lif.outbound.tail, standbyToSend := s.lif.standbyToSend - 1 },
             hostSent := s.hostSent ++ [f.bytes] }
  | _ => s

/-- FRAME_SENT (R159). -/
def execFrameSent (s : State) : Host.Outcome State Fault Refusal := .next (whenRunning frameSent s)

/-- The oldest notice of the waiting list takes an empty slot (R160). -/
def waitingEnter (l : Lif) : Lif :=
  match l.waiting with
  | [] => l
  | n :: rest => if l.outbound.length < 24 then enterNotice n { l with waiting := rest } else l

/-- WAITING_NOTICE_ENTER (R160). -/
def execWaitingNoticeEnter (s : State) : Host.Outcome State Fault Refusal :=
  .next (whenRunning (fun s => withLif (waitingEnter s.lif) s) s)

/-- The pending notice of the lowest kind code enters an empty slot, after the waiting list, and clears its flag
(R160, R161). In STANDBY too: R167 has pending notices stay until the wake, and the model reads that as not sent until
then (log 46). -/
def pendingEnter (l : Lif) : Lif :=
  match l.pendingNotices with
  | [] => l
  | n :: rest =>
    if l.waiting.isEmpty ∧ l.outbound.length < 24 then enterNotice n { l with pendingNotices := rest } else l

/-- PENDING_NOTICE_ENTER (R161). -/
def execPendingNoticeEnter (s : State) : Host.Outcome State Fault Refusal :=
  .next (whenRunning (fun s => withLif (pendingEnter s.lif) s) s)

/-! ### Requests -/

/-- UNKNOWN_REQUEST (R158): a taken frame of a kind that is not a request kind is answered with kind 0x7F. -/
def execUnknownRequest (s : State) : Host.Outcome State Fault Refusal :=
  .next (whenRunning
    (takeFrame (fun frame => !isRequestKind frame.kind.toNat)
      (fun frame s => (s, .reply 0x7F#8 frame.tag (u8 Status.unknown.code)))) s)

/-- The STATUS flags byte (R193). -/
def statusFlags (s : State) : Nat :=
  bit s.jcu.clock.isSet + 2 * bit s.jcu.closeAtArrival + 4 * bit s.iq.hold + 8 * bit s.ven.parked.isSome +
    16 * bit s.rsu.pendingImage.isSome + 32 * bit s.ciu.quiet + 64 * bit s.ciu.held

/-- The JCU's STATUS fields of a running journey: position, epoch, service; all 0 in NONE (R18, R193). -/
def statusJourney (j : Option Running) : List Byte :=
  match j with
  | some j => j.position.bytes ++ u16 j.epoch ++ u16 j.route.service
  | none => u16 0 ++ u16 0 ++ u16 0

/-- The stops received, as STATUS reports them (R18). -/
def stopsReceived : Staging → Nat
  | .empty => 0
  | .filling _ _ _ stops => stops.length
  | .armed route => route.stops.length

/-- The IQ's head entry source and arrival time, 0 when empty (R166, R193). -/
def statusHead (entries : List Entry) : List Byte :=
  match entries with
  | e :: _ => u8 e.origin.code ++ u32 e.arrival
  | [] => u8 0 ++ u32 0

/-- The generation of the pending image, 0 when none is held (R55). -/
def pendingGeneration (p : Option PendingImage) : Nat :=
  match p with
  | some p => p.image.generation
  | none => 0

/-- How many segments the pending image has received, 0 when none is held (R55). -/
def pendingSegments (p : Option PendingImage) : Nat :=
  match p with
  | some p => p.received.length
  | none => 0

/-- The STATUS reply's fields after the status byte, in the order of R193. -/
def statusFields (s : State) : List Byte :=
  u8 s.lif.power.code ++ u8 s.jcu.stateCode ++ u16 s.jcu.number ++ statusJourney s.jcu.journey ++
  u8 s.jcu.staging.code ++ u8 (stopsReceived s.jcu.staging) ++ u8 (statusFlags s) ++
  u32 s.jcu.clock.seconds ++ u16 s.jcu.clock.millis ++ i16 s.jcu.delay ++ u8 s.jcu.carriage ++ u8 s.jcu.cls.code ++
  u8 s.iq.entries.length ++ u8 s.iq.high ++ u8 s.iq.low ++ u16 s.iq.counter ++ statusHead s.iq.entries ++
  u8 s.ven.engine.code ++ u8 s.ctb.cases.length ++ u8 (heldSlots s.ctb) ++ u16 s.irg.records.length ++
  u32 s.jnl.oldest ++ u32 s.jnl.newest ++ u16 s.jnl.free ++ u16 s.jnl.dropCount ++
  u32 s.rsu.active.generation ++ u8 s.rsu.active.offset ++ u8 (pendingSegments s.rsu.pendingImage) ++
  u32 (pendingGeneration s.rsu.pendingImage) ++ u8 s.rsu.list.length ++
  u8 s.ciu.state.code ++ u16 (if s.ciu.held then s.ciu.tag else 0) ++ u16 s.ciu.counts.framing ++
  u16 s.ciu.counts.check ++ u16 s.ciu.counts.sequence ++ u16 s.ciu.counts.timeout ++ u16 s.ciu.counts.format

/-- STATUS (R166). -/
def answerStatus (_body : List Byte) (s : State) : Answer := okReply (statusFields s) s

/-- STATUS (R166). -/
def execStatus (s : State) : Host.Outcome State Fault Refusal := .next (takeRequest 0x01 answerStatus s)

/-- The conditions of STANDBY (R167). -/
def canStandby (s : State) : Bool :=
  s.iq.entries.isEmpty && s.ven.engine == .idle && s.ven.parked.isNone && s.ciu.state == .absent

/-- STANDBY (R167): the frames still to be sent are those in the outbound queue, the reply's reserved slot the last. A
receiver that is in a frame stays in it: its marker came before, so it wakes nothing, and the frame is buffered in
STANDBY when it is complete (log 41). -/
def answerStandby (_body : List Byte) (s : State) : Answer :=
  if canStandby s then
    okReply [] (withLif { s.lif with power := .standby, standbyToSend := s.lif.outbound.length } s)
  else refuse .busy s

/-- STANDBY (R167). -/
def execStandby (s : State) : Host.Outcome State Fault Refusal := .next (takeRequest 0x02 answerStandby s)

/-- INTAKE-MARKS (R164). -/
def answerIntakeMarks (body : List Byte) (s : State) : Answer :=
  let high := min 16 (fieldAt body 0 1)
  let low := fieldAt body 1 1
  if high < 2 ∨ high ≤ low then refuse .badField s
  else
    let marked := { s with iq := { s.iq with high := high, low := low } }
    let applied := if s.iq.hold then resumeAfterTake marked else holdAfterAdd marked
    okReply (u8 high ++ u8 low ++ u8 (bit applied.iq.hold)) applied

/-- INTAKE_MARKS (R164). -/
def execIntakeMarks (s : State) : Host.Outcome State Fault Refusal := .next (takeRequest 0x04 answerIntakeMarks s)

/-- PRESENT (R163). -/
def answerPresent (body : List Byte) (s : State) : Answer :=
  if !journeyOpen s then refuse .wrongState s
  else if 16 ≤ s.iq.entries.length then refuse .full s
  else
    let added := addEntry .link body s
    okReply (u16 added.iq.counter ++ u8 added.iq.entries.length ++ u8 (bit added.iq.hold)) added

/-- PRESENT (R163). -/
def execPresent (s : State) : Host.Outcome State Fault Refusal := .next (takeRequest 0x08 answerPresent s)

end Sys2Proof.Machine
end

