-- ==== Sys2Proof/Machine/Reset.lean ====
section
/-! DEFINITION. The two resets (R169, R170) and what each leaves of every unit (R10, R42, R56, R57, R62, R75, R91, R101,
R106, R130, R151, R165, R170, R184). -/

namespace Sys2Proof.Machine

/-! ### Hard reset (R170) -/

/-- Every unit at its hard-reset value; what the lines have carried and the waiting commands are not the part's. -/
def hardReset (s : State) : State :=
  { State.reset with hostSent := s.hostSent, cardSent := s.cardSent, pending := s.pending }

/-- The part starts from its hard-reset state, and START is queued (R170, R171). -/
def startNotice (cause : StartCause) (s : State) : State :=
  { s with lif := enterNotice (.start cause s.jcu.number s.jcu.clock.isSet s.jnl.lastSequence) s.lif }

/-- POWER_ON (R170). RESET_N is taken to be high (log 11). -/
def execPowerOn (s : State) : Host.Outcome State Fault Refusal := .next (startNotice .power (hardReset s))

/-- The frame on the host line, completed before the reset (R170). -/
def completedHost (l : Lif) : List (List Byte) :=
  match beingSent l with
  | .frame f :: _ => [f.bytes]
  | _ => []

/-- The frame on the card line, completed before the reset (R151). -/
def completedCard (c : Ciu) : List CardFrame := c.sending.take 1

/-- RELEASE ERROR, when a reset finds the unit in any state other than ABSENT (R151). -/
def resetRelease (c : Ciu) : List CardFrame := if c.state = .absent then [] else [.release .error]

/-- RESET_N goes low (R170): the frames being sent are completed, RELEASE ERROR follows where R151 calls for it, and the
part holds its hard-reset state. -/
def resetNLow (s : State) : State :=
  { hardReset s with
    resetN := false
    hostSent := s.hostSent ++ completedHost s.lif
    cardSent := s.cardSent ++ (completedCard s.ciu ++ resetRelease s.ciu).map CardFrame.bytes }

/-- RESET_N_LOW (R170). -/
def execResetNLow (s : State) : Host.Outcome State Fault Refusal := .next (whenRunning resetNLow s)

/-- RESET_N_HIGH (R170): while RESET_N is low, the part starts from its hard-reset state. -/
def execResetNHigh (s : State) : Host.Outcome State Fault Refusal :=
  .next (if s.resetN then s else startNotice .line (hardReset s))

/-! ### Soft reset (R169) -/

/-- The LIF at a soft reset, before the reply (R169 step 1): the frame being sent stays, and the reply's reserved slot
follows it; the receiver and the request buffer are kept. R154 has the receiver hunting after either reset, R169 step 1
and the table of R170 have a soft reset keep it: the model follows the two (log 40). -/
def Lif.softReset (l : Lif) : Lif :=
  { l with outbound := beingSent l ++ [.reserved], pendingNotices := [], waiting := [], faultCount := 0,
           power := .active, standbyToSend := 0 }

/-- The Intake Queue at a soft reset (R169, R170). -/
def Iq.softReset (q : Iq) : Iq := { q with entries := [], hold := false }

/-- The JCU at a soft reset (R42). -/
def Jcu.softReset (j : Jcu) : Jcu :=
  { j with journey := none, staging := .empty, delay := 0, closeAtArrival := false, carriage := 1, cls := .second }

/-- The VEN at a soft reset (R57): the evaluation in hand, its check in flight and the parked verdict are discarded. -/
def Ven.softReset (v : Ven) : Ven := { v with engine := .idle, parked := none }

/-- The IRG at a soft reset (R101). -/
def Irg.softReset (g : Irg) : Irg := { g with records := [] }

/-- The CTB at a soft reset (R130). -/
def Ctb.softReset (c : Ctb) : Ctb := { c with cases := [], closedWaiting := [], resolution := none }

/-- The CIU at a soft reset (R151): the frame being sent is completed and RELEASE ERROR follows, where it held a card
(log 29). No wait for a gap is set, so what follows a frame that was partly received is taken as a new one (log 45); a
wait already running goes on (log 6). -/
def Ciu.softReset (c : Ciu) : Ciu :=
  { c with state := .absent, held := false, identifier := none, image := [], readTimer := none, write := none,
           sending := completedCard c ++ resetRelease c }

/-- Every unit's soft-reset effects (R169 steps 1 and 3). The DCU, the RSU, the journal and the timebase are kept (R10,
R56, R184). -/
def softReset (s : State) : State :=
  { s with lif := s.lif.softReset, iq := s.iq.softReset, jcu := s.jcu.softReset, ven := s.ven.softReset,
           irg := s.irg.softReset, ctb := s.ctb.softReset, ciu := s.ciu.softReset }

/-- RESET (R169): the soft reset, the PART-RESET record, START SOFT, and only then the notices of the append (R184). -/
def answerReset (_body : List Byte) (s : State) : Answer :=
  let cleared := softReset s
  let appended := s.jnl.append (tariffTime s) s.timebase (.partReset s.jcu.number s.jcu.stateCode)
  let started := startNotice .soft { cleared with jnl := appended.1 }
  okReply [] { started with lif := produceAll appended.2 started.lif }

/-- RESET (R169). -/
def execReset (s : State) : Host.Outcome State Fault Refusal := .next (takeRequest 0x03 answerReset s)

end Sys2Proof.Machine
end

