-- ==== Sys2Proof/Machine/Dispatch.lean ====
section
/-! DEFINITION. One arm for each command of the table, each one direct call of its meaning. -/

namespace Sys2Proof.Machine

/-- A command's effect on everything but the queue of waiting commands. -/
def exec (i : Instr) (s : State) : Host.Outcome State Fault Refusal :=
  match i with
  | .powerOn => Sys2Proof.Machine.execPowerOn s
  | .resetNLow => Sys2Proof.Machine.execResetNLow s
  | .resetNHigh => Sys2Proof.Machine.execResetNHigh s
  | .hostFrameReceived kind tag body crc => Sys2Proof.Machine.execHostFrameReceived kind tag body crc s
  | .lengthFault kind tag => Sys2Proof.Machine.execLengthFault kind tag s
  | .hostStopBitFault header => Sys2Proof.Machine.execHostStopBitFault header s
  | .gapFault header => Sys2Proof.Machine.execGapFault header s
  | .markerWake => Sys2Proof.Machine.execMarkerWake s
  | .frameSent => Sys2Proof.Machine.execFrameSent s
  | .waitingNoticeEnter => Sys2Proof.Machine.execWaitingNoticeEnter s
  | .pendingNoticeEnter => Sys2Proof.Machine.execPendingNoticeEnter s
  | .unknownRequest => Sys2Proof.Machine.execUnknownRequest s
  | .status => Sys2Proof.Machine.execStatus s
  | .standby => Sys2Proof.Machine.execStandby s
  | .reset => Sys2Proof.Machine.execReset s
  | .intakeMarks => Sys2Proof.Machine.execIntakeMarks s
  | .present => Sys2Proof.Machine.execPresent s
  | .clockSet => Sys2Proof.Machine.execClockSet s
  | .clockTrim => Sys2Proof.Machine.execClockTrim s
  | .clockMillisecond => Sys2Proof.Machine.execClockMillisecond s
  | .trimSecond => Sys2Proof.Machine.execTrimSecond s
  | .journeyOpen => Sys2Proof.Machine.execJourneyOpen s
  | .journeyClose => Sys2Proof.Machine.execJourneyClose s
  | .closeCompletion => Sys2Proof.Machine.execCloseCompletion s
  | .routeBegin => Sys2Proof.Machine.execRouteBegin s
  | .routeStops => Sys2Proof.Machine.execRouteStops s
  | .routeArm => Sys2Proof.Machine.execRouteArm s
  | .routeCancel => Sys2Proof.Machine.execRouteCancel s
  | .stopArrive => Sys2Proof.Machine.execStopArrive s
  | .stopDepart => Sys2Proof.Machine.execStopDepart s
  | .carriageSet => Sys2Proof.Machine.execCarriageSet s
  | .delaySet => Sys2Proof.Machine.execDelaySet s
  | .keyLoad => Sys2Proof.Machine.execKeyLoad s
  | .keyState => Sys2Proof.Machine.execKeyState s
  | .keyDrop => Sys2Proof.Machine.execKeyDrop s
  | .filterBegin => Sys2Proof.Machine.execFilterBegin s
  | .filterSegment => Sys2Proof.Machine.execFilterSegment s
  | .filterCommit => Sys2Proof.Machine.execFilterCommit s
  | .listAdd => Sys2Proof.Machine.execListAdd s
  | .listRemove => Sys2Proof.Machine.execListRemove s
  | .listFlush => Sys2Proof.Machine.execListFlush s
  | .areaSet => Sys2Proof.Machine.execAreaSet s
  | .acceptMap => Sys2Proof.Machine.execAcceptMap s
  | .classSet => Sys2Proof.Machine.execClassSet s
  | .policySet => Sys2Proof.Machine.execPolicySet s
  | .caseResolve => Sys2Proof.Machine.execCaseResolve s
  | .caseClosedQueued => Sys2Proof.Machine.execCaseClosedQueued s
  | .caseQuote => Sys2Proof.Machine.execCaseQuote s
  | .caseTimeout => Sys2Proof.Machine.execCaseTimeout s
  | .caseDeadlineReached => Sys2Proof.Machine.execCaseDeadlineReached s
  | .passbackSet => Sys2Proof.Machine.execPassbackSet s
  | .cardOptions => Sys2Proof.Machine.execCardOptions s
  | .journalRead => Sys2Proof.Machine.execJournalRead s
  | .journalRelease => Sys2Proof.Machine.execJournalRelease s
  | .journalTimers => Sys2Proof.Machine.execJournalTimers s
  | .quietTimerExpiry => Sys2Proof.Machine.execQuietTimerExpiry s
  | .absoluteTimerExpiry => Sys2Proof.Machine.execAbsoluteTimerExpiry s
  | .engineTake => Sys2Proof.Machine.execEngineTake s
  | .checkComplete => Sys2Proof.Machine.execCheckComplete s
  | .issue ofParked => Sys2Proof.Machine.execIssue ofParked s
  | .cardUp idle frame => Sys2Proof.Machine.execCardUp idle frame s
  | .block idle frame => Sys2Proof.Machine.execBlock idle frame s
  | .cardDown idle frame => Sys2Proof.Machine.execCardDown idle frame s
  | .written idle frame => Sys2Proof.Machine.execWritten idle frame s
  | .writeTimerExpiry => Sys2Proof.Machine.execWriteTimerExpiry s
  | .readTimerExpiry => Sys2Proof.Machine.execReadTimerExpiry s
  | .cardCheckError idle frame => Sys2Proof.Machine.execCardCheckError idle frame s
  | .cardFrameCutShort idle => Sys2Proof.Machine.execCardFrameCutShort idle s
  | .cardFramingError => Sys2Proof.Machine.execCardFramingError s
  | .cardFrameSent => Sys2Proof.Machine.execCardFrameSent s

end Sys2Proof.Machine
end

