-- ==== Sys2Proof/Safety.lean ====
section
/-! DEFINITION. What counts as a good state of the block, unit by unit, each from the ranges and the prose invariants of
the unit's chapter; and the words the statements use for a request that stands ready and for its reply. -/

namespace Sys2Proof.Machine

/-! ### The link (09) -/

/-- The seven singleton notices (R161). -/
def Notice.isSingleton : Notice → Bool
  | .linkFault _ _ _ | .intakeHold _ _ | .intakeResume _ _ | .cardEvent _ | .journalReady _ _ | .journalLow _ _ _ _
  | .journalFull _ _ => true
  | _ => false

/-- The three notices of the waiting list (R160). -/
def Notice.joinsWaiting : Notice → Bool
  | .wake _ | .routeApplied _ _ _ _ _ | .routeDiscarded _ _ => true
  | _ => false

/-- The pending notices: singletons, one of a kind, rising by kind code, and never both INTAKE-HOLD and INTAKE-RESUME
(R161). -/
def pendingOk (ns : List Notice) : Prop :=
  (∀ n ∈ ns, n.isSingleton = true) ∧ ns.Pairwise (fun m n => m.code < n.code) ∧
    ¬ ((∃ m ∈ ns, m.code = 0x83) ∧ ∃ n ∈ ns, n.code = 0x84)

/-- No slot of the outbound queue is reserved: so it is between two commands (R157). -/
def noneReserved (slots : List Slot) : Prop := .reserved ∉ slots

/-- The Link Interface is in order (R155, R156, R159 to R161, R167). -/
def Lif.ok (l : Lif) : Prop :=
  l.requests.length ≤ 4 ∧ l.outbound.length ≤ 24 ∧ noneReserved l.outbound ∧ pendingOk l.pendingNotices ∧
    l.waiting.length ≤ 2 ∧ (∀ n ∈ l.waiting, n.joinsWaiting = true) ∧ (l.power = .standby → l.waiting = []) ∧
    l.faultCount ≤ 255

/-- The Intake Queue is in order: its size, its marks, and HOLD as the count has left it (R162 to R165). -/
def Iq.ok (q : Iq) : Prop :=
  q.entries.length ≤ 16 ∧ 2 ≤ q.high ∧ q.high ≤ 16 ∧ q.low < q.high ∧ q.counter < 65536 ∧
    (q.hold = true → q.low < q.entries.length) ∧ (q.hold = false → q.entries.length < q.high)

/-! ### The journey (02) -/

/-- A stop record's fields are in range (02 section 2.2). -/
def Stop.ok (st : Stop) : Prop :=
  1 ≤ st.code ∧ st.code < 65536 ∧ st.post < 65536 ∧ st.area ≤ 7 ∧ st.zone < 256 ∧ st.planned ≤ 2879

/-- A validated route (02 section 2.2, R20 to R22). -/
def Route.ok (r : Route) : Prop :=
  1 ≤ r.service ∧ r.service < 65536 ∧ r.dayStart < 4294967296 ∧ 2 ≤ r.stops.length ∧ r.stops.length ≤ 64 ∧
    (∀ st ∈ r.stops, st.ok) ∧
    r.stops.Pairwise (fun p q => p.code ≠ q.code ∧ p.post ≤ q.post ∧ p.planned ≤ q.planned)

/-- The staging is in order (R20 to R22). -/
def Staging.ok : Staging → Prop
  | .empty => True
  | .filling service count dayStart stops =>
    1 ≤ service ∧ service < 65536 ∧ 2 ≤ count ∧ count ≤ 64 ∧ dayStart < 4294967296 ∧ stops.length ≤ count ∧
      ∀ st ∈ stops, st.ok
  | .armed route => route.ok

/-- The position lies on the route, and the last stop is reached only in CLOSING (R25). -/
def Position.ok (closing : Bool) (stops : Nat) : Position → Prop
  | .atStop k => k < stops ∧ (k + 1 = stops → closing = true)
  | .running k => k + 2 ≤ stops

/-- A running journey is in order (R19, R25). -/
def Running.ok (j : Running) : Prop :=
  j.route.ok ∧ 1 ≤ j.epoch ∧ j.epoch < 65536 ∧ j.position.ok j.closing j.route.stops.length

/-- The clock is in order (R33 to R35). -/
def Clock.ok (c : Clock) : Prop :=
  c.seconds ≤ 4294967295 ∧ c.millis ≤ 999 ∧ -200 ≤ c.trim ∧ c.trim ≤ 200 ∧ -999 ≤ c.trimAcc ∧ c.trimAcc ≤ 999 ∧
    (c.isSet = false → c.seconds = 0 ∧ c.millis = 0 ∧ c.trimAcc = 0)

/-- The Journey Context Unit is in order (R18, R19, R25, R28, R32 to R37). -/
def Jcu.ok (j : Jcu) : Prop :=
  (∀ r, j.journey = some r → r.ok ∧ j.clock.isSet = true ∧ (r.closing = true → j.closeAtArrival = false)) ∧
    (j.journey = none → j.delay = 0 ∧ j.closeAtArrival = false) ∧
    j.number < 65536 ∧ j.staging.ok ∧ -60 ≤ j.delay ∧ j.delay ≤ 720 ∧ 1 ≤ j.carriage ∧ j.carriage ≤ 16 ∧ j.clock.ok

/-! ### Screening and tables (01, 03, 04, 05) -/

/-- The Issuer Key Table is in order (R10). -/
def Dcu.ok (d : Dcu) : Prop :=
  d.keys.length ≤ 32 ∧ d.keys.Pairwise (fun a b => ¬ (a.issuer = b.issuer ∧ a.version = b.version)) ∧
    ∀ e ∈ d.keys, e.issuer < 256 ∧ e.version ≤ 15 ∧ e.material.length = 16

/-- The Revocation Screen is in order (R43, R45, R49). -/
def Rsu.ok (r : Rsu) : Prop :=
  r.active.offset ≤ 3 ∧
    (∀ p, r.pendingImage = some p →
      p.image.offset ≤ 3 ∧ p.received.Pairwise (fun i j => i < j) ∧ ∀ i ∈ p.received, i ≤ 31) ∧
    r.list.length ≤ 64 ∧ r.list.Pairwise (fun a b => a.key ≠ b.key) ∧ ∀ e ∈ r.list, e.reason ≤ 15

/-- A Tariff Area Table entry is in range (R62). -/
def AreaEntry.ok (e : AreaEntry) : Prop :=
  e.rate < 65536 ∧ e.kmin < 256 ∧ e.step ∈ roundingSteps ∧ e.cap ≤ 1000000 ∧ e.surcharge < 65536 ∧
    e.childPercent ≤ 100 ∧ e.toleranceCap ≤ 240

/-- The Verdict Engine's tables are in order: areas in range, M1 100 to 250, and the fixed findings at their policies
(R62, R75, R76, R91). -/
def Ven.tablesOk (v : Ven) : Prop :=
  (∀ i (h : i < 8), v.areas[i].ok) ∧ 100 ≤ v.m1 ∧ v.m1 ≤ 250 ∧
    ∀ f : Finding, f.fixed = true → v.policyOf f = if f = .registerFull then .noted else .blocking

/-- The verdict that waits to be issued is the one its findings give (R9, R77): UNREADABLE has no finding, and any other
is what R77 derives from findings of which none is IGNORED. -/
def Evaluation.verdictOk (ev : Evaluation) : Prop :=
  (ev.verdict = some .unreadable ∧ ev.findings = [] ∧ ev.credential = none) ∨
    (ev.credential.isSome = true ∧ (∀ r ∈ ev.findings, r.policy = some .blocking ∨ r.policy = some .noted) ∧
      ev.verdict = some (if ∃ r ∈ ev.findings, r.policy = some .blocking then .action
        else if ev.findings = [] then .pass else .passNoted))

/-- The evaluation waiting at ISSUE and the parked one have the verdicts their findings give, a parked one has a decoded
credential (R81), and one whose check is in flight has a decoded credential, at most KEY-RETIRING and as yet no quote and
no count (R59, R60). -/
def Ven.verdictsOk (v : Ven) : Prop :=
  (∀ ev, v.engine = .judging ev → ev.verdictOk) ∧
    (∀ p, v.parked = some p → p.ev.verdictOk ∧ p.ev.credential.isSome = true) ∧
    ∀ ev k, v.engine = .checking ev k → ev.credential.isSome = true ∧ (∀ f, ev.has f = true → f = .keyRetiring) ∧
      ev.quote = none ∧ ev.inspCount = 0

/-! ### The register and the cases (06, 07) -/

/-- The Inspection Register is in order (R99, R100, R106). -/
def Irg.ok (g : Irg) : Prop :=
  g.records.length ≤ 1024 ∧ g.records.Pairwise (fun a b => a.key ≠ b.key) ∧ g.passback ≤ 600 ∧
    ∀ r ∈ g.records, 1 ≤ r.count ∧ r.count ≤ 255

/-- The Case Table is in order (R116, R117, R126). -/
def Ctb.ok (c : Ctb) : Prop :=
  c.cases.length + c.closedWaiting.length ≤ 4 ∧
    (c.cases.map (·.serial) ++ c.closedWaiting.map (·.serial)).Nodup ∧
    (∀ d ∈ c.cases, 1 ≤ d.serial ∧ d.serial ≤ 65535) ∧ 1 ≤ c.nextSerial ∧ c.nextSerial ≤ 65535 ∧
    1 ≤ c.timeout ∧ c.timeout ≤ 60

/-- Case links and register links name each other (R115, R116). -/
def linksOk (records : List Record) (cases : List Case) : Prop :=
  (∀ c ∈ cases, c.linked = true → ∃ r ∈ records, r.key = c.key ∧ r.caseLink = some c.serial) ∧
    ∀ r ∈ records, ∀ n, r.caseLink = some n → ∃ c ∈ cases, c.serial = n ∧ c.key = r.key ∧ c.linked = true

/-- The moves R107 allows a record's ride state. -/
def RideState.mayBecome : RideState → RideState → Prop
  | .none, .none | .none, .pending _ | .none, .consumed => True
  | .pending e, .pending e' => e = e'
  | .pending _, .consumed => True
  | .pending e, .torn e' => e = e'
  | .consumed, .consumed => True
  | .torn e, .torn e' => e = e'
  | .torn _, .consumed | .torn _, .pending _ => True
  | _, _ => False

/-! ### The card line (08) -/

/-- The Card Interface Unit is in order (R133 to R135, R139). -/
def Ciu.ok (c : Ciu) : Prop :=
  c.tag < 65536 ∧ c.image.length ≤ 6 ∧
    c.counts.framing ≤ 65535 ∧ c.counts.check ≤ 65535 ∧ c.counts.sequence ≤ 65535 ∧ c.counts.timeout ≤ 65535 ∧
    c.counts.format ≤ 65535 ∧
    (c.state = .absent → c.held = false ∧ c.identifier = none) ∧
    (c.state = .reading ∨ c.state = .queued ∨ c.state = .writing → c.held = true) ∧
    (c.state = .reading → c.image.length ≤ 5) ∧
    (c.state ≠ .absent → c.identifier.isSome = true) ∧
    (c.readTimer.isSome = true → c.state = .reading) ∧
    (c.write.isSome = true ↔ c.state = .writing)

/-- A card write in flight and its owner name each other, and a verdict is parked by a CARD entry only while none is
(R58, R81, R82, R125, R145). -/
def writesOk (c : Ciu) (v : Ven) (t : Ctb) : Prop :=
  ((∃ w, c.write = some w ∧ w.owner = .parkedVerdict) ↔ ∃ p, v.parked = some p ∧ p.completed = false) ∧
    ((∃ w, c.write = some w ∧ w.owner = .resolutionWrite) ↔ t.resolution.isSome = true) ∧
    (∀ ev, (v.engine = .judging ev ∨ ∃ k, v.engine = .checking ev k) → ev.origin.isCard = true → v.parked = none)

/-! ### The journal (10) -/

/-- The Journal is in order (R172, R175, R180, R182). -/
def Jnl.ok (j : Jnl) : Prop :=
  j.records.length ≤ 2048 ∧ j.records.Pairwise (fun a b => a.sequence < b.sequence) ∧
    (∀ r ∈ j.records, 1 ≤ r.sequence ∧ r.sequence ≤ j.lastSequence) ∧ j.lastSequence ≤ 4294967295 ∧
    j.dropCount ≤ 65535 ∧ j.unreported ≤ 65535 ∧
    (j.lowThreshold = 1024 ∨ j.lowThreshold = 512 ∨ j.lowThreshold = 256) ∧ j.quietSetting ≤ 255 ∧
    j.absoluteSetting ≤ 3600

/-! ### The whole block -/

/-- Every unit is in order. -/
def State.ok (s : State) : Prop :=
  s.lif.ok ∧ s.iq.ok ∧ s.jcu.ok ∧ s.dcu.ok ∧ s.rsu.ok ∧ s.ven.tablesOk ∧ s.ven.verdictsOk ∧ s.irg.ok ∧ s.ctb.ok ∧
    linksOk s.irg.records s.ctb.cases ∧ s.ciu.ok ∧ writesOk s.ciu s.ven s.ctb ∧ s.jnl.ok

/-! ### Which commands reach which unit -/

/-- The hard-reset commands, which reach every unit (R170). -/
def hardResets : Instr → Bool
  | .powerOn | .resetNLow | .resetNHigh => true
  | _ => false

/-- The commands that end a card write, by its result, its timer or the card's going (R146). -/
def endsWrites : Instr → Bool
  | .written _ _ | .writeTimerExpiry | .cardDown _ _ | .cardUp _ _ => true
  | _ => false

/-- The commands that close a case (R119). -/
def closesCases : Instr → Bool
  | .caseResolve | .caseDeadlineReached | .clockSet | .closeCompletion => true
  | _ => false

/-- The commands that may change the Intake Queue (R163 to R165, R169). -/
def reachesIntake : Instr → Bool
  | .intakeMarks | .present | .block _ _ | .engineTake | .reset => true
  | c => hardResets c

/-- The commands that may change the Issuer Key Table (R11 to R13). -/
def reachesKeys : Instr → Bool
  | .keyLoad | .keyState | .keyDrop => true
  | c => hardResets c

/-- The commands that may change the journey context (02). -/
def reachesJourney : Instr → Bool
  | .clockSet | .clockTrim | .clockMillisecond | .trimSecond | .journeyOpen | .journeyClose | .closeCompletion
  | .routeBegin | .routeStops | .routeArm | .routeCancel | .stopArrive | .stopDepart | .carriageSet | .delaySet
  | .reset => true
  | c => hardResets c

/-- The commands that may change the Revocation Screen (R46 to R52). -/
def reachesScreen : Instr → Bool
  | .filterBegin | .filterSegment | .filterCommit | .listAdd | .listRemove | .listFlush => true
  | c => hardResets c

/-- The commands that may change the engine, the parked verdict or their tables (R58, R60, R63, R64, R76, R83, R91). -/
def reachesEngine : Instr → Bool
  | .engineTake | .checkComplete | .issue _ | .areaSet | .acceptMap | .classSet | .policySet | .reset => true
  | c => endsWrites c || hardResets c

/-- The commands that may change the Inspection Register (R101 to R115). ENGINE_TAKE is not one: it ends at CHECK or
with an untrusted credential, which never reaches REGISTER (R17). -/
def reachesRegister : Instr → Bool
  | .checkComplete | .issue _ | .passbackSet | .reset => true
  | c => closesCases c || endsWrites c || hardResets c

/-- The commands that may change the Case Table (R118 to R127). -/
def reachesCases : Instr → Bool
  | .issue _ | .caseClosedQueued | .caseQuote | .caseTimeout | .reset => true
  | c => closesCases c || endsWrites c || hardResets c

/-- The commands that may change the Card Interface Unit (08). -/
def reachesCard : Instr → Bool
  | .checkComplete | .issue _ | .caseResolve | .cardOptions | .block _ _ | .readTimerExpiry | .cardCheckError _ _
  | .cardFrameCutShort _ | .cardFramingError | .cardFrameSent | .reset => true
  | c => endsWrites c || hardResets c

/-- The commands that may change the Journal (R175, R178 to R182). -/
def reachesJournal : Instr → Bool
  | .journeyOpen | .stopDepart | .issue _ | .journalRead | .journalRelease | .journalTimers | .quietTimerExpiry
  | .absoluteTimerExpiry | .reset => true
  | c => closesCases c || endsWrites c || hardResets c

/-! ### Words of the statements -/

/-- The findings the rules raise for a trusted credential `c`, presented under the evaluation `ev` on the block `s` as it
stands when its check has matched: KEY-RETIRING from the check (R14), the screening finding (R53), REGISTER-FULL (R103),
and those of JUDGE (R65 to R74, R105), on the record as it was before. -/
def Finding.raisedBy (c : Credential) (ev : Evaluation) (s : State) (f : Finding) : Prop :=
  let rec' := findRecord c.key s.irg.records
  let sn := ev.snapshot
  let entry := s.ven.areaOf (sn.route.stop sn.a).area
  let minute := sn.seconds / 60
  let rides := match ev.origin with
    | .link => c.rides
    | .card counter _ => c.rides.map (fun _ => counter.rides)
  match f with
  | .keyRetiring => ev.has .keyRetiring = true
  | .revoked | .screenHit => screenFinding c.key s.rsu = some f
  | .registerFull => rec' = none ∧ 1024 ≤ s.irg.records.length ∧ ∀ r ∈ s.irg.records, r.ride ≠ .none ∨ r.caseLink ≠ none
  | .areaUnconfigured => entry.configured = false
  | .offRoute => coveredByPaid (rec'.bind (·.paid)) sn.route sn.a = false ∧ Machine.offRoute c.kind sn.route = true
  | .shortCoverage => covered c.kind (rec'.bind (·.paid)) sn.route sn.a = false ∧ Machine.offRoute c.kind sn.route = false
  | .notYetValid => minute < c.validFrom
  | .delayGrace => c.validFrom ≤ minute ∧ c.validUntil < minute ∧ minute ≤ c.validUntil + tolerance sn.delay entry
  | .expired => c.validFrom ≤ minute ∧ c.validUntil + tolerance sn.delay entry < minute
  | .productRefused => entry.configured = true ∧ entry.accepts c.product = false
  | .classMismatch => c.cls = .second ∧ ev.cls = .first ∧ ∀ r, rec' = some r → r.upgrade = false
  | .serviceMismatch => ∃ n, c.service = some n ∧ n ≠ sn.route.service
  | .ridesExhausted => rides = some 0 ∧ ∀ r, rec' = some r → r.ride = .none
  | .repeatElsewhere => ∃ r, rec' = some r ∧ 0 < s.irg.passback ∧ r.lastCarriage ≠ ev.carriage ∧
      (sn.seconds : Int) - (r.lastSeen : Int) ≤ (s.irg.passback : Int)
  | .rideTorn | .checkMismatch | .issuerUnknown | .keyWithdrawn => False

/-- The request of this kind, tag and body stands first in the request buffer, before `rest`, and the conditions of R157
hold. -/
def Ready (kind tag : Byte) (body : List Byte) (rest : List RequestFrame) (s : State) : Prop :=
  s.resetN = true ∧ s.lif.requests = { kind := kind, tag := tag, body := body } :: rest ∧ s.lif.power = .active ∧
    0 < freeSlots s.lif ∧ s.lif.waiting = [] ∧ noneReserved s.lif.outbound

/-- The link after a request has been answered: the frame has left the request buffer and the reply stands last in the
outbound queue (R157). -/
def Lif.answered (kind tag : Byte) (body : List Byte) (rest : List RequestFrame) (l : Lif) : Lif :=
  { l with requests := rest, outbound := l.outbound ++ [.frame (.reply kind tag body)] }

/-- The block after a request has been answered and nothing else has changed. -/
def State.answered (kind tag : Byte) (body : List Byte) (rest : List RequestFrame) (s : State) : State :=
  { s with lif := s.lif.answered kind tag body rest }

/-- The requests whose body has one fixed size: the kind, that size (R186) and the command that takes it. -/
def requestRows : List (Byte × Nat × Instr) :=
  [(0x01, 0, .status), (0x02, 0, .standby), (0x03, 0, .reset), (0x04, 2, .intakeMarks), (0x10, 6, .clockSet),
    (0x11, 2, .clockTrim), (0x12, 1, .journeyOpen), (0x13, 1, .journeyClose), (0x14, 7, .routeBegin),
    (0x16, 0, .routeArm), (0x17, 0, .routeCancel), (0x18, 1, .stopArrive), (0x19, 1, .stopDepart),
    (0x1A, 2, .carriageSet), (0x1B, 2, .delaySet), (0x20, 18, .keyLoad), (0x21, 3, .keyState), (0x22, 2, .keyDrop),
    (0x24, 5, .filterBegin), (0x25, 33, .filterSegment), (0x26, 0, .filterCommit), (0x27, 9, .listAdd),
    (0x28, 7, .listRemove), (0x29, 0, .listFlush), (0x2C, 13, .areaSet), (0x2D, 66, .acceptMap), (0x2E, 1, .classSet),
    (0x2F, 2, .policySet), (0x30, 3, .caseResolve), (0x31, 4, .caseQuote), (0x32, 1, .caseTimeout),
    (0x33, 2, .passbackSet), (0x34, 1, .cardOptions), (0x38, 4, .journalRead), (0x39, 4, .journalRelease),
    (0x3A, 5, .journalTimers)]

/-- The commands that take a request, with the kind each takes: those of `requestRows`, PRESENT and ROUTE-STOPS. -/
def requestKinds : List (Byte × Instr) :=
  requestRows.map (fun r => (r.1, r.2.2)) ++ [(0x08, .present), (0x15, .routeStops)]

/-- Fields laid out one after the other, each given by its width in bytes and its value, most significant byte first
(R185). -/
def laidOut (fields : List (Nat × Nat)) : List Byte :=
  fields.flatMap (fun f => (List.range f.1).map (fun i => BitVec.ofNat 8 (f.2 / 256 ^ (f.1 - 1 - i))))

/-- A flags byte: the value of bit i is 2 to the i for each flag that is set. -/
def flagBits (flags : List Bool) : Nat := flags.foldr (fun b n => 2 * n + if b then 1 else 0) 0

/-- Issuer and serial, zeros when the key is absent. -/
def keyLayout (key : Option CredKey) : List (Nat × Nat) :=
  match key with
  | some k => [(1, k.issuer), (6, k.serial)]
  | none => [(1, 0), (6, 0)]

/-- Quote amount, in the bytes given, and end stop code, zeros when there is no quote. -/
def quoteLayout (width : Nat) (quote : Option (Nat × Nat)) : List (Nat × Nat) :=
  match quote with
  | some q => [(width, q.1), (2, q.2)]
  | none => [(width, 0), (2, 0)]

/-- A notice's kind and the fields of its body (R186, R190, R191). -/
def Notice.layout : Notice → Nat × List (Nat × Nat)
  | .start cause journey clockSet newest =>
    (0x80, [(1, cause.code), (2, journey), (1, if clockSet then 1 else 0), (4, newest)])
  | .wake cause => (0x81, [(1, cause.code)])
  | .linkFault cause header count =>
    (0x82, [(1, cause.code), (1, flagBits [header.isSome])] ++ (match header with
      | some h => [(1, h.1.toNat), (1, h.2.toNat)]
      | none => [(1, 0), (1, 0)]) ++ [(1, count)])
  | .intakeHold count high => (0x83, [(1, count), (1, high)])
  | .intakeResume count low => (0x84, [(1, count), (1, low)])
  | .verdict v =>
    (0x88, [(2, v.intake), (1, if v.fromCard then 2 else 1), (2, v.journey),
        (1, flagBits [v.key.isSome, v.ridesRemaining.isSome, v.quote.isSome, v.caseSerial.isSome])] ++
      keyLayout v.key ++
      [(1, v.verdict.code), (1, v.regStatus.code), (1, v.inspCount), (1, v.rideOutcome.code),
        (1, v.ridesRemaining.getD 0)] ++
      quoteLayout 4 v.quote ++
      [(2, v.caseSerial.getD 0), (1, v.secIndex), (2, v.epoch), (1, v.carriage), (1, v.cls.code),
        (1, v.findings.length)] ++
      v.findings.map (fun f => (1, f.code)))
  | .caseClosed c =>
    (0x89, [(2, c.serial), (2, c.journey), (2, c.intake), (1, flagBits [c.quote.isSome, c.ridesRemaining.isSome]),
        (1, c.key.issuer), (6, c.key.serial), (1, c.outcome.code), (1, c.rideOutcome.code),
        (1, c.ridesRemaining.getD 0)] ++
      quoteLayout 4 c.quote ++ [(2, c.epoch)])
  | .routeApplied epoch service code oldIndex newIndex =>
    (0x8C, [(2, epoch), (2, service), (2, code), (1, oldIndex), (1, newIndex)])
  | .routeDiscarded cause service => (0x8D, [(1, cause.code), (2, service)])
  | .journeyClosed journey cases => (0x8E, [(2, journey), (1, cases)])
  | .cardEvent e =>
    (0x90, [(1, e.event.code), (1, flagBits [e.session.isSome, e.identifier.isSome, e.count.isSome]),
        (2, e.session.getD 0)] ++
      (match e.identifier with
        | some bytes => bytes.map (fun b => (1, b.toNat))
        | none => [(7, 0)]) ++
      [(2, e.count.getD 0), (1, e.state.code)])
  | .journalReady unreported last => (0x94, [(2, unreported), (4, last)])
  | .journalLow free threshold oldest newest => (0x95, [(2, free), (2, threshold), (4, oldest), (4, newest)])
  | .journalFull sequence drops => (0x96, [(4, sequence), (2, drops)])

/-- A journal record's kind and the fields from byte 9 on (R192). -/
def JournalBody.layout : JournalBody → Nat × List (Nat × Nat)
  | .journeyStart journey service dayStart stopCount startCode =>
    (1, [(2, journey), (2, service), (4, dayStart), (1, stopCount), (2, startCode)])
  | .inspection journey fromCard key verdict findings quote caseSerial uncased taken secIndex carriage cls =>
    (2, [(2, journey), (1, flagBits [fromCard, key.isSome, quote.isSome, caseSerial.isSome, uncased]),
        (1, verdict.code * 16 + taken.code)] ++
      keyLayout key ++ [(3, findingsWord findings)] ++ quoteLayout 3 quote ++
      [(2, caseSerial.getD 0), (1, secIndex), (1, carriage * 8 + if cls = .second then 1 else 0)])
  | .caseEnd serial journey key outcome quote taken =>
    (3, [(2, serial), (2, journey), (1, key.issuer), (6, key.serial), (1, outcome.code), (1, taken.code),
      (1, flagBits [quote.isSome])] ++ quoteLayout 3 quote)
  | .ride serial journey key outcome remaining =>
    (4, [(2, serial), (2, journey), (1, key.issuer), (6, key.serial), (1, outcome.code), (1, remaining)])
  | .routeChange journey oldEpoch newEpoch oldService newService code =>
    (5, [(2, journey), (2, oldEpoch), (2, newEpoch), (2, oldService), (2, newService), (2, code)])
  | .journeyEnd journey epoch code cases => (6, [(2, journey), (2, epoch), (2, code), (1, cases)])
  | .partReset journey journeyState => (7, [(2, journey), (1, journeyState)])

/-- The values every unit has after a hard reset, as the chapters give them: R10, R42, R56, R57, R62, R75, R91, R101,
R106, R130, R151, R170 and R184; `chosen` holds the items that the chapters give no value and log 37 does. The outbound
queue is left out: START may have entered it. -/
structure HardValues (t : State) : Prop where
  keys : t.dcu.keys = []
  journey : t.jcu.journey = none ∧ t.jcu.number = 0 ∧ t.jcu.staging = .empty ∧ t.jcu.delay = 0 ∧
    t.jcu.closeAtArrival = false
  carriage : t.jcu.carriage = 1 ∧ t.jcu.cls = .second
  clock : t.jcu.clock.isSet = false ∧ t.jcu.clock.seconds = 0 ∧ t.jcu.clock.millis = 0 ∧ t.jcu.clock.trim = 0 ∧
    t.jcu.clock.trimAcc = 0
  screen : t.rsu.active.generation = 0 ∧ t.rsu.active.offset = 0 ∧ (∀ b, b < 8192 → t.rsu.active.imageBit b = false) ∧
    t.rsu.pendingImage = none ∧ t.rsu.list = []
  engine : t.ven.engine = .idle ∧ t.ven.parked = none ∧ t.ven.m1 = 150
  areas : ∀ i (h : i < 8), ∃ map, (∀ p, p < 4096 → t.ven.areas[i].accepts p = false) ∧ t.ven.areas[i] =
    { configured := false, rate := 0, kmin := 0, step := 1, cap := 0, surcharge := 0, childPercent := 0,
      toleranceCap := 0, accept := map }
  policies : ∀ f : Finding, t.ven.policyOf f =
    if f ∈ [Finding.keyRetiring, .delayGrace, .repeatElsewhere, .rideTorn, .registerFull] then .noted else .blocking
  register : t.irg.records = [] ∧ t.irg.passback = 120
  cases : t.ctb.cases = [] ∧ t.ctb.closedWaiting = [] ∧ t.ctb.nextSerial = 1 ∧ t.ctb.timeout = 10 ∧
    t.ctb.resolution = none
  card : t.ciu.state = .absent ∧ t.ciu.tag = 0 ∧ t.ciu.held = false ∧ t.ciu.identifier = none ∧ t.ciu.image = [] ∧
    t.ciu.readTimer = none ∧ t.ciu.write = none ∧ t.ciu.quiet = false ∧ t.ciu.sending = []
  counts : t.ciu.counts = { framing := 0, check := 0, sequence := 0, timeout := 0, format := 0 }
  journal : t.jnl.records = [] ∧ t.jnl.lastSequence = 0 ∧ t.jnl.dropCount = 0 ∧ t.jnl.lowThreshold = 512 ∧
    t.jnl.lowArmed = true ∧ t.jnl.fullArmed = true ∧ t.jnl.unreported = 0
  timers : t.jnl.quietTimer = none ∧ t.jnl.absoluteTimer = none ∧ t.jnl.quietSetting = 5 ∧ t.jnl.absoluteSetting = 60
  intake : t.iq.entries = [] ∧ t.iq.hold = false ∧ t.iq.high = 12 ∧ t.iq.low = 4 ∧ t.iq.counter = 0
  link : t.lif.receiver = .hunting ∧ t.lif.requests = [] ∧ t.lif.pendingNotices = [] ∧ t.lif.waiting = [] ∧
    t.lif.faultCount = 0 ∧ t.lif.power = .active
  chosen : t.jcu.clock.withhold = false ∧ t.timebase = 0 ∧ t.lif.standbyToSend = 0 ∧ t.ciu.awaitsGap = false

end Sys2Proof.Machine
end

