-- ==== Sys2Proof/Certificates/Slice0/Obligations.lean ====
section
/-! DEFINITION. The statements for the provers, each from the rules its docstring and OBLIGATIONS.json name. A request is
stated as a frame that stands ready (`Ready`), its body written out from its fields by the layouts of R186, and its
reply's bytes likewise. -/

open Sys2Proof Sys2Proof.Machine

/-! ### The whole block -/

/-- One step is the command at the front of the queue; on an empty queue the block idles (the model's choice, log 2). -/
def Obligations.StepRunsFrontCommand : Prop :=
  (∀ (c : Instr) (rest : List Instr) (s : State),
    step { s with pending := c :: rest } = exec c { s with pending := rest }) ∧
  ∀ s : State, s.pending = [] → step s = .next s

/-- The state after a hard reset is in order in every unit. -/
def Obligations.ResetInOrder : Prop := State.reset.ok

/-- POWER_ON and RESET_N leave every unit at its hard-reset values; START with the cause follows when the part starts,
a fall of RESET_N completes the frames being sent and releases the card, and while it is low nothing but a power-on or
its rise changes the part (R151, R170, R171). That the part does nothing else while RESET_N is low, and what the
frames being sent and RELEASE have become by then, is log 12's choice, and so is a rise of RESET_N that is high; the
frame that is being sent is log 9's, the values of `HardValues.chosen` log 37's, and RESET_N
after POWER_ON log 11's. -/
def Obligations.HardResetsStartAfresh : Prop :=
  (∀ s : State, ∃ t, exec .powerOn s = .next t ∧ HardValues t ∧ t.resetN = true ∧
    t.lif.outbound = [.frame (.notice (.start .power 0 false 0))] ∧
    t.hostSent = s.hostSent ∧ t.cardSent = s.cardSent ∧ t.pending = s.pending) ∧
  (∀ s : State, s.resetN = false → ∃ t, exec .resetNHigh s = .next t ∧ HardValues t ∧ t.resetN = true ∧
    t.lif.outbound = [.frame (.notice (.start .line 0 false 0))] ∧
    t.hostSent = s.hostSent ∧ t.cardSent = s.cardSent ∧ t.pending = s.pending) ∧
  (∀ s : State, s.resetN = true → ∃ t, exec .resetNLow s = .next t ∧ HardValues t ∧ t.resetN = false ∧
    t.lif.outbound = [] ∧ t.pending = s.pending ∧
    (∀ f more, s.lif.outbound = .frame f :: more → s.lif.power = .active ∨ 0 < s.lif.standbyToSend →
      t.hostSent = s.hostSent ++ [f.bytes]) ∧
    (s.lif.outbound = [] ∨ (s.lif.power = .standby ∧ s.lif.standbyToSend = 0) → t.hostSent = s.hostSent) ∧
    t.cardSent = s.cardSent ++ (s.ciu.sending.take 1).map CardFrame.bytes ++
      (if s.ciu.state = .absent then [] else [[0x13#8, 0x01#8, 0x04#8, 0xE8#8]])) ∧
  (∀ s : State, s.resetN = true → exec .resetNHigh s = .next s) ∧
  ∀ (c : Instr) (s : State), s.resetN = false → c ≠ .powerOn → c ≠ .resetNHigh → exec c s = .next s

/-- RESET in one step: every unit's soft-reset effects, the PART-RESET record with the journey state as it was, the
reply after the frame being sent, START after the reply, and only then what the append produces (R42, R169, R184).
Which frames count as being sent is the model's reading (logs 9 and 29); that the host-link receiver is kept is log 40's,
which follows R169 and R170 against R154; that the wait of the card-line receiver is kept is log 6's choice, and that a frame
partly received there sets none log 45's. -/
def Obligations.SoftResetKeepsTables : Prop :=
  ∀ (tag : Byte) (rest : List RequestFrame) (s : State), Ready 0x03 tag [] rest s →
    let appended := s.jnl.append (tariffTime s) s.timebase (.partReset s.jcu.number s.jcu.stateCode)
    exec .reset s = .next
      { s with
        lif := appended.2.foldl (fun l n => produceSingleton n l)
          { receiver := s.lif.receiver, requests := rest,
            outbound := s.lif.outbound.take 1 ++
              [.frame (.reply 0x43 tag [0]),
                .frame (.notice (.start .soft s.jcu.number s.jcu.clock.isSet appended.1.lastSequence))],
            pendingNotices := [], waiting := [], faultCount := 0, power := .active, standbyToSend := 0 }
        iq := { s.iq with entries := [], hold := false }
        jcu := { s.jcu with journey := none, staging := .empty, delay := 0, carriage := 1, cls := .second,
                            closeAtArrival := false }
        ven := { s.ven with engine := .idle, parked := none }
        irg := { s.irg with records := [] }
        ctb := { s.ctb with cases := [], closedWaiting := [], resolution := none }
        ciu := { s.ciu with state := .absent, held := false, identifier := none, image := [], readTimer := none,
                            write := none,
                            sending := s.ciu.sending.take 1 ++
                              (if s.ciu.state = .absent then [] else [.release .error]) }
        jnl := appended.1 }

/-! ### Requests in general -/

/-- A request is taken only from the head of the buffer, in ACTIVE, with a free slot and an empty waiting list;
otherwise its command changes nothing (R157). That a command whose conditions do not hold changes nothing is the
model's choice (logs 1 and 3). -/
def Obligations.RequestsWaitTheirTurn : Prop :=
  (∀ (k : Byte) (c : Instr) (s : State), (k, c) ∈ requestKinds →
    s.lif.requests = [] ∨ (∃ f more, s.lif.requests = f :: more ∧ f.kind ≠ k) ∨ s.lif.power = .standby ∨
      freeSlots s.lif = 0 ∨ s.lif.waiting ≠ [] → exec c s = .next s) ∧
  ∀ s : State,
    s.lif.requests = [] ∨ (∃ f more c, s.lif.requests = f :: more ∧ (f.kind, c) ∈ requestKinds) ∨
      s.lif.power = .standby ∨ freeSlots s.lif = 0 ∨ s.lif.waiting ≠ [] → exec .unknownRequest s = .next s

/-- A request whose body has the wrong size is answered BAD-FIELD, and a frame of a kind that is no request kind by a
reply of kind 0x7F with its tag and UNKNOWN; nothing else happens (R158, R186). -/
def Obligations.MalformedRequestsRefused : Prop :=
  (∀ (k tag : Byte) (size : Nat) (c : Instr) (body : List Byte) (rest : List RequestFrame) (s : State),
    (k, size, c) ∈ requestRows → Ready k tag body rest s → body.length ≠ size →
      exec c s = .next (s.answered (k + 0x40) tag [3] rest)) ∧
  (∀ (tag : Byte) (body : List Byte) (rest : List RequestFrame) (s : State), Ready 0x08 tag body rest s →
    body.length = 0 ∨ 80 < body.length → exec .present s = .next (s.answered 0x48 tag [3] rest)) ∧
  (∀ (tag first count : Byte) (stops : List Byte) (rest : List RequestFrame) (s : State),
    Ready 0x15 tag (first :: count :: stops) rest s → stops.length ≠ 8 * count.toNat →
      exec .routeStops s = .next (s.answered 0x55 tag [3] rest)) ∧
  (∀ (tag : Byte) (body : List Byte) (rest : List RequestFrame) (s : State), Ready 0x15 tag body rest s →
    body.length < 2 → exec .routeStops s = .next (s.answered 0x55 tag [3] rest)) ∧
  ∀ (k tag : Byte) (body : List Byte) (rest : List RequestFrame) (s : State), Ready k tag body rest s →
    (∀ c, (k, c) ∉ requestKinds) → exec .unknownRequest s = .next (s.answered 0x7F tag [6] rest)

/-- Every ready request leaves the buffer, and is answered in the next slot after what was queued: with a refusal, and
then nothing but the link has changed and no notice follows, or with OK (R157, R158). RESET, which empties the queue, is
stated by itself. -/
def Obligations.RefusalsChangeNothing : Prop :=
  ∀ (k tag : Byte) (c : Instr) (body : List Byte) (rest : List RequestFrame) (s : State), (k, c) ∈ requestKinds →
    k ≠ 0x03 → Ready k tag body rest s → ∃ t, exec c s = .next t ∧ t.lif.requests = rest ∧
      ((∃ status more, status ≠ 0 ∧ t = s.answered (k + 0x40) tag (status :: more) rest) ∨
        ∃ fields notices, t.lif.outbound = s.lif.outbound ++ (.frame (.reply (k + 0x40) tag (0 :: fields)) :: notices) ∧
          ∀ n ∈ notices, ∃ m, n = .frame (.notice m))

/-! ### The link (09) -/

/-- A good frame ends the hunt, wakes a part in STANDBY, and joins the request buffer, behind the frames that wait there;
MARKER_WAKE is the wake that the marker alone brings (R154, R156, R168). A WAKE enters at once where a slot is free.
That HOST_FRAME_RECEIVED brings its marker with it is log 4's, a frame that was in progress when STANDBY was taken, and
wakes nothing, log 41's. -/
def Obligations.GoodFrameIsBuffered : Prop :=
  (∀ (kind tag : Byte) (body : List Byte) (s : State), s.resetN = true → body.length ≤ 240 →
    s.lif.requests.length < 4 → s.lif.power = .active ∨ s.lif.receiver = .inFrame →
      exec (.hostFrameReceived kind tag body (crc16 (kind :: tag :: u16 body.length ++ body))) s = .next
        { s with lif := { s.lif with receiver := .hunting,
                                     requests := s.lif.requests ++ [{ kind := kind, tag := tag, body := body }] } }) ∧
  (∀ (kind tag : Byte) (body : List Byte) (s : State), s.resetN = true → body.length ≤ 240 →
    s.lif.requests.length < 4 → s.lif.power = .standby → s.lif.receiver = .hunting → 0 < freeSlots s.lif →
      exec (.hostFrameReceived kind tag body (crc16 (kind :: tag :: u16 body.length ++ body))) s = .next
        { s with lif := { s.lif with requests := s.lif.requests ++ [{ kind := kind, tag := tag, body := body }],
                                     power := .active, standbyToSend := 0,
                                     outbound := s.lif.outbound ++ [.frame (.notice (.wake .link))] } }) ∧
  (∀ (kind tag : Byte) (body : List Byte) (s : State), s.resetN = true → body.length ≤ 240 →
    s.lif.requests.length < 4 → s.lif.power = .standby → s.lif.receiver = .hunting → freeSlots s.lif = 0 →
      exec (.hostFrameReceived kind tag body (crc16 (kind :: tag :: u16 body.length ++ body))) s = .next
        { s with lif := { s.lif with requests := s.lif.requests ++ [{ kind := kind, tag := tag, body := body }],
                                     power := .active, standbyToSend := 0,
                                     waiting := s.lif.waiting ++ [.wake .link] } }) ∧
  (∀ s : State, s.resetN = true → s.lif.receiver = .hunting → s.lif.power = .standby → 0 < freeSlots s.lif →
    exec .markerWake s = .next
      { s with lif := { s.lif with receiver := .inFrame, power := .active, standbyToSend := 0,
                                   outbound := s.lif.outbound ++ [.frame (.notice (.wake .link))] } }) ∧
  (∀ s : State, s.resetN = true → s.lif.receiver = .hunting → s.lif.power = .standby → freeSlots s.lif = 0 →
    exec .markerWake s = .next
      { s with lif := { s.lif with receiver := .inFrame, power := .active, standbyToSend := 0,
                                   waiting := s.lif.waiting ++ [.wake .link] } }) ∧
  (∀ s : State, s.resetN = true → s.lif.receiver = .hunting → s.lif.power = .active →
    exec .markerWake s = .next { s with lif := { s.lif with receiver := .inFrame } }) ∧
  ∀ s : State, s.lif.receiver = .inFrame → exec .markerWake s = .next s

/-- The cause and the header that LINK-FAULT reports for a fault on the line, with the command that is that fault; in a
part asleep the marker of that frame has brought a wake first (R155, R156, R168). That a body above 240 bytes is a
LENGTH fault is log 5's, that the command brings its frame's marker log 4's, and a frame that was in progress when STANDBY
was taken, and wakes nothing, log 41's. -/
def Obligations.LineFaultsReported : Prop :=
  ∀ (kind tag : Byte) (body : List Byte) (crc : BitVec 16) (header : Option (Byte × Byte)) (s : State),
    s.resetN = true → s.lif.faultCount ≤ 255 →
    let count := min 255 (s.lif.faultCount + 1)
    let woken := if s.lif.power = .standby ∧ s.lif.receiver = .hunting then
        produceWaiting (.wake .link) { s.lif with power := .active, standbyToSend := 0 }
      else s.lif
    let reported := fun (cause : LinkFaultCause) (header : Option (Byte × Byte)) =>
      { s with lif := produceSingleton (.linkFault cause header count)
                { woken with receiver := .hunting, faultCount := count } }
    exec (.lengthFault kind tag) s = .next (reported .length (some (kind, tag))) ∧
    exec (.hostStopBitFault header) s = .next (reported .crc header) ∧
    exec (.gapFault header) s = .next (reported .gap header) ∧
    (body.length ≤ 240 → crc ≠ crc16 (kind :: tag :: u16 body.length ++ body) →
      exec (.hostFrameReceived kind tag body crc) s = .next (reported .crc (some (kind, tag)))) ∧
    (body.length ≤ 240 → crc = crc16 (kind :: tag :: u16 body.length ++ body) → s.lif.requests.length = 4 →
      exec (.hostFrameReceived kind tag body crc) s = .next (reported .overrun (some (kind, tag)))) ∧
    (240 < body.length →
      exec (.hostFrameReceived kind tag body crc) s = .next (reported .length (some (kind, tag))))

/-- A singleton notice that finds a free slot enters the outbound queue, and a LINK-FAULT that enters returns the fault
count to 0; one that finds none becomes the pending content of its kind, replacing the earlier content, and INTAKE-HOLD
and INTAKE-RESUME cancel each other (R155, R161). A WAKE, ROUTE-APPLIED or ROUTE-DISCARDED enters when a slot is free and
joins the waiting list otherwise (R160). -/
def Obligations.SingletonsEnterOrReplace : Prop :=
  (∀ (n : Notice) (l : Lif), n.code ∈ [0x82, 0x83, 0x84, 0x90, 0x94, 0x95, 0x96] → pendingOk l.pendingNotices →
    (0 < freeSlots l → (produceSingleton n l).outbound = l.outbound ++ [.frame (.notice n)] ∧
      (produceSingleton n l).pendingNotices = l.pendingNotices ∧
      (produceSingleton n l).faultCount = if n.code = 0x82 then 0 else l.faultCount) ∧
    (freeSlots l = 0 →
      (produceSingleton n l).outbound = l.outbound ∧ pendingOk (produceSingleton n l).pendingNotices ∧
      (produceSingleton n l).faultCount = l.faultCount ∧
      ∀ m, m ∈ (produceSingleton n l).pendingNotices ↔
        m = n ∨ (m ∈ l.pendingNotices ∧ m.code ≠ n.code ∧ ¬ (n.code = 0x83 ∧ m.code = 0x84) ∧
          ¬ (n.code = 0x84 ∧ m.code = 0x83))) ∧
    (produceSingleton n l).requests = l.requests ∧ (produceSingleton n l).receiver = l.receiver ∧
    (produceSingleton n l).waiting = l.waiting ∧ (produceSingleton n l).power = l.power ∧
    (produceSingleton n l).standbyToSend = l.standbyToSend) ∧
  ∀ (n : Notice) (l : Lif), n.code ∈ [0x81, 0x8C, 0x8D] →
    (0 < freeSlots l → produceWaiting n l = { l with outbound := l.outbound ++ [.frame (.notice n)] }) ∧
    (freeSlots l = 0 → produceWaiting n l = { l with waiting := l.waiting ++ [n] })

/-- The outbound queue's own steps: the head frame is sent, in ACTIVE or until the STANDBY reply has gone, and its
slot becomes empty; an empty slot goes to the oldest waiting notice, and with none waiting to the pending notice of
the lowest kind code (R159 to R161, R167). While a notice waits or pends no slot counts as free (log 8). That a
command with nothing to move changes nothing is log 1's choice, the frame that is being sent log 9's, and that a pending
notice may enter in STANDBY log 46's. And the bytes a frame is sent as: the marker, the kind, the tag, the length, the body
and the CRC of these; every notice by its kind and the layout of its body, the VERDICT in 32 bytes and one for each finding;
the widths of the fields and the codes of the enumerations (R75, R153, R158, R185, R186, R190, R191). -/
def Obligations.OutboundQueueMoves : Prop :=
  (∀ (f : OutFrame) (more : List Slot) (s : State), s.resetN = true → s.lif.outbound = .frame f :: more →
    s.lif.power = .active ∨ 0 < s.lif.standbyToSend →
      exec .frameSent s = .next
        { s with lif := { s.lif with outbound := more, standbyToSend := s.lif.standbyToSend - 1 },
                 hostSent := s.hostSent ++ [f.bytes] }) ∧
  (∀ s : State, s.lif.outbound = [] ∨ (s.lif.power = .standby ∧ s.lif.standbyToSend = 0) →
    exec .frameSent s = .next s) ∧
  (∀ (n : Notice) (more : List Notice) (s : State), s.resetN = true → s.lif.waiting = n :: more →
    n.joinsWaiting = true → s.lif.outbound.length < 24 →
      exec .waitingNoticeEnter s = .next
        { s with lif := { s.lif with waiting := more, outbound := s.lif.outbound ++ [.frame (.notice n)] } }) ∧
  (∀ (n : Notice) (more : List Notice) (s : State), s.resetN = true → s.lif.waiting = [] →
    s.lif.pendingNotices = n :: more → s.lif.outbound.length < 24 →
      exec .pendingNoticeEnter s = .next
        { s with lif := { s.lif with pendingNotices := more, outbound := s.lif.outbound ++ [.frame (.notice n)],
                                     faultCount := if n.code = 0x82 then 0 else s.lif.faultCount } }) ∧
  (∀ s : State, s.lif.waiting = [] → exec .waitingNoticeEnter s = .next s) ∧
  (∀ s : State, s.lif.waiting ≠ [] ∨ s.lif.pendingNotices = [] → exec .pendingNoticeEnter s = .next s) ∧
  (∀ s : State, 24 ≤ s.lif.outbound.length →
    exec .waitingNoticeEnter s = .next s ∧ exec .pendingNoticeEnter s = .next s) ∧
  (∀ l : Lif, freeSlots l = if l.waiting = [] ∧ l.pendingNotices = [] then 24 - l.outbound.length else 0) ∧
  (∀ (kind tag : Byte) (body : List Byte),
    let covered := kind :: tag :: (laidOut [(2, body.length)] ++ body)
    (OutFrame.reply kind tag body).bytes = 0xA5#8 :: (covered ++ laidOut [(2, (crc16 covered).toNat)])) ∧
  (∀ bytes : List Byte, crc16 bytes = (bytes.flatMap (fun b => (List.range 8).map b.getMsbD)).foldl
    (fun (c : BitVec 16) (b : Bool) => if c.msb = b then c <<< 1 else (c <<< 1) ^^^ 0x1021#16) 0xFFFF#16) ∧
  (∀ n : Notice, (OutFrame.notice n).bytes =
    (OutFrame.reply (BitVec.ofNat 8 n.layout.1) 0 (laidOut n.layout.2)).bytes) ∧
  (∀ v : VerdictReport, (Notice.verdict v).body.length = 32 + v.findings.length) ∧
  [Verdict.pass, .passNoted, .action, .unreadable].map Verdict.code = [1, 2, 3, 4] ∧
  [RegStatus.none, .new, .seen, .full].map RegStatus.code = [0, 1, 2, 3] ∧
  [RideOutcome.none, .written, .torn, .takenToken, .notWritten, .alreadyTaken, .writeStarted].map RideOutcome.code =
    [0, 1, 2, 3, 4, 5, 6] ∧
  [CaseOutcome.accepted, .refused, .charged, .timedOut, .journeyEnded].map CaseOutcome.code = [1, 2, 3, 4, 5] ∧
  [CardEventKind.busy, .removedEarly, .framing, .check, .sequence, .timeout, .format].map CardEventKind.code =
    [1, 2, 3, 4, 5, 6, 7] ∧
  [CardState.absent, .reading, .queued, .writing, .settled].map CardState.code = [0, 1, 2, 3, 4] ∧
  [LinkFaultCause.length, .crc, .gap, .overrun].map LinkFaultCause.code = [1, 2, 3, 4] ∧
  [StartCause.power, .line, .soft].map StartCause.code = [1, 2, 3] ∧
  [WakeCause.link, .card].map WakeCause.code = [1, 2] ∧
  [DiscardCause.stopAbsent, .atEnd, .closing].map DiscardCause.code = [1, 2, 3] ∧
  [TravelClass.first, .second].map TravelClass.code = [1, 2] ∧
  [Finding.checkMismatch, .issuerUnknown, .keyWithdrawn, .keyRetiring, .revoked, .screenHit, .notYetValid, .expired,
    .delayGrace, .offRoute, .shortCoverage, .classMismatch, .productRefused, .ridesExhausted, .serviceMismatch,
    .repeatElsewhere, .rideTorn, .areaUnconfigured, .registerFull].map Finding.code =
      [1, 2, 3, 4, 5, 6, 7, 8, 9, 10, 11, 12, 13, 14, 15, 16, 17, 18, 19] ∧
  [KeyState.active, .retiring, .withdrawn].map KeyState.code = [1, 2, 3] ∧
  [ListAction.revoke, .clear].map ListAction.code = [1, 2] ∧
  [Policy.blocking, .noted, .ignored].map Policy.code = [1, 2, 3] ∧ [Power.active, .standby].map Power.code = [1, 2] ∧
  (∀ n, (∀ k, KeyState.ofCode? n = some k ↔ k.code = n) ∧ (∀ a, ListAction.ofCode? n = some a ↔ a.code = n) ∧
    (∀ p, Policy.ofCode? n = some p ↔ p.code = n) ∧ (∀ c, TravelClass.ofCode? n = some c ↔ c.code = n) ∧
    ∀ f, Finding.ofCode? n = some f ↔ f.code = n) ∧
  (∀ ev check, [Engine.idle, .judging ev, .checking ev check].map Engine.code = [0, 1, 2]) ∧
  (∀ service count dayStart stops route,
    [Staging.empty, .filling service count dayStart stops, .armed route].map Staging.code = [0, 1, 2]) ∧
  (∀ (j : Jcu) (r : Running), (j.journey = none → j.stateCode = 0) ∧
    (j.journey = some r → j.stateCode = if r.closing = true then 2 else 1)) ∧
  (∀ n, u8 n = laidOut [(1, n)] ∧ u16 n = laidOut [(2, n)] ∧ u32 n = laidOut [(4, n)] ∧ u48 n = laidOut [(6, n)]) ∧
  (∀ (front back : List Byte) (width n : Nat), n < 256 ^ width →
    fieldAt (front ++ (laidOut [(width, n)] ++ back)) front.length width = n) ∧
  ∀ z : Int, -32768 ≤ z → z < 32768 → signed16 (fieldAt (i16 z) 0 2) = z ∧ (i16 z).length = 2

/-- STATUS answers the 75 bytes of R193, each field at its offset, and changes nothing but the link. -/
def Obligations.StatusReportsTheState : Prop :=
  ∀ (tag : Byte) (rest : List RequestFrame) (s : State), Ready 0x01 tag [] rest s →
    ∃ reply, exec .status s = .next (s.answered 0x41 tag reply rest) ∧ reply.length = 75 ∧
      fieldAt reply 0 1 = 0 ∧ fieldAt reply 1 1 = 1 ∧ fieldAt reply 2 1 = s.jcu.stateCode ∧
      fieldAt reply 3 2 = s.jcu.number % 65536 ∧
      (∀ j, s.jcu.journey = some j →
        (∀ k, j.position = .atStop k → fieldAt reply 5 1 = 1 ∧ fieldAt reply 6 1 = k % 256) ∧
        (∀ k, j.position = .running k → fieldAt reply 5 1 = 2 ∧ fieldAt reply 6 1 = k % 256) ∧
        fieldAt reply 7 2 = j.epoch % 65536 ∧ fieldAt reply 9 2 = j.route.service % 65536) ∧
      (s.jcu.journey = none → fieldAt reply 5 2 = 0 ∧ fieldAt reply 7 2 = 0 ∧ fieldAt reply 9 2 = 0) ∧
      fieldAt reply 11 1 = s.jcu.staging.code ∧ fieldAt reply 12 1 = (match s.jcu.staging with
        | .empty => 0
        | .filling _ _ _ stops => stops.length % 256
        | .armed r => r.stops.length % 256) ∧
      (fieldAt reply 13 1).testBit 0 = s.jcu.clock.isSet ∧ (fieldAt reply 13 1).testBit 1 = s.jcu.closeAtArrival ∧
      (fieldAt reply 13 1).testBit 2 = s.iq.hold ∧ (fieldAt reply 13 1).testBit 3 = s.ven.parked.isSome ∧
      (fieldAt reply 13 1).testBit 4 = s.rsu.pendingImage.isSome ∧ (fieldAt reply 13 1).testBit 5 = s.ciu.quiet ∧
      (fieldAt reply 13 1).testBit 6 = s.ciu.held ∧ (fieldAt reply 13 1).testBit 7 = false ∧
      fieldAt reply 14 4 = s.jcu.clock.seconds % 4294967296 ∧ fieldAt reply 18 2 = s.jcu.clock.millis % 65536 ∧
      (-60 ≤ s.jcu.delay → s.jcu.delay ≤ 720 → signed16 (fieldAt reply 20 2) = s.jcu.delay) ∧
      fieldAt reply 22 1 = s.jcu.carriage % 256 ∧ fieldAt reply 23 1 = s.jcu.cls.code ∧
      fieldAt reply 24 1 = s.iq.entries.length % 256 ∧ fieldAt reply 25 1 = s.iq.high % 256 ∧
      fieldAt reply 26 1 = s.iq.low % 256 ∧ fieldAt reply 27 2 = s.iq.counter % 65536 ∧
      (s.iq.entries = [] → fieldAt reply 29 1 = 0 ∧ fieldAt reply 30 4 = 0) ∧
      (∀ e more, s.iq.entries = e :: more →
        fieldAt reply 29 1 = (if e.origin = .link then 1 else 2) ∧ fieldAt reply 30 4 = e.arrival % 4294967296) ∧
      fieldAt reply 34 1 = s.ven.engine.code ∧ fieldAt reply 35 1 = s.ctb.cases.length % 256 ∧
      fieldAt reply 36 1 = (s.ctb.cases.length + s.ctb.closedWaiting.length) % 256 ∧
      fieldAt reply 37 2 = s.irg.records.length % 65536 ∧
      (s.jnl.records = [] → fieldAt reply 39 4 = 0 ∧ fieldAt reply 43 4 = 0) ∧
      (∀ first more, s.jnl.records = first :: more → fieldAt reply 39 4 = first.sequence % 4294967296) ∧
      (∀ before last, s.jnl.records = before ++ [last] → fieldAt reply 43 4 = last.sequence % 4294967296) ∧
      fieldAt reply 47 2 = (2048 - s.jnl.records.length) % 65536 ∧ fieldAt reply 49 2 = s.jnl.dropCount % 65536 ∧
      fieldAt reply 51 4 = s.rsu.active.generation % 4294967296 ∧ fieldAt reply 55 1 = s.rsu.active.offset % 256 ∧
      (s.rsu.pendingImage = none → fieldAt reply 56 1 = 0 ∧ fieldAt reply 57 4 = 0) ∧
      (∀ p, s.rsu.pendingImage = some p → fieldAt reply 56 1 = p.received.length % 256 ∧
        fieldAt reply 57 4 = p.image.generation % 4294967296) ∧
      fieldAt reply 61 1 = s.rsu.list.length % 256 ∧ fieldAt reply 62 1 = s.ciu.state.code ∧
      fieldAt reply 63 2 = (if s.ciu.held then s.ciu.tag % 65536 else 0) ∧
      fieldAt reply 65 2 = s.ciu.counts.framing % 65536 ∧ fieldAt reply 67 2 = s.ciu.counts.check % 65536 ∧
      fieldAt reply 69 2 = s.ciu.counts.sequence % 65536 ∧ fieldAt reply 71 2 = s.ciu.counts.timeout % 65536 ∧
      fieldAt reply 73 2 = s.ciu.counts.format % 65536

/-- STANDBY is taken with the Intake Queue empty, the engine IDLE, no verdict parked and the CIU ABSENT, and BUSY
otherwise; when it is taken, the frames queued before it and the reply are still to be sent (R167). The count of
frames still to be sent is the model's own field (log 9), and that a receiver in a frame stays in it is log 41's choice. -/
def Obligations.StandbyNeedsQuiet : Prop :=
  ∀ (tag : Byte) (rest : List RequestFrame) (s : State), Ready 0x02 tag [] rest s →
    (s.iq.entries = [] → s.ven.engine = .idle → s.ven.parked = none → s.ciu.state = .absent →
      exec .standby s = .next
        (({ s with lif := { s.lif with power := .standby, standbyToSend := s.lif.outbound.length + 1 } } : State).answered
          0x42 tag [0] rest)) ∧
    (s.iq.entries ≠ [] ∨ s.ven.engine ≠ .idle ∨ s.ven.parked ≠ none ∨ s.ciu.state ≠ .absent →
      exec .standby s = .next (s.answered 0x42 tag [1] rest))

/-- INTAKE-MARKS clamps the high mark, refuses marks that do not fit, stores the others, and applies them at once: HOLD
is entered or left, its notice after the reply (R164). -/
def Obligations.IntakeMarksApplyAtOnce : Prop :=
  ∀ (tag : Byte) (rest : List RequestFrame) (high low : Nat) (s : State), high < 256 → low < 256 →
    Ready 0x04 tag (u8 high ++ u8 low) rest s →
    let high' := min 16 high
    let count := s.iq.entries.length
    (high' < 2 ∨ high' ≤ low → exec .intakeMarks s = .next (s.answered 0x44 tag [3] rest)) ∧
    (2 ≤ high' → low < high' → (s.iq.hold = false → count < high') → (s.iq.hold = true → low < count) →
      exec .intakeMarks s = .next
        (({ s with iq := { s.iq with high := high', low := low } } : State).answered 0x44 tag
          (0 :: (u8 high' ++ u8 low ++ u8 (if s.iq.hold then 1 else 0))) rest)) ∧
    (2 ≤ high' → low < high' → s.iq.hold = false → high' ≤ count →
      exec .intakeMarks s = .next
        { s with
          iq := { s.iq with high := high', low := low, hold := true }
          lif := produceSingleton (.intakeHold count high')
            (s.lif.answered 0x44 tag (0 :: (u8 high' ++ u8 low ++ u8 1)) rest) }) ∧
    (2 ≤ high' → low < high' → s.iq.hold = true → count ≤ low →
      exec .intakeMarks s = .next
        { s with
          iq := { s.iq with high := high', low := low, hold := false }
          lif := produceSingleton (.intakeResume count low)
            (s.lif.answered 0x44 tag (0 :: (u8 high' ++ u8 low ++ u8 0)) rest) })

/-- PRESENT adds a LINK entry with the next intake number, the carriage, class and time of this instant, and HOLD is
entered at the high mark; outside OPEN it is WRONG-STATE, and at 16 entries FULL (R163, R165). -/
def Obligations.PresentQueuesTheContent : Prop :=
  ∀ (tag : Byte) (body : List Byte) (rest : List RequestFrame) (s : State), 1 ≤ body.length → body.length ≤ 80 →
    Ready 0x08 tag body rest s →
    let number := (s.iq.counter + 1) % 65536
    let entry : Entry := { intake := number, origin := .link, content := body, carriage := s.jcu.carriage,
                           cls := s.jcu.cls, arrival := s.jcu.clock.seconds }
    let count := s.iq.entries.length + 1
    ((∀ j, s.jcu.journey = some j → j.closing = true) → exec .present s = .next (s.answered 0x48 tag [2] rest)) ∧
    (∀ j, s.jcu.journey = some j → j.closing = false →
      (16 ≤ s.iq.entries.length → exec .present s = .next (s.answered 0x48 tag [4] rest)) ∧
      (s.iq.entries.length < 16 → s.iq.hold = true ∨ count < s.iq.high →
        exec .present s = .next
          (({ s with iq := { s.iq with entries := s.iq.entries ++ [entry], counter := number } } : State).answered
            0x48 tag (0 :: (u16 number ++ u8 count ++ u8 (if s.iq.hold then 1 else 0))) rest)) ∧
      (s.iq.entries.length < 16 → s.iq.hold = false → s.iq.high ≤ count →
        exec .present s = .next
          { s with
            iq := { s.iq with entries := s.iq.entries ++ [entry], counter := number, hold := true }
            lif := produceSingleton (.intakeHold count s.iq.high)
              (s.lif.answered 0x48 tag (0 :: (u16 number ++ u8 count ++ u8 1)) rest) }))

/-! ### The journey (02) -/

/-- CLOCK-SET: refused above 999 milliseconds, and inside a journey for a step of more than 120.000 seconds either way;
otherwise the clock takes the new value, the accumulator is cleared, the reply carries the value replaced, and every case
whose deadline the new value reaches, and no other, times out after the reply, in the order the cases opened. CLOCK-TRIM
stores the trim held to -200 to 200, and the accumulator stays (R35, R36, R127). That CLOCK-SET leaves an advance that was
to be withheld is log 14's, that it closes the cases in its own step log 19's, the ride count they report log 28's. -/
def Obligations.ClockIsSetAndTrimmed : Prop :=
  (∀ (tag : Byte) (rest : List RequestFrame) (seconds millis : Nat) (s : State), seconds < 4294967296 → millis < 65536 →
    Ready 0x10 tag (u32 seconds ++ u16 millis) rest s →
    let c := s.jcu.clock
    let step : Int := (seconds * 1000 + millis : Int) - (c.seconds * 1000 + c.millis : Int)
    (999 < millis ∨ (s.jcu.journey.isSome = true ∧ (120000 < step ∨ step < -120000)) →
      exec .clockSet s = .next (s.answered 0x50 tag [3] rest)) ∧
    (millis ≤ 999 → s.jcu.journey = none ∨ (-120000 ≤ step ∧ step ≤ 120000) →
      exec .clockSet s = .next
        ((s.ctb.cases.filter (fun d => d.deadline ≤ seconds)).foldl (fun u d => closeCase .timedOut .none d.rides d u)
          (({ s with jcu := { s.jcu with clock := { c with isSet := true, seconds := seconds, millis := millis,
                                                           trimAcc := 0 } } } : State).answered
            0x50 tag (0 :: (u32 c.seconds ++ u16 c.millis)) rest)))) ∧
  ∀ (tag : Byte) (rest : List RequestFrame) (trim : Int) (s : State), -32768 ≤ trim → trim ≤ 32767 →
    Ready 0x11 tag (i16 trim) rest s →
    let stored := if trim < -200 then -200 else if 200 < trim then 200 else trim
    exec .clockTrim s = .next
      (({ s with jcu := { s.jcu with clock := { s.jcu.clock with trim := stored } } } : State).answered
        0x51 tag (0 :: i16 stored) rest)

/-- A nominal millisecond moves a set clock on by one, carrying into the seconds and stopping at the largest value,
unless it was withheld; a nominal second adds the trim and gains or withholds one millisecond (R33, R34). The count of
milliseconds and the flag of a withheld advance are the model's (logs 13 and 14). -/
def Obligations.ClockRunsWithTrim : Prop :=
  ∀ s : State, s.resetN = true →
    let c := s.jcu.clock
    let acc := c.trimAcc + c.trim
    let advanced : Clock := if c.millis < 999 then { c with millis := c.millis + 1 }
      else if c.seconds < 4294967295 then { c with millis := 0, seconds := c.seconds + 1 } else c
    (c.isSet = false → exec .clockMillisecond s = .next { s with timebase := s.timebase + 1 } ∧
      exec .trimSecond s = .next s) ∧
    (c.isSet = true → c.withhold = false → exec .clockMillisecond s = .next
      { s with timebase := s.timebase + 1, jcu := { s.jcu with clock := advanced } }) ∧
    (c.isSet = true → c.withhold = true → exec .clockMillisecond s = .next
      { s with timebase := s.timebase + 1, jcu := { s.jcu with clock := { c with withhold := false } } }) ∧
    (c.isSet = true → -1000 < acc → acc < 1000 → exec .trimSecond s = .next
      { s with jcu := { s.jcu with clock := { c with trimAcc := acc } } }) ∧
    (c.isSet = true → 1000 ≤ acc → exec .trimSecond s = .next
      { s with jcu := { s.jcu with clock := { advanced with trimAcc := acc - 1000 } } }) ∧
    (c.isSet = true → acc ≤ -1000 → exec .trimSecond s = .next
      { s with jcu := { s.jcu with clock := { c with trimAcc := acc + 1000, withhold := true } } })

/-- JOURNEY-OPEN: its refusals in their order, and the journey it starts on the staged route, with its JOURNEY-START
record and the journal's notices after the reply. JOURNEY-CLOSE: NOW enters CLOSING at once, discarding an armed staged
route with its notice after the reply; AT-ARRIVAL sets the flag; the refusals change nothing (R24, R37, R38). -/
def Obligations.JourneysOpenAndClose : Prop :=
  (∀ (tag : Byte) (rest : List RequestFrame) (start : Nat) (s : State), start < 256 → Ready 0x12 tag (u8 start) rest s →
    (s.jcu.journey.isSome = true ∨ s.jcu.clock.isSet = false ∨ (∀ r, s.jcu.staging ≠ .armed r) →
      exec .journeyOpen s = .next (s.answered 0x52 tag [2] rest)) ∧
    (∀ r, s.jcu.journey = none → s.jcu.clock.isSet = true → s.jcu.staging = .armed r →
      (r.stops.length < start + 2 → exec .journeyOpen s = .next (s.answered 0x52 tag [3] rest)) ∧
      (start + 2 ≤ r.stops.length →
        let number := (s.jcu.number + 1) % 65536
        exec .journeyOpen s = .next
          (journal (.journeyStart number r.service r.dayStart r.stops.length (r.stop start).code)
            (({ s with jcu := { s.jcu with journey := some { closing := false, route := r, epoch := 1,
                                                             position := .atStop start },
                                           number := number, staging := .empty, delay := 0, carriage := 1,
                                           cls := .second, closeAtArrival := false } } : State).answered
              0x52 tag (0 :: u16 number) rest))))) ∧
  ∀ (tag : Byte) (rest : List RequestFrame) (mode : Nat) (s : State), mode < 256 → Ready 0x13 tag (u8 mode) rest s →
    ((∀ j, s.jcu.journey = some j → j.closing = true) →
      exec .journeyClose s = .next (s.answered 0x53 tag [2] rest)) ∧
    (∀ j, s.jcu.journey = some j → j.closing = false →
      (mode ≠ 1 → mode ≠ 2 → exec .journeyClose s = .next (s.answered 0x53 tag [3] rest)) ∧
      (mode = 2 → exec .journeyClose s = .next
        (({ s with jcu := { s.jcu with closeAtArrival := true } } : State).answered 0x53 tag [0] rest)) ∧
      (mode = 1 → (∀ r, s.jcu.staging ≠ .armed r) → exec .journeyClose s = .next
        (({ s with jcu := { s.jcu with journey := some { j with closing := true }, closeAtArrival := false } } :
          State).answered 0x53 tag [0] rest)) ∧
      (mode = 1 → ∀ r, s.jcu.staging = .armed r → exec .journeyClose s = .next
        { s with
          jcu := { s.jcu with journey := some { j with closing := true }, closeAtArrival := false, staging := .empty }
          lif := produceWaiting (.routeDiscarded .closing r.service) (s.lif.answered 0x53 tag [0] rest) }))

/-- The conditions of close completion, one by one (R40): when one of them fails nothing happens; when all hold the
journey ends, every case closes with its CASE-CLOSED before JOURNEY-CLOSED and its CASE-END before JOURNEY-END, the
register is cleared, and what the journal has to say comes last: the last notice of each of its kinds, in kind order, enters
while a slot is free and pends otherwise. That the journal's notices come last, in that order, is log 33's reading, that an
early command changes nothing log 1's choice; the stop code of JOURNEY-END between two stops is log 23's, the ride count of
CASE-CLOSED log 28's. -/
def Obligations.CloseCompletes : Prop :=
  ∀ (j : Running) (s : State), s.resetN = true → s.jcu.journey = some j →
    (j.closing = false ∨ s.iq.entries ≠ [] ∨ s.ven.engine ≠ .idle ∨ s.ciu.state = .writing ∨ s.ven.parked ≠ none ∨
      s.ctb.closedWaiting ≠ [] ∨ freeSlots s.lif < s.ctb.cases.length + 1 → exec .closeCompletion s = .next s) ∧
    (j.closing = true → s.iq.entries = [] → s.ven.engine = .idle → s.ciu.state ≠ .writing → s.ven.parked = none →
      s.ctb.closedWaiting = [] → s.ctb.cases.length + 1 ≤ freeSlots s.lif →
      let quoted := fun (c : Case) => c.quote.map (fun q => (q.amount, q.endStop))
      let closed := fun (c : Case) =>
        ({ serial := c.serial, journey := c.journey, intake := c.intake, key := c.key, outcome := .journeyEnded,
           quote := quoted c, epoch := c.epoch, rideOutcome := .none, ridesRemaining := c.rides } : ClosedCase)
      let ends := s.ctb.cases.map (fun c => JournalBody.caseEnd c.serial c.journey c.key .journeyEnded (quoted c) .none)
      let last := JournalBody.journeyEnd s.jcu.number j.epoch (j.route.stop (match j.position with
        | .atStop k => k
        | .running k => k)).code s.ctb.cases.length
      let appended := (ends ++ [last]).foldl (fun (p : Jnl × List Notice) body =>
        let r := p.1.append (tariffTime s) s.timebase body
        (r.1, p.2 ++ r.2)) (s.jnl, [])
      let reports := [0x94, 0x95, 0x96].filterMap (fun kind => (appended.2.filter (fun n => n.code = kind)).getLast?)
      let room := 24 - (s.lif.outbound.length + s.ctb.cases.length + 1)
      exec .closeCompletion s = .next
        { s with
          jcu := { s.jcu with journey := none, delay := 0 }
          irg := { s.irg with records := [] }
          ctb := { s.ctb with cases := [] }
          jnl := appended.1
          lif := { s.lif with
            outbound := s.lif.outbound ++
              (s.ctb.cases.map (fun c => Slot.frame (.notice (.caseClosed (closed c)))) ++
                Slot.frame (.notice (.journeyClosed s.jcu.number s.ctb.cases.length)) ::
                  (reports.take room).map (fun n => Slot.frame (.notice n)))
            pendingNotices := reports.drop room } })

/-- ROUTE-BEGIN, ROUTE-STOPS and ROUTE-ARM: each refusal, and the staging each leaves; a route that breaks a check is
refused with the lowest index at which one fails. ROUTE-CANCEL empties the staging from any state, answers the staging
state before, and sends no notice (R20 to R23). -/
def Obligations.RoutesAreStaged : Prop :=
  (∀ (tag : Byte) (rest : List RequestFrame) (service count dayStart : Nat) (s : State), service < 65536 →
    count < 256 → dayStart < 4294967296 → Ready 0x14 tag (u16 service ++ u8 count ++ u32 dayStart) rest s →
    ((∃ j, s.jcu.journey = some j ∧ j.closing = true) ∨ (∃ r, s.jcu.staging = .armed r) →
      exec .routeBegin s = .next (s.answered 0x54 tag [2] rest)) ∧
    ((∀ j, s.jcu.journey = some j → j.closing = false) → (∀ r, s.jcu.staging ≠ .armed r) →
      (service = 0 ∨ count < 2 ∨ 64 < count → exec .routeBegin s = .next (s.answered 0x54 tag [3] rest)) ∧
      (service ≠ 0 → 2 ≤ count → count ≤ 64 → exec .routeBegin s = .next
        (({ s with jcu := { s.jcu with staging := .filling service count dayStart [] } } : State).answered
          0x54 tag [0] rest)))) ∧
  (∀ (tag : Byte) (rest : List RequestFrame) (first : Nat) (stops : List Stop) (s : State), first < 256 →
    stops.length < 30 → (∀ st ∈ stops, st.code < 65536 ∧ st.post < 65536 ∧ st.area < 256 ∧ st.zone < 256 ∧
      st.planned < 65536) →
    Ready 0x15 tag (u8 first ++ (u8 stops.length ++ stops.flatMap (fun st =>
      u16 st.code ++ (u16 st.post ++ (u8 st.area ++ (u8 st.zone ++ u16 st.planned)))))) rest s →
    ((∃ j, s.jcu.journey = some j ∧ j.closing = true) ∨ (∀ a b c d, s.jcu.staging ≠ .filling a b c d) →
      exec .routeStops s = .next (s.answered 0x55 tag [2] rest)) ∧
    (∀ service count dayStart received, s.jcu.staging = .filling service count dayStart received →
      (∀ j, s.jcu.journey = some j → j.closing = false) →
      (first ≠ received.length ∨ stops = [] ∨ 16 < stops.length ∨ count < first + stops.length ∨
        (∃ st ∈ stops, st.code = 0 ∨ 7 < st.area ∨ 2879 < st.planned) →
          exec .routeStops s = .next (s.answered 0x55 tag [3] rest)) ∧
      (first = received.length → stops ≠ [] → stops.length ≤ 16 → first + stops.length ≤ count →
        (∀ st ∈ stops, st.code ≠ 0 ∧ st.area ≤ 7 ∧ st.planned ≤ 2879) → exec .routeStops s = .next
          (({ s with jcu := { s.jcu with staging := .filling service count dayStart (received ++ stops) } } :
            State).answered 0x55 tag (0 :: u8 (first + stops.length)) rest)))) ∧
  (∀ (tag : Byte) (rest : List RequestFrame) (s : State), Ready 0x16 tag [] rest s →
    let sound := fun (stops : List Stop) =>
      stops.Pairwise (fun p q => p.code ≠ q.code ∧ p.post ≤ q.post ∧ p.planned ≤ q.planned)
    ((∃ j, s.jcu.journey = some j ∧ j.closing = true) ∨ (∀ a b c d, s.jcu.staging = .filling a b c d → d.length < b) →
      exec .routeArm s = .next (s.answered 0x56 tag [2] rest)) ∧
    (∀ service count dayStart stops, s.jcu.staging = .filling service count dayStart stops → count ≤ stops.length →
      (∀ j, s.jcu.journey = some j → j.closing = false) →
      (sound stops → exec .routeArm s = .next
        (({ s with jcu := { s.jcu with staging := .armed { service := service, dayStart := dayStart,
                                                           stops := stops } } } : State).answered
          0x56 tag (0 :: (u16 service ++ u8 count)) rest)) ∧
      (¬ sound stops → ∃ i, i < stops.length ∧ sound (stops.take i) ∧ ¬ sound (stops.take (i + 1)) ∧
        exec .routeArm s = .next (s.answered 0x56 tag (3 :: u8 i) rest)))) ∧
  ∀ (tag : Byte) (rest : List RequestFrame) (s : State), Ready 0x17 tag [] rest s →
    let before : Byte := match s.jcu.staging with
      | .empty => 0
      | .filling _ _ _ _ => 1
      | .armed _ => 2
    exec .routeCancel s = .next
      (({ s with jcu := { s.jcu with staging := .empty } } : State).answered 0x57 tag [0, before] rest)

/-- STOP-ARRIVE: its refusals; an arrival short of the last stop; and the entry into CLOSING at the last stop or with the
close-at-arrival flag set, with the discard of an armed staged route after the reply (R29, R38). -/
def Obligations.StopArriveReachesStop : Prop :=
  ∀ (tag : Byte) (rest : List RequestFrame) (k : Nat) (s : State), k < 256 → Ready 0x18 tag (u8 k) rest s →
    ((∀ j, s.jcu.journey = some j → j.closing = true ∨ ∃ i, j.position = .atStop i) →
      exec .stopArrive s = .next (s.answered 0x58 tag [2] rest)) ∧
    (∀ j i, s.jcu.journey = some j → j.closing = false → j.position = .running i →
      (k < i + 1 ∨ j.route.stops.length < k + 1 → exec .stopArrive s = .next (s.answered 0x58 tag [3] rest)) ∧
      (i + 1 ≤ k → k + 1 < j.route.stops.length → s.jcu.closeAtArrival = false → exec .stopArrive s = .next
        (({ s with jcu := { s.jcu with journey := some { j with position := .atStop k } } } : State).answered
          0x58 tag (0 :: (u8 1 ++ (u8 k ++ u8 1))) rest)) ∧
      (i + 1 ≤ k → k + 1 ≤ j.route.stops.length → k + 1 = j.route.stops.length ∨ s.jcu.closeAtArrival = true →
        let closing := { s.jcu with journey := some { j with position := .atStop k, closing := true },
                                    closeAtArrival := false }
        let reply : List Byte := 0 :: (u8 1 ++ (u8 k ++ u8 2))
        ((∀ r, s.jcu.staging ≠ .armed r) → exec .stopArrive s = .next
          (({ s with jcu := closing } : State).answered 0x58 tag reply rest)) ∧
        (∀ r, s.jcu.staging = .armed r → exec .stopArrive s = .next
          { s with
            jcu := { closing with staging := .empty }
            lif := produceWaiting (.routeDiscarded .closing r.service) (s.lif.answered 0x58 tag reply rest) })))

/-- STOP-DEPART: its refusals; the departure on the active route; the application of an armed staged route that has the
stop with a section after it, with ROUTE-APPLIED and the ROUTE-CHANGE record after the reply; its discard otherwise; and
the delay, the floor in minutes of the clock less the planned departure, held to -60 to 720 (R26 to R28). -/
def Obligations.StopDepartRunsOrChangesRoute : Prop :=
  (∀ (tag : Byte) (rest : List RequestFrame) (k : Nat) (s : State), k < 256 → Ready 0x19 tag (u8 k) rest s →
    let delayOn := fun (r : Route) (i : Nat) => departureDelay s.jcu.clock.seconds r.dayStart (r.stop i).planned
    ((∀ j, s.jcu.journey = some j → j.closing = true ∨ ∃ i, j.position = .running i) →
      exec .stopDepart s = .next (s.answered 0x59 tag [2] rest)) ∧
    (∀ j i, s.jcu.journey = some j → j.closing = false → j.position = .atStop i →
      (k ≠ i ∨ j.route.stops.length < k + 2 → exec .stopDepart s = .next (s.answered 0x59 tag [3] rest)) ∧
      (k = i → k + 2 ≤ j.route.stops.length →
        let departed := { s.jcu with journey := some { j with position := .running k }, delay := delayOn j.route k }
        let reply : List Byte := 0 :: (u8 k ++ (u16 j.epoch ++ i16 (delayOn j.route k)))
        ((∀ r, s.jcu.staging ≠ .armed r) → exec .stopDepart s = .next
          (({ s with jcu := departed } : State).answered 0x59 tag reply rest)) ∧
        (∀ r, s.jcu.staging = .armed r → (∀ st ∈ r.stops, st.code ≠ (j.route.stop k).code) →
          exec .stopDepart s = .next
            { s with
              jcu := { departed with staging := .empty }
              lif := produceWaiting (.routeDiscarded .stopAbsent r.service) (s.lif.answered 0x59 tag reply rest) }) ∧
        (∀ r k', s.jcu.staging = .armed r → r.indexOf? (j.route.stop k).code = some k' →
          (r.stops.length < k' + 2 → exec .stopDepart s = .next
            { s with
              jcu := { departed with staging := .empty }
              lif := produceWaiting (.routeDiscarded .atEnd r.service) (s.lif.answered 0x59 tag reply rest) }) ∧
          (k' + 2 ≤ r.stops.length →
            let epoch := if j.epoch < 65535 then j.epoch + 1 else 1
            let code := (j.route.stop k).code
            exec .stopDepart s = .next
              (journal (.routeChange s.jcu.number j.epoch epoch j.route.service r.service code)
                { s with
                  jcu := { s.jcu with journey := some { j with route := r, epoch := epoch, position := .running k' },
                                      staging := .empty, delay := delayOn r k' }
                  lif := produceWaiting (.routeApplied epoch r.service code k k')
                    (s.lif.answered 0x59 tag (0 :: (u8 k' ++ (u16 epoch ++ i16 (delayOn r k')))) rest) })))))) ∧
  ∀ (seconds dayStart planned : Nat) (minutes : Int),
    60 * minutes ≤ (seconds : Int) - ((dayStart : Int) + planned) * 60 →
    (seconds : Int) - ((dayStart : Int) + planned) * 60 < 60 * (minutes + 1) →
      (minutes < -60 → departureDelay seconds dayStart planned = -60) ∧
      (-60 ≤ minutes → minutes ≤ 720 → departureDelay seconds dayStart planned = minutes) ∧
      (720 < minutes → departureDelay seconds dayStart planned = 720)

/-- CARRIAGE-SET stores a carriage 1 to 16 and its class, and DELAY-SET a delay held to -60 to 720, while a journey runs;
neither is taken in NONE (R31, R32). -/
def Obligations.CarriageAndDelayAreSet : Prop :=
  (∀ (tag : Byte) (rest : List RequestFrame) (carriage cls : Nat) (s : State), carriage < 256 → cls < 256 →
    Ready 0x1A tag (u8 carriage ++ u8 cls) rest s →
    (s.jcu.journey = none → exec .carriageSet s = .next (s.answered 0x5A tag [2] rest)) ∧
    (s.jcu.journey ≠ none →
      (carriage < 1 ∨ 16 < carriage ∨ cls < 1 ∨ 2 < cls →
        exec .carriageSet s = .next (s.answered 0x5A tag [3] rest)) ∧
      (1 ≤ carriage → carriage ≤ 16 → cls = 1 → exec .carriageSet s = .next
        (({ s with jcu := { s.jcu with carriage := carriage, cls := .first } } : State).answered 0x5A tag [0] rest)) ∧
      (1 ≤ carriage → carriage ≤ 16 → cls = 2 → exec .carriageSet s = .next
        (({ s with jcu := { s.jcu with carriage := carriage, cls := .second } } : State).answered
          0x5A tag [0] rest)))) ∧
  ∀ (tag : Byte) (rest : List RequestFrame) (minutes : Int) (s : State), -32768 ≤ minutes → minutes ≤ 32767 →
    Ready 0x1B tag (i16 minutes) rest s →
    let stored := if minutes < -60 then -60 else if 720 < minutes then 720 else minutes
    (s.jcu.journey = none → exec .delaySet s = .next (s.answered 0x5B tag [2] rest)) ∧
    (s.jcu.journey ≠ none → exec .delaySet s = .next
      (({ s with jcu := { s.jcu with delay := stored } } : State).answered 0x5B tag (0 :: i16 stored) rest))

/-! ### Keys, credentials and screening (01, 03) -/

/-- KEY-LOAD, KEY-STATE and KEY-DROP: the refusals in their order and the table each leaves (R11 to R13). -/
def Obligations.KeyTableRequests : Prop :=
  ∀ (tag : Byte) (rest : List RequestFrame) (issuer version : Nat) (s : State), issuer < 256 → version < 256 →
    let pair := fun (e : KeyEntry) => e.issuer = issuer ∧ e.version = version
    let withTable := fun (keys : List KeyEntry) => ({ s with dcu := { s.dcu with keys := keys } } : State)
    (∀ material : List Byte, material.length = 16 →
      Ready 0x20 tag (u8 issuer ++ (u8 version ++ material)) rest s →
      let entry : KeyEntry := { issuer := issuer, version := version, state := .active, material := material }
      (s.jcu.journey ≠ none → exec .keyLoad s = .next (s.answered 0x60 tag [2] rest)) ∧
      (s.jcu.journey = none → 15 < version → exec .keyLoad s = .next (s.answered 0x60 tag [3] rest)) ∧
      (s.jcu.journey = none → version ≤ 15 → (∀ e ∈ s.dcu.keys, ¬ pair e) →
        (32 ≤ s.dcu.keys.length → exec .keyLoad s = .next (s.answered 0x60 tag [4] rest)) ∧
        (s.dcu.keys.length < 32 → exec .keyLoad s = .next
          ((withTable (s.dcu.keys ++ [entry])).answered 0x60 tag (0 :: (u8 1 ++ u8 (s.dcu.keys.length + 1))) rest))) ∧
      (∀ front back e, s.jcu.journey = none → version ≤ 15 → s.dcu.keys = front ++ e :: back → pair e →
        (∀ d ∈ front ++ back, ¬ pair d) → exec .keyLoad s = .next
          ((withTable (front ++ entry :: back)).answered 0x60 tag (0 :: (u8 2 ++ u8 s.dcu.keys.length)) rest))) ∧
    (∀ state : Nat, state < 256 → Ready 0x21 tag (u8 issuer ++ (u8 version ++ u8 state)) rest s →
      (15 < version ∨ state < 1 ∨ 3 < state → exec .keyState s = .next (s.answered 0x61 tag [3] rest)) ∧
      (version ≤ 15 → 1 ≤ state → state ≤ 3 → (∀ e ∈ s.dcu.keys, ¬ pair e) →
        exec .keyState s = .next (s.answered 0x61 tag [5] rest)) ∧
      (∀ front back e new, version ≤ 15 → KeyState.ofCode? state = some new → s.dcu.keys = front ++ e :: back →
        pair e → (∀ d ∈ front ++ back, ¬ pair d) → exec .keyState s = .next
          ((withTable (front ++ { e with state := new } :: back)).answered 0x61 tag (0 :: u8 e.state.code) rest))) ∧
    (Ready 0x22 tag (u8 issuer ++ u8 version) rest s →
      (s.jcu.journey ≠ none → exec .keyDrop s = .next (s.answered 0x62 tag [2] rest)) ∧
      (s.jcu.journey = none → 15 < version → exec .keyDrop s = .next (s.answered 0x62 tag [3] rest)) ∧
      (s.jcu.journey = none → version ≤ 15 → (∀ e ∈ s.dcu.keys, ¬ pair e) →
        exec .keyDrop s = .next (s.answered 0x62 tag [5] rest)) ∧
      (∀ front back e, s.jcu.journey = none → version ≤ 15 → s.dcu.keys = front ++ e :: back → pair e →
        (∀ d ∈ front ++ back, ¬ pair d) → exec .keyDrop s = .next
          ((withTable (front ++ back)).answered 0x62 tag (0 :: u8 (front ++ back).length) rest)))

/-- A content is decoded to a record exactly when it is that record written out: every field in its range, at its position
in the layout, with the kind, class, travellers and presence flags in the word at offset 12, the length byte the length of
its parts, and the check value last, the check covering all before it. So nothing else is decoded: not a set flag bit 2, a
kind or class code without a meaning, or a length byte that differs. A card's padding after the content length plays no
part, and a content that is too short is not decoded (R2 to R8, R187). -/
def Obligations.DecodedCredentialsAreInRange : Prop :=
  let placed := fun (kind : KindPart) (kindCode : Nat) (part : List Byte) =>
    (∃ o d, 1 ≤ o ∧ o < 65536 ∧ 1 ≤ d ∧ d < 65536 ∧ o ≠ d ∧ part = u16 o ++ u16 d ∧
      ((kindCode = 1 ∧ kind = .single o d) ∨ (kindCode = 2 ∧ kind = .returnTrip o d))) ∨
    (∃ area zones, area ≤ 7 ∧ 1 ≤ zones.length ∧ zones.length ≤ 8 ∧ zones.Nodup ∧ (∀ z ∈ zones, z ≤ 255) ∧
      part = u8 area ++ (u8 zones.length ++ zones.flatMap u8) ∧ kindCode = 3 ∧ kind = .zones area zones) ∨
    (∃ area, area ≤ 7 ∧ part = u8 area ∧ kindCode = 4 ∧ kind = .area area)
  let laid := fun (c : Credential) (kindCode : Nat) (part : List Byte) =>
    let optional := (match c.rides with
        | some n => u8 n
        | none => []) ++
      (match c.service with
        | some n => u16 n
        | none => [])
    let word := kindCode * 8192 + c.cls.code * 2048 + c.adults * 128 + c.children * 8 +
      (if c.service.isSome then 2 else 0) + (if c.rides.isSome then 1 else 0)
    u8 2 ++ (u8 c.key.issuer ++ (u8 c.version ++ (u48 c.key.serial ++
      (u8 (30 + part.length + optional.length) ++ (u16 c.product ++ (u16 word ++ (u32 c.validFrom ++ (u32 c.validUntil ++
        (part ++ optional)))))))))
  let writtenOut := fun (c : Credential) (content : List Byte) =>
    c.key.issuer < 256 ∧ c.key.serial < 281474976710656 ∧ c.version ≤ 15 ∧ c.product ≤ 4095 ∧
    1 ≤ c.adults + c.children ∧ c.adults + c.children ≤ 9 ∧ c.validFrom ≤ c.validUntil ∧ c.validUntil < 4294967296 ∧
    (∀ n, c.rides = some n → n ≤ 255) ∧ (∀ n, c.service = some n → 1 ≤ n ∧ n ≤ 65535) ∧
    ∃ (kindCode : Nat) (part check : List Byte), placed c.kind kindCode part ∧ check.length = 8 ∧
      c.checkInput = laid c kindCode part ∧ c.checkValue = BitVec.ofNat 64 (beNat check) ∧
      content = c.checkInput ++ check
  (∀ (content : List Byte) (c : Credential), decodeContent .link content = some c ↔ writtenOut c content) ∧
  (∀ (counter : Counter) (session : Nat) (content padding : List Byte), 10 ≤ content.length →
    fieldAt content 9 1 = content.length →
      decodeContent (.card counter session) (content ++ padding) = decodeContent .link content) ∧
  (∀ (counter : Counter) (session : Nat) (content : List Byte), fieldAt content 9 1 < 22 →
    decodeContent (.card counter session) content = none) ∧
  ∀ content : List Byte, content.length < 22 → decodeContent .link content = none

/-- FILTER-BEGIN, FILTER-SEGMENT and FILTER-COMMIT: the refusals, the pending image as it is begun and filled, and the
commit of image, generation and offset together (R46 to R48). -/
def Obligations.ScreenImageIsLoaded : Prop :=
  ∀ (tag : Byte) (rest : List RequestFrame) (s : State), s.rsu.ok →
    let received := fun (p : Option PendingImage) => (p.map (fun p => p.received.length)).getD 0
    (∀ generation offset : Nat, generation < 4294967296 → offset < 256 →
      Ready 0x24 tag (u32 generation ++ u8 offset) rest s →
      (3 < offset → exec .filterBegin s = .next (s.answered 0x64 tag [3] rest)) ∧
      (offset ≤ 3 → ∃ p, exec .filterBegin s = .next
          (({ s with rsu := { s.rsu with pendingImage := some p } } : State).answered
            0x64 tag (0 :: u8 (received s.rsu.pendingImage)) rest) ∧
        p.image.generation = generation ∧ p.image.offset = offset ∧ p.received = [] ∧
        ∀ b, b < 8192 → p.image.imageBit b = false)) ∧
    (∀ (index : Nat) (bits : List Byte), index < 256 → bits.length = 32 → Ready 0x25 tag (u8 index ++ bits) rest s →
      (s.rsu.pendingImage = none → exec .filterSegment s = .next (s.answered 0x65 tag [2] rest)) ∧
      (∀ p, s.rsu.pendingImage = some p → 31 < index →
        exec .filterSegment s = .next (s.answered 0x65 tag [3] rest)) ∧
      (∀ p, s.rsu.pendingImage = some p → index ≤ 31 → ∃ p', exec .filterSegment s = .next
          (({ s with rsu := { s.rsu with pendingImage := some p' } } : State).answered
            0x65 tag (0 :: u8 p'.received.length) rest) ∧
        p'.image.generation = p.image.generation ∧ p'.image.offset = p.image.offset ∧
        (∀ i, i ∈ p'.received ↔ i = index ∨ i ∈ p.received) ∧
        p'.received.length = (if index ∈ p.received then p.received.length else p.received.length + 1) ∧
        ∀ b, b < 8192 → p'.image.imageBit b = if b / 256 = index then bitAt bits (b % 256) else p.image.imageBit b)) ∧
    (Ready 0x26 tag [] rest s →
      (s.rsu.pendingImage = none → exec .filterCommit s = .next (s.answered 0x66 tag [2] rest)) ∧
      (∀ p, s.rsu.pendingImage = some p → p.received.length < 32 →
        exec .filterCommit s = .next (s.answered 0x66 tag [2] rest)) ∧
      (∀ p, s.rsu.pendingImage = some p → p.received.length = 32 → exec .filterCommit s = .next
        (({ s with rsu := { s.rsu with active := p.image, pendingImage := none } } : State).answered
          0x66 tag (0 :: (u32 s.rsu.active.generation ++ u32 p.image.generation)) rest)))

/-- LIST-ADD and LIST-REMOVE: the refusals, the entry added at the end or replaced in its place with the time of the
clock, and the entry removed with the others kept in order. LIST-FLUSH removes every entry and answers how many; image
and pending image stay (R49 to R52). -/
def Obligations.ExactListRequests : Prop :=
  (∀ (tag : Byte) (rest : List RequestFrame) (key : CredKey) (s : State), key.issuer < 256 →
    key.serial < 281474976710656 →
    let now := if s.jcu.clock.isSet then s.jcu.clock.seconds else 0
    let withList := fun (l : List ListEntry) => ({ s with rsu := { s.rsu with list := l } } : State)
    (∀ code reason : Nat, code < 256 → reason < 256 →
      Ready 0x27 tag (u8 key.issuer ++ (u48 key.serial ++ (u8 code ++ u8 reason))) rest s →
      (code < 1 ∨ 2 < code ∨ 15 < reason → exec .listAdd s = .next (s.answered 0x67 tag [3] rest)) ∧
      (∀ action, ListAction.ofCode? code = some action → reason ≤ 15 →
        let entry : ListEntry := { key := key, action := action, reason := reason, added := now }
        ((∀ e ∈ s.rsu.list, e.key ≠ key) → s.rsu.list.length < 64 → exec .listAdd s = .next
          ((withList (s.rsu.list ++ [entry])).answered 0x67 tag (0 :: (u8 1 ++ u8 (s.rsu.list.length + 1))) rest)) ∧
        (∀ e more, s.rsu.list = e :: more → (∀ d ∈ e :: more, d.key ≠ key) → 64 ≤ s.rsu.list.length →
          exec .listAdd s = .next (s.answered 0x67 tag
            (4 :: (u8 e.key.issuer ++ u48 e.key.serial ++ u8 e.action.code ++ u8 e.reason)) rest)) ∧
        (∀ front back e, s.rsu.list = front ++ e :: back → e.key = key → (∀ d ∈ front ++ back, d.key ≠ key) →
          exec .listAdd s = .next
            ((withList (front ++ entry :: back)).answered 0x67 tag
              (0 :: (u8 2 ++ u8 s.rsu.list.length ++ (u8 e.action.code ++ u8 e.reason ++ u32 e.added))) rest)))) ∧
    (Ready 0x28 tag (u8 key.issuer ++ u48 key.serial) rest s →
      ((∀ e ∈ s.rsu.list, e.key ≠ key) → exec .listRemove s = .next (s.answered 0x68 tag [5] rest)) ∧
      (∀ front back e, s.rsu.list = front ++ e :: back → e.key = key → (∀ d ∈ front ++ back, d.key ≠ key) →
        exec .listRemove s = .next
          ((withList (front ++ back)).answered 0x68 tag
            (0 :: (u8 e.action.code ++ u8 e.reason ++ u32 e.added ++ u8 (front ++ back).length)) rest)))) ∧
  ∀ (tag : Byte) (rest : List RequestFrame) (s : State), Ready 0x29 tag [] rest s →
    exec .listFlush s = .next
      (({ s with rsu := { s.rsu with list := [] } } : State).answered 0x69 tag (0 :: u8 s.rsu.list.length) rest)

/-- The screening lookup: the exact list, searched by the whole key, decides where it has an entry; otherwise the two
probed bits do, with the probe arithmetic of R44 (R44, R53). -/
def Obligations.ScreeningLookup : Prop :=
  ∀ (key : CredKey) (r : Rsu), r.list.Pairwise (fun a b => a.key ≠ b.key) →
    (∀ e ∈ r.list, e.key = key → e.action = .revoke → screenFinding key r = some .revoked) ∧
    (∀ e ∈ r.list, e.key = key → e.action = .clear → screenFinding key r = none) ∧
    ((∀ e ∈ r.list, e.key ≠ key) →
      screenFinding key r =
        if r.active.imageBit (key.serial / 16 ^ r.active.offset % 8192) = true ∧
            r.active.imageBit (key.serial / 2 ^ (4 * r.active.offset + 20) % 8192) = true then some .screenHit
        else none)

/-! ### The engine's tables and the plain settings (04, 05, 06, 07, 08) -/

/-- AREA-SET stores and answers the values, clamped, sets the configured flag and keeps the acceptance map; ACCEPT-MAP
replaces the eighth of the map that it names, and each keeps all other entries (R63, R64). Bit p of a bit map, of this one
as of a screen image, stands in byte p / 8, counted from the most significant bit (R43, R64). The layout of the AREA-SET
reply is log 25's. -/
def Obligations.AreaTableRequests : Prop :=
  (∀ (bits : List Byte) (p : Nat), bitAt bits p = (bits.getD (p / 8) 0).toNat.testBit (7 - p % 8)) ∧
  (∀ (v : Ven) (i : Nat) (h : i < 8), v.areaOf i = v.areas[i]) ∧
  ∀ (tag : Byte) (rest : List RequestFrame) (area : Nat) (s : State), area < 256 →
    (∀ rate kmin step cap surcharge child tol : Nat, rate < 65536 → kmin < 256 → step < 256 → cap < 4294967296 →
      surcharge < 65536 → child < 256 → tol < 256 →
      Ready 0x2C tag (u8 area ++ (u16 rate ++ (u8 kmin ++ (u8 step ++ (u32 cap ++ (u16 surcharge ++
        (u8 child ++ u8 tol))))))) rest s →
      (7 < area ∨ step ∉ [1, 2, 5, 10, 20, 50, 100] → exec .areaSet s = .next (s.answered 0x6C tag [3] rest)) ∧
      (∀ h : area < 8, step ∈ [1, 2, 5, 10, 20, 50, 100] →
        let old := s.ven.areas[area]
        let entry : AreaEntry :=
          { configured := true, rate := rate, kmin := kmin, step := step, cap := min 1000000 cap,
            surcharge := surcharge, childPercent := min 100 child, toleranceCap := min 240 tol, accept := old.accept }
        exec .areaSet s = .next
          (({ s with ven := { s.ven with areas := s.ven.areas.set area entry } } : State).answered 0x6C tag
            (0 :: (u16 rate ++ u8 kmin ++ u8 step ++ u32 (min 1000000 cap) ++ u16 surcharge ++ u8 (min 100 child) ++
              u8 (min 240 tol) ++ u8 (if old.configured then 1 else 0))) rest))) ∧
    (∀ (g : Nat) (bits : List Byte), g < 256 → bits.length = 64 → Ready 0x2D tag (u8 area ++ (u8 g ++ bits)) rest s →
      (7 < area ∨ 7 < g → exec .acceptMap s = .next (s.answered 0x6D tag [3] rest)) ∧
      (∀ h : area < 8, g < 8 → ∃ entry : AreaEntry, exec .acceptMap s = .next
          (({ s with ven := { s.ven with areas := s.ven.areas.set area entry } } : State).answered 0x6D tag [0] rest) ∧
        entry = { s.ven.areas[area] with accept := entry.accept } ∧
        ∀ p, p < 4096 → entry.accepts p =
          if p / 512 = g then bitAt bits (p % 512) else s.ven.areas[area].accepts p))

/-- POLICY-SET stores a policy for a finding that is not fixed, keeps a fixed one, answers the policy held after, and
refuses a code outside 1 to 19 or a policy outside 1 to 3 (R75, R76). -/
def Obligations.PolicySetKeepsFixed : Prop :=
  ∀ (tag : Byte) (rest : List RequestFrame) (code policy : Nat) (s : State), code < 256 → policy < 256 →
    Ready 0x2F tag (u8 code ++ u8 policy) rest s →
    (code < 1 ∨ 19 < code ∨ policy < 1 ∨ 3 < policy → exec .policySet s = .next (s.answered 0x6F tag [3] rest)) ∧
    (∀ (f : Finding) (p : Policy), f.code = code → p.code = policy →
      (f ∈ [Finding.checkMismatch, .issuerUnknown, .keyWithdrawn, .revoked, .areaUnconfigured, .registerFull] →
        exec .policySet s = .next (s.answered 0x6F tag (0 :: u8 (s.ven.policyOf f).code) rest)) ∧
      (f ∉ [Finding.checkMismatch, .issuerUnknown, .keyWithdrawn, .revoked, .areaUnconfigured, .registerFull] →
        ∃ v : Ven, exec .policySet s = .next (({ s with ven := v } : State).answered 0x6F tag (0 :: u8 policy) rest) ∧
          v = { s.ven with policies := v.policies } ∧ v.policyOf f = p ∧
          ∀ g, g ≠ f → v.policyOf g = s.ven.policyOf g))

/-- The five settings that one number sets: CLASS-SET, CASE-TIMEOUT, PASSBACK-SET and JOURNAL-TIMERS hold it to its range
and answer the value stored, CARD-OPTIONS answers the value before and refuses any but 0 and 1 (R91, R106, R126, R149,
R182). The step in the JOURNAL-TIMERS reply is log 25's, the widths of the reply's fields, two bytes for the quiet
seconds among them, log 24's. -/
def Obligations.SettingsAreClamped : Prop :=
  ∀ (tag : Byte) (rest : List RequestFrame) (s : State),
    (∀ m, m < 256 → Ready 0x2E tag (u8 m) rest s →
      let stored := if m < 100 then 100 else if 250 < m then 250 else m
      exec .classSet s = .next
        (({ s with ven := { s.ven with m1 := stored } } : State).answered 0x6E tag (0 :: u8 stored) rest)) ∧
    (∀ m, m < 256 → Ready 0x32 tag (u8 m) rest s →
      let stored := if m < 1 then 1 else if 60 < m then 60 else m
      exec .caseTimeout s = .next
        (({ s with ctb := { s.ctb with timeout := stored } } : State).answered 0x72 tag (0 :: u8 stored) rest)) ∧
    (∀ w, w < 65536 → Ready 0x33 tag (u16 w) rest s →
      let stored := if 600 < w then 600 else w
      exec .passbackSet s = .next
        (({ s with irg := { s.irg with passback := stored } } : State).answered 0x73 tag (0 :: u16 stored) rest)) ∧
    (∀ o, o < 256 → Ready 0x34 tag (u8 o) rest s →
      (1 < o → exec .cardOptions s = .next (s.answered 0x74 tag [3] rest)) ∧
      (o ≤ 1 → exec .cardOptions s = .next
        (({ s with ciu := { s.ciu with quiet := o = 1 } } : State).answered
          0x74 tag (0 :: u8 (if s.ciu.quiet then 1 else 0)) rest))) ∧
    (∀ q a d, q < 65536 → a < 65536 → d < 256 → Ready 0x3A tag (u16 q ++ (u16 a ++ u8 d)) rest s →
      let step := if d = 0 then 1 else if 3 < d then 3 else d
      let threshold := if step = 1 then 1024 else if step = 2 then 512 else 256
      exec .journalTimers s = .next
        (({ s with jnl := { s.jnl with quietSetting := min 255 q, absoluteSetting := min 3600 a,
                                       lowThreshold := threshold,
                                       lowArmed := threshold < 2048 - s.jnl.records.length } } : State).answered
          0x7A tag (0 :: (u16 (min 255 q) ++ u16 (min 3600 a) ++ u8 step)) rest))

/-! ### Evaluation, quotes and the register (04, 05, 06) -/

/-- The quote's arithmetic, factor by factor: charged kilometres round upward with the minimum on shortfall alone (R89),
the class multiplier and the upgrade factor (R90), the traveller weight (R92), one upward rounding to whole steps (R94),
and the surcharge on a non-zero amount alone (R95). -/
def Obligations.QuoteArithmetic : Prop :=
  (∀ d kmin : Nat, chargedUp 0 = 0 ∧ chargedShort kmin 0 = 0 ∧ d ≤ 10 * chargedUp d ∧ 10 * chargedUp d < d + 10 ∧
    (0 < d → chargedShort kmin d = max kmin (chargedUp d))) ∧
  (∀ m1 : Nat, 100 ≤ m1 → classMultiplier m1 .first = m1 ∧ classMultiplier m1 .second = 100 ∧
    upgradeFactor m1 .first .first = 0 ∧ upgradeFactor m1 .second .first = 0 ∧
    upgradeFactor m1 .first .second = m1 - 100 ∧ upgradeFactor m1 .second .second = 0) ∧
  (∀ adults children percent : Nat, travellerWeight adults children percent = adults * 100 + children * percent) ∧
  (∀ step product : Nat, 0 < step →
    step ∣ roundToStep step product ∧ product ≤ roundToStep step product * 1000000 ∧
    roundToStep step product * 1000000 < product + step * 1000000 ∧
    (roundToStep step product = 0 ↔ product = 0)) ∧
  ∀ surcharge amount : Nat, withSurcharge surcharge 0 = 0 ∧
    (0 < amount → withSurcharge surcharge amount = amount + surcharge)

/-- Every quote over a validated route lies between 0 and the cap of its area, is 0 when both charged distances are, and
is made from a product below 10^14 and distances that add up to the length of the span: the distances of the sections
that are uncovered and covered, the charged kilometres, the exact product P, and the amount, which is the rounded product
with its surcharge, or the cap where that is less (R88, R89, R93, R95, R96). -/
def Obligations.QuoteStaysWithinCap : Prop :=
  ∀ q : QuoteInput, q.route.ok → q.a < q.x → q.x < q.route.stops.length → q.entry.ok → 100 ≤ q.m1 → q.m1 ≤ 250 →
    1 ≤ q.adults + q.children → q.adults + q.children ≤ 9 →
    let away := q.cls = .second ∧ q.carriageClass = .first ∧ q.upgradeHeld = false
    let length := fun (i : Nat) => (q.route.stop (i + 1)).post - (q.route.stop i).post
    let span := (List.range (q.x - q.a)).map (fun i => q.a + i)
    let total := withSurcharge q.entry.surcharge (roundToStep q.entry.step (quoteProduct q))
    shortDistance q = ((span.filter (fun i => covered q.kind q.paid q.route i = false)).map length).sum ∧
    coveredDistance q = ((span.filter (fun i => covered q.kind q.paid q.route i = true)).map length).sum ∧
    (computeQuote q).kmShort = chargedShort q.entry.kmin (shortDistance q) ∧
    (computeQuote q).kmUp = chargedUp (if away then coveredDistance q else 0) ∧
    quoteProduct q = q.entry.rate * travellerWeight q.adults q.children q.entry.childPercent *
      ((computeQuote q).kmShort * classMultiplier q.m1 q.carriageClass +
        (computeQuote q).kmUp * upgradeFactor q.m1 q.carriageClass q.cls) ∧
    (computeQuote q).amount = (if total ≤ q.entry.cap then total else q.entry.cap) ∧
    shortDistance q + coveredDistance q = (q.route.stop q.x).post - (q.route.stop q.a).post ∧
    quoteProduct q < 100000000000000 ∧ (computeQuote q).amount ≤ q.entry.cap ∧
    ((computeQuote q).kmShort = 0 → (computeQuote q).kmUp = 0 → (computeQuote q).amount = 0) ∧
    (computeQuote q).endStop = (q.route.stop q.x).code ∧ (computeQuote q).area = (q.route.stop q.a).area ∧
    ((computeQuote q).capped = true ↔ q.entry.cap < total) ∧
    ((computeQuote q).upgrade = true ↔ away ∧ 0 < coveredDistance q)

/-- The placing of a credential on a route, the coverage of a section and the coverage finding, kind by kind, on a route
whose stop codes are distinct (R66 to R68), and the time finding with its tolerance (R69). On such a route a stop is found
by its index and an index by its stop's code. -/
def Obligations.CoverageAndTimeJudgements : Prop :=
  (∀ (r : Route) (k code : Nat) (st : Stop), (r.stops[k]? = some st → r.stop k = st) ∧
    (r.stops.Pairwise (fun p q => p.code ≠ q.code) → r.stops[k]? = some st → r.indexOf? st.code = some k) ∧
    ((∀ p ∈ r.stops, p.code ≠ code) → r.indexOf? code = none)) ∧
  (∀ (r : Route) (o d io id i : Nat), r.stops.Pairwise (fun p q => p.code ≠ q.code) →
    (∃ st, r.stops[io]? = some st ∧ st.code = o) → (∃ st, r.stops[id]? = some st ∧ st.code = d) →
    (offRoute (.single o d) r = true ↔ id < io) ∧ offRoute (.returnTrip o d) r = false ∧
    (coveredByKind (.single o d) r i = true ↔ io ≤ i ∧ i + 1 ≤ id) ∧
    (coveredByKind (.returnTrip o d) r i = true ↔ min io id ≤ i ∧ i + 1 ≤ max io id) ∧
    (coveredByPaid (some (o, d)) r i = true ↔ io ≤ i ∧ i + 1 ≤ id)) ∧
  (∀ (r : Route) (o d i : Nat), (∀ st ∈ r.stops, st.code ≠ o) ∨ (∀ st ∈ r.stops, st.code ≠ d) →
    offRoute (.single o d) r = true ∧ offRoute (.returnTrip o d) r = true ∧ coveredByKind (.single o d) r i = false ∧
    coveredByKind (.returnTrip o d) r i = false ∧ coveredByPaid (some (o, d)) r i = false) ∧
  (∀ (r : Route) (area : Nat) (zones : List Nat),
    (offRoute (.area area) r = true ↔ ∀ st ∈ r.stops, st.area ≠ area) ∧
    (offRoute (.zones area zones) r = true ↔ ∀ st ∈ r.stops, st.area ≠ area)) ∧
  (∀ (k : KindPart) (paid : Option (Nat × Nat)) (r : Route) (i : Nat), coveredByPaid none r i = false ∧
    (offRoute k r = true → coveredByKind k r i = false) ∧
    (covered k paid r i = true ↔ coveredByKind k r i = true ∨ coveredByPaid paid r i = true)) ∧
  (∀ (r : Route) (area : Nat) (zones : List Nat) (i : Nat) (p q : Stop), r.stops[i]? = some p →
    r.stops[i + 1]? = some q →
    (coveredByKind (.area area) r i = true ↔ p.area = area ∧ q.area = area) ∧
    (coveredByKind (.zones area zones) r i = true ↔
      p.area = area ∧ q.area = area ∧ p.zone ∈ zones ∧ q.zone ∈ zones)) ∧
  (∀ (k : KindPart) (paid : Option (Nat × Nat)) (r : Route) (a : Nat),
    coverageFinding k paid r a =
      if coveredByPaid paid r a = true then none else if offRoute k r = true then some .offRoute
      else if covered k paid r a = true then none else some .shortCoverage) ∧
  ∀ (validFrom validUntil minute : Nat) (delay : Int) (e : AreaEntry), validFrom ≤ validUntil →
    (e.configured = false ∨ delay ≤ 0 → tolerance delay e = 0) ∧
    (∀ d : Nat, e.configured = true → delay = d → tolerance delay e = min d e.toleranceCap) ∧
    ∀ tau : Nat, (minute < validFrom → timeFinding validFrom validUntil minute tau = some .notYetValid) ∧
      (validFrom ≤ minute → minute ≤ validUntil → timeFinding validFrom validUntil minute tau = none) ∧
      (validUntil < minute → minute ≤ validUntil + tau →
        timeFinding validFrom validUntil minute tau = some .delayGrace) ∧
      (validUntil + tau < minute → timeFinding validFrom validUntil minute tau = some .expired)

/-- The REGISTER stage: a known credential is SEEN; otherwise a record is appended, after the eviction of the oldest
record that may be evicted when 1024 are held; with none such the status is FULL and nothing changes (R102, R103). Records of distinct keys are found
by their keys (R100). -/
def Obligations.RegisterLookupEvictsOldest : Prop :=
  (∀ (key : CredKey) (rs : List Record) (r : Record), rs.Pairwise (fun a b => a.key ≠ b.key) →
    (findRecord key rs = some r ↔ r ∈ rs ∧ r.key = key)) ∧
  ∀ (key : CredKey) (seconds carriage : Nat) (rs : List Record),
    let fresh : Record := { key := key, lastSeen := seconds, lastCarriage := carriage, count := 0, ride := .none,
                            paid := none, upgrade := false, caseLink := none }
    let protects := fun (r : Record) => r.ride ≠ .none ∨ r.caseLink ≠ none
    ((∃ r ∈ rs, r.key = key) → registerLookup key seconds carriage rs = (rs, .seen)) ∧
    ((∀ r ∈ rs, r.key ≠ key) → rs.length < 1024 → registerLookup key seconds carriage rs = (rs ++ [fresh], .new)) ∧
    (∀ front back r, rs = front ++ r :: back → (∀ d ∈ rs, d.key ≠ key) → 1024 ≤ rs.length →
      (∀ d ∈ front, protects d) → ¬ protects r →
        registerLookup key seconds carriage rs = (front ++ back ++ [fresh], .new)) ∧
    ((∀ r ∈ rs, r.key ≠ key) → 1024 ≤ rs.length → (∀ r ∈ rs, protects r) →
      registerLookup key seconds carriage rs = (rs, .full))

/-- ENGINE_TAKE: with one of the six conditions unmet nothing happens; with all met the head entry leaves the queue,
with the end of HOLD at the low mark, and is decoded: content that cannot be decoded waits as UNREADABLE at ISSUE, a
key that may be used starts a check on what it captures, and one that is unknown or withdrawn makes the credential
untrusted, with the findings of CHECK and SCREEN alone (R9, R14, R17, R30, R41, R58, R59). That one step runs from
here to ISSUE is log 17's, that an early command changes nothing log 1's, and that an untrusted credential keeps no ride
count log 38's. Every finding kept carries its policy of this moment, and the fixed ones make the verdict ACTION (R75,
R77). -/
def Obligations.EngineTakesTheHeadEntry : Prop :=
  (∀ s : State, s.iq.entries = [] ∨ s.jcu.journey = none ∨ s.ven.engine ≠ .idle ∨ s.lif.power = .standby ∨
    freeSlots s.lif < 2 ∨ (s.ven.parked ≠ none ∧ ∀ e more, s.iq.entries = e :: more → e.origin ≠ .link) →
      exec .engineTake s = .next s) ∧
  ∀ (e : Entry) (more : List Entry) (j : Running) (s : State), s.resetN = true → s.iq.entries = e :: more →
    s.jcu.journey = some j → s.ven.engine = .idle → s.lif.power = .active → 2 ≤ freeSlots s.lif →
    e.origin = .link ∨ s.ven.parked = none →
    let lastStart := j.route.stops.length - 2
    let a := match j.position with
      | .running k => k
      | .atStop k => if k ≤ lastStart ∧ 2 ≤ j.route.stops.length then k else lastStart
    let ev : Evaluation :=
      { intake := e.intake, origin := e.origin, content := e.content, carriage := e.carriage, cls := e.cls,
        snapshot := { journey := s.jcu.number, epoch := j.epoch, route := j.route, a := a,
                      seconds := s.jcu.clock.seconds, delay := s.jcu.delay },
        readKey := if 9 ≤ e.content.length then
            some { issuer := fieldAt e.content 1 1, serial := fieldAt e.content 3 6 } else none,
        credential := none, findings := [], trust := .undecided, regStatus := .none, hasRecord := false,
        inspCount := 0, areaReading := none, quote := none, rideOutcome := .none, ridesRemaining := none,
        verdict := none }
    let taken : State :=
      if s.iq.hold = true ∧ more.length ≤ s.iq.low then
        { s with iq := { s.iq with entries := more, hold := false },
                 lif := produceSingleton (.intakeResume more.length s.iq.low) s.lif }
      else { s with iq := { s.iq with entries := more } }
    let inEngine := fun (engine : Engine) => ({ taken with ven := { s.ven with engine := engine } } : State)
    (decodeContent e.origin e.content = none →
      exec .engineTake s = .next (inEngine (.judging { ev with verdict := some .unreadable }))) ∧
    ∀ c, decodeContent e.origin e.content = some c →
      (∀ front back k, s.dcu.keys = front ++ k :: back → k.issuer = c.key.issuer → k.version = c.version →
        (∀ d ∈ front, ¬ (d.issuer = c.key.issuer ∧ d.version = c.version)) →
        let check : CheckInFlight :=
          { material := k.material, keyState := k.state, input := c.checkInput, value := c.checkValue }
        (k.state = .active →
          exec .engineTake s = .next (inEngine (.checking { ev with credential := some c } check))) ∧
        (k.state = .retiring → exec .engineTake s = .next
          (inEngine (.checking { ev with credential := some c,
                                         findings := [{ finding := .keyRetiring, policy := none }] } check)))) ∧
      (∀ found : Finding,
        (found = .issuerUnknown ∧ ∀ d ∈ s.dcu.keys, ¬ (d.issuer = c.key.issuer ∧ d.version = c.version)) ∨
        (found = .keyWithdrawn ∧ ∃ front back k, s.dcu.keys = front ++ k :: back ∧ k.issuer = c.key.issuer ∧
          k.version = c.version ∧ k.state = .withdrawn ∧
          ∀ d ∈ front, ¬ (d.issuer = c.key.issuer ∧ d.version = c.version)) →
        ∃ ev', exec .engineTake s = .next (inEngine (.judging ev')) ∧ ev'.trust = .untrusted ∧
          ev' = { ev with credential := some c, findings := ev'.findings, trust := ev'.trust, verdict := ev'.verdict } ∧
          ev'.verdictOk ∧ (∀ r ∈ ev'.findings, r.policy = some (s.ven.policyOf r.finding)) ∧
          (s.ven.tablesOk → ev'.verdict = some .action) ∧
          ∀ f, ev'.has f = true ↔ (f = found ∨ screenFinding c.key s.rsu = some f) ∧ s.ven.policyOf f ≠ .ignored)

/-- CHECK_COMPLETE with a mismatch: CHECK-MISMATCH is raised, the credential is untrusted, only SCREEN and POLICY run,
and the verdict waits at ISSUE; nothing but the engine changes (R15, R17, R60). That one step runs from here to ISSUE
is log 17's, the free check function log 15's; that the command changes nothing outside CHECKING is log 1's, and that an
untrusted credential keeps no ride count log 38's. Every finding kept carries its policy of this moment, and the fixed one
makes the verdict ACTION (R75, R77). -/
def Obligations.CheckMismatchIsUntrusted : Prop :=
  (∀ s : State, (∀ ev k, s.ven.engine ≠ .checking ev k) → exec .checkComplete s = .next s) ∧
  ∀ (ev : Evaluation) (check : CheckInFlight) (c : Credential) (s : State), s.resetN = true →
    s.ven.engine = .checking ev check → ev.credential = some c → (∀ f, ev.has f = true → f = .keyRetiring) →
    Config.keyedCheck check.material check.input ≠ check.value →
    ∃ ev', exec .checkComplete s = .next { s with ven := { s.ven with engine := .judging ev' } } ∧
      ev'.trust = .untrusted ∧
      ev' = { ev with findings := ev'.findings, trust := ev'.trust, verdict := ev'.verdict } ∧ ev'.verdictOk ∧
      (∀ r ∈ ev'.findings, r.policy = some (s.ven.policyOf r.finding)) ∧
      (s.ven.tablesOk → ev'.verdict = some .action) ∧
      ∀ f, ev'.has f = true ↔
        (f = .checkMismatch ∨ ev.has f = true ∨ screenFinding c.key s.rsu = some f) ∧ s.ven.policyOf f ≠ .ignored

/-- CHECK_COMPLETE with a match: the credential is trusted, and the evaluation that goes on to ISSUE, or is parked
with its write, has exactly the findings the rules raise and policy keeps, each with its policy of this moment, and the verdict
they give; no other unit changes but the register and the card line (R15, R17, R53, R60, R65 to R77, R105). That one step runs from here to
ISSUE is log 17's, the free check function log 15's. -/
def Obligations.TrustedFindingsAreThoseRaised : Prop :=
  ∀ (ev : Evaluation) (check : CheckInFlight) (c : Credential) (s : State), s.resetN = true →
    s.ven.engine = .checking ev check → ev.credential = some c → (∀ f, ev.has f = true → f = .keyRetiring) →
    Config.keyedCheck check.material check.input = check.value →
    ∃ t ev', exec .checkComplete s = .next t ∧
      (t.ven = { s.ven with engine := .judging ev' } ∨
        t.ven = { s.ven with engine := .idle, parked := some { ev := ev', completed := false } }) ∧
      ev'.trust = .trusted ∧ ev'.verdictOk ∧
      (∀ r ∈ ev'.findings, r.policy = some (s.ven.policyOf r.finding)) ∧
      (ev'.verdict = some .action ↔ ∃ f : Finding, f.raisedBy c ev s ∧ s.ven.policyOf f = .blocking) ∧
      (ev'.verdict = some .pass ↔ ∀ f : Finding, f.raisedBy c ev s → s.ven.policyOf f = .ignored) ∧
      (∀ f, ev'.has f = true ↔ ∃ r ∈ ev'.findings, r.finding = f) ∧
      (∀ f, ev'.has f = true ↔ f.raisedBy c ev s ∧ s.ven.policyOf f ≠ .ignored) ∧
      t = { s with ven := t.ven, irg := { s.irg with records := t.irg.records }, ciu := t.ciu }

/-- After a matched check the register holds the sighting: the record of the credential has the snapshot's time, the
entry's carriage and a count one higher, 1 for a new record, and the verdict reports that count and NEW or SEEN; with 1024
records held a new one takes the place of the oldest that may go, and where none may go nothing is recorded, FULL and count
0. A quote is made when SHORT-COVERAGE or CLASS-MISMATCH is left and the area is configured. And the whole of it: the next
state is that of CONSUME, on the register after the lookup and the update, of the evaluation with its findings weighed and
its quote computed (R60, R65, R78, R79, R102 to R104). That one step runs from here to ISSUE is log 17's, the free check
function log 15's. -/
def Obligations.SightingsAreRecorded : Prop :=
  ∀ (ev : Evaluation) (check : CheckInFlight) (c : Credential) (s : State), s.resetN = true →
    s.ven.engine = .checking ev check → ev.credential = some c → (∀ f, ev.has f = true → f = .keyRetiring) →
    ev.quote = none → ev.inspCount = 0 → Config.keyedCheck check.material check.input = check.value →
    let sn := ev.snapshot
    let known := findRecord c.key s.irg.records
    let looked := registerLookup c.key sn.seconds ev.carriage s.irg.records
    let entry := s.ven.areaOf (sn.route.stop sn.a).area
    let raised := fun (n : Nat) => if n < 255 then n + 1 else n
    let protects := fun (r : Record) => r.ride ≠ .none ∨ r.caseLink ≠ none
    (known.isSome = true ∨ s.irg.records.length < 1024 ∨ (∃ r ∈ s.irg.records, ¬ protects r) →
      ∃ t ev' r, exec .checkComplete s = .next t ∧
        (t.ven.engine = .judging ev' ∨ t.ven.parked = some { ev := ev', completed := false }) ∧
        findRecord c.key t.irg.records = some r ∧ r.lastSeen = sn.seconds ∧ r.lastCarriage = ev.carriage ∧
        (∀ old, known = some old → r.count = raised old.count ∧ ev'.regStatus = .seen) ∧
        (known = none → r.count = 1 ∧ ev'.regStatus = .new) ∧ ev'.inspCount = r.count ∧
        (∀ front back old, known = none → 1024 ≤ s.irg.records.length → s.irg.records = front ++ old :: back →
          (∀ d ∈ front, protects d) → ¬ protects old →
            t.irg.records.map (fun d => d.key) = (front ++ back).map (fun d => d.key) ++ [c.key])) ∧
    (known = none → 1024 ≤ s.irg.records.length → (∀ r ∈ s.irg.records, protects r) →
      ∃ t ev', exec .checkComplete s = .next t ∧ t.ven.engine = .judging ev' ∧ ev'.regStatus = .full ∧
        ev'.hasRecord = false ∧ ev'.inspCount = 0 ∧ t.irg = s.irg) ∧
    let inspected := if looked.2 = .full then looked.1 else looked.1.map (fun r => if r.key = c.key then
      { r with lastSeen := sn.seconds, lastCarriage := ev.carriage, count := raised r.count } else r)
    ∃ weighed : Evaluation,
      exec .checkComplete s = .next (consumeStage c weighed { s with irg := { s.irg with records := inspected } }) ∧
      weighed.verdictOk ∧ (∀ r ∈ weighed.findings, r.policy = some (s.ven.policyOf r.finding)) ∧
      (∀ f, weighed.has f = true ↔ f.raisedBy c ev s ∧ s.ven.policyOf f ≠ .ignored) ∧
      weighed =
        { ev with
          trust := .trusted
          findings := weighed.findings
          verdict := weighed.verdict
          regStatus := looked.2
          hasRecord := looked.2 ≠ .full
          inspCount := (if looked.2 = .full then 0 else raised (match known with
            | some r => r.count
            | none => 0))
          areaReading := some entry
          quote := (if entry.configured = true ∧ (weighed.has .shortCoverage = true ∨ weighed.has .classMismatch = true)
            then some (computeQuote
              { route := sn.route, a := sn.a, x := sn.a + 1, kind := c.kind, cls := c.cls, adults := c.adults,
                children := c.children, carriageClass := ev.cls, paid := known.bind (fun r => r.paid),
                upgradeHeld := known.any (fun r => r.upgrade), entry := entry, m1 := s.ven.m1 })
            else none) }

/-- CONSUME, row by row: which ride is taken, what the verdict reports of it, and when a card write starts and parks the
verdict, first writes and rewrites of a torn one alike (R79 to R81, R108, R110 to R112, R145). -/
def Obligations.ConsumeTakesTheRide : Prop :=
  ∀ (c : Credential) (ev : Evaluation) (s : State),
    let report := fun (outcome : RideOutcome) (remaining : Option Nat) (s : State) =>
      ({ s with ven := { s.ven with
          engine := .judging { ev with rideOutcome := outcome, ridesRemaining := remaining } } } : State)
    let withRide := fun (ride : RideState) => ({ s with irg := { s.irg with
      records := s.irg.records.map (fun r => if r.key = c.key then { r with ride := ride } else r) } } : State)
    let write := fun (k : Counter) =>
      let front := u8 (k.rides - 1) ++ u16 ((k.sequence + 1) % 65536)
      let block := front ++ u16 (crc16 (front ++ u48 c.key.serial)).toNat ++ List.replicate 11 0
      ({ withRide (.pending ((k.sequence + 1) % 65536)) with
          ven := { s.ven with engine := .idle, parked := some { ev := ev, completed := false } }
          ciu := { s.ciu with state := .writing, sending := s.ciu.sending ++ [.writeCounter s.ciu.tag block],
                              write := some { owner := .parkedVerdict, block := block, timer := none } } } : State)
    let queuedOn := fun (session : Nat) => s.ciu.held = true ∧ s.ciu.tag = session ∧ s.ciu.state = .queued
    (c.rides = none → consumeStage c ev s = report .none none s) ∧
    ∀ content, c.rides = some content →
      let current := match ev.origin with
        | .link => content
        | .card k _ => k.rides
      (ev.hasRecord = false → consumeStage c ev s = report .notWritten (some current) s) ∧
      ∀ r, ev.hasRecord = true → findRecord c.key s.irg.records = some r →
        ((∃ e, r.ride = .pending e) ∨ r.ride = .consumed →
          consumeStage c ev s = report .alreadyTaken (some current) s) ∧
        (r.ride = .none →
          (ev.verdict = some .action ∨ current = 0 → consumeStage c ev s = report .none (some current) s) ∧
          (ev.verdict ≠ some .action → 0 < current →
            (ev.origin = .link →
              consumeStage c ev s = report .takenToken (some (current - 1)) (withRide .consumed)) ∧
            (∀ k session, ev.origin = .card k session →
              (queuedOn session → consumeStage c ev s = write k) ∧
              (¬ queuedOn session → consumeStage c ev s = report .notWritten (some current) s)))) ∧
        (∀ expected, r.ride = .torn expected →
          (ev.origin = .link → consumeStage c ev s = report .torn (some current) s) ∧
          ∀ k session, ev.origin = .card k session →
            (¬ queuedOn session → consumeStage c ev s = report .torn (some current) s) ∧
            (queuedOn session → (k.sequence + 1) % 65536 = expected → k.sequence < 65536 → expected < 65536 →
              (1 ≤ current → consumeStage c ev s = write k) ∧
              (current = 0 → consumeStage c ev s = report .torn (some 0) s)) ∧
            (queuedOn session → (k.sequence + 1) % 65536 ≠ expected → k.sequence < 65536 → expected < 65536 →
              consumeStage c ev s = report .alreadyTaken (some current) (withRide .consumed)))

/-- ISSUE, of the evaluation in hand or of a completed parked verdict: it waits while no slot is free; then a case
opens for an ACTION verdict if a slot is FREE, with the next serial that no case in a slot has and with its fields from
the evaluation, its source, session, counter record and ride count among them; the VERDICT enters, the INSPECTION record is appended, the card is
released if it is still queued on that session, and the evaluation is discarded (R84, R85, R117, R118, R143). The findings
stand in the order of their codes. Which of
the two a command issues is its operand (log 18); that an early command changes nothing is log 1's choice. -/
def Obligations.IssueReportsTheVerdict : Prop :=
  Finding.all.map Finding.code = [1, 2, 3, 4, 5, 6, 7, 8, 9, 10, 11, 12, 13, 14, 15, 16, 17, 18, 19] ∧
  (∀ (ofParked : Bool) (s : State),
    freeSlots s.lif = 0 ∨ (ofParked = false ∧ ∀ ev, s.ven.engine ≠ .judging ev) ∨
      (ofParked = true ∧ ∀ p, s.ven.parked = some p → p.completed = false) → exec (.issue ofParked) s = .next s) ∧
  ∀ (ofParked : Bool) (ev : Evaluation) (v : Verdict) (s : State), s.resetN = true → 0 < freeSlots s.lif →
    (ofParked = true → s.ven.parked = some { ev := ev, completed := true }) →
    (ofParked = false → s.ven.engine = .judging ev) → ev.verdict = some v →
    let key := match ev.credential with
      | some c => some c.key
      | none => ev.readKey
    let findings := Finding.all.filter (fun f => ev.has f)
    let quote := ev.quote.map (fun q => (q.amount, q.endStop))
    let fromCard := match ev.origin with
      | .link => false
      | .card _ _ => true
    let finish := fun (serial : Option Nat) (s' : State) =>
      let report : VerdictReport :=
        { intake := ev.intake, fromCard := fromCard, journey := ev.snapshot.journey, key := key, verdict := v,
          findings := findings, regStatus := ev.regStatus, inspCount := ev.inspCount, rideOutcome := ev.rideOutcome,
          ridesRemaining := ev.ridesRemaining, quote := quote, caseSerial := serial, secIndex := ev.snapshot.a,
          epoch := ev.snapshot.epoch, carriage := ev.carriage, cls := ev.cls }
      let recorded := journal
        (.inspection ev.snapshot.journey fromCard key v findings quote serial (v == .action && serial.isNone)
          ev.rideOutcome ev.snapshot.a ev.carriage ev.cls)
        { s' with lif := { s'.lif with outbound := s'.lif.outbound ++ [.frame (.notice (.verdict report))] } }
      let card : Ciu := match ev.origin with
        | .link => s.ciu
        | .card _ session =>
          if s.ciu.held = true ∧ s.ciu.tag = session ∧ s.ciu.state = .queued then
            { s.ciu with state := .settled, sending := s.ciu.sending ++ [.release (releaseOf v)] }
          else s.ciu
      let engine : Ven := if ofParked then { s.ven with parked := none } else { s.ven with engine := .idle }
      ({ recorded with ven := engine, ciu := card } : State)
    (v ≠ .action ∨ ev.credential = none ∨ 4 ≤ s.ctb.cases.length + s.ctb.closedWaiting.length →
      exec (.issue ofParked) s = .next (finish none s)) ∧
    ∀ c, v = .action → ev.credential = some c → s.ctb.cases.length + s.ctb.closedWaiting.length < 4 →
      ∃ (serial : Nat) (opened : Case) (s' : State), exec (.issue ofParked) s = .next (finish (some serial) s') ∧
        s' = { s with
          ctb := { s.ctb with cases := s.ctb.cases ++ [opened],
                              nextSerial := (if serial < 65535 then serial + 1 else 1) }
          irg := { s.irg with records := s.irg.records.map (fun r =>
            if opened.linked = true ∧ r.key = c.key then { r with caseLink := some serial } else r) } } ∧
        (∀ d ∈ s.ctb.cases, d.serial ≠ serial) ∧ (∀ d ∈ s.ctb.closedWaiting, d.serial ≠ serial) ∧
        ((∀ d ∈ s.ctb.cases, d.serial ≠ s.ctb.nextSerial) → (∀ d ∈ s.ctb.closedWaiting, d.serial ≠ s.ctb.nextSerial) →
          serial = s.ctb.nextSerial) ∧
        (1 ≤ s.ctb.nextSerial → s.ctb.nextSerial ≤ 65535 →
          let inUse := fun (n : Nat) =>
            (∃ d ∈ s.ctb.cases, d.serial = n) ∨ ∃ d ∈ s.ctb.closedWaiting, d.serial = n
          let following := fun (k : Nat) => (s.ctb.nextSerial - 1 + k) % 65535 + 1
          ∃ k, serial = following k ∧ ¬ inUse serial ∧ ∀ m, m < k → inUse (following m)) ∧
        (opened.linked = true ↔ ev.hasRecord = true ∧
          ∃ r, findRecord c.key s.irg.records = some r ∧ r.caseLink = none) ∧
        opened.serial = serial ∧ opened.journey = ev.snapshot.journey ∧ opened.intake = ev.intake ∧
        opened.key = c.key ∧ opened.route = ev.snapshot.route ∧ opened.epoch = ev.snapshot.epoch ∧
        opened.a = ev.snapshot.a ∧ opened.quote = ev.quote ∧ opened.opened = s.jcu.clock.seconds ∧
        opened.deadline = s.jcu.clock.seconds + 60 * s.ctb.timeout ∧
        (ev.origin = .link → opened.origin = .link) ∧
        (∀ k session, ev.origin = .card k session →
          opened.origin = .card session (if ev.trust = .trusted then some k else none)) ∧
        (c.rides = none → opened.rides = none) ∧
        (∀ n, ev.trust = .trusted → c.rides = some n →
          opened.rides = some (match ev.origin with
            | .link => n
            | .card k _ => k.rides)) ∧
        (ev.trust ≠ .trusted → opened.basis = none ∧ opened.rides = none) ∧
        (ev.trust = .trusted → opened.basis = some
          { kind := c.kind, cls := c.cls, adults := c.adults, children := c.children, carriageClass := ev.cls })

/-! ### Cases (05, 07) -/

/-- CASE-RESOLVE: its refusals in their order; REFUSED closes the case and takes no ride; ACCEPTED takes the ride; CHARGED
first extends the paid span and sets the class upgrade; the reply precedes what the close causes (R121 to R124). The zero
for an absent ride count is log 26's, the count that REFUSED reports log 28's; that the amount
which R124 has the reply to CHARGED carry stands last, after the fields of R121, is log 43's. -/
def Obligations.CaseResolveDecides : Prop :=
  ∀ (tag : Byte) (rest : List RequestFrame) (serial decision : Nat) (s : State), serial < 65536 → decision < 256 →
    Ready 0x30 tag (u16 serial ++ u8 decision) rest s →
    let resolved := fun (c : Case) (outcome : CaseOutcome) (paid : List Byte) (r : State × RideOutcome × Option Nat) =>
      let reply := (0 : Byte) :: (u16 c.serial ++ u8 outcome.code ++ u8 r.2.1.code ++ u8 (r.2.2.getD 0) ++ paid)
      closeCase outcome r.2.1 r.2.2 c (r.1.answered 0x70 tag reply rest)
    ((∀ c ∈ s.ctb.cases, c.serial ≠ serial) → exec .caseResolve s = .next (s.answered 0x70 tag [5] rest)) ∧
    ∀ front back c, s.ctb.cases = front ++ c :: back → c.serial = serial → (∀ d ∈ front, d.serial ≠ serial) →
      (decision < 1 ∨ 3 < decision → exec .caseResolve s = .next (s.answered 0x70 tag [3] rest)) ∧
      (decision = 3 → c.linked = false ∨ c.quote = none →
        exec .caseResolve s = .next (s.answered 0x70 tag [2] rest)) ∧
      (decision = 2 → exec .caseResolve s = .next (resolved c .refused [] (s, .none, c.rides))) ∧
      (decision = 1 → exec .caseResolve s = .next (resolved c .accepted [] (takeCaseRide c s))) ∧
      (∀ q x, decision = 3 → c.linked = true → c.quote = some q → c.route.indexOf? q.endStop = some x →
        exec .caseResolve s = .next (resolved c .charged (u32 q.amount) (takeCaseRide c
          { s with irg := { s.irg with records := s.irg.records.map (fun r =>
              if r.key = c.key then
                { r with paid := some (extendPaid c.route c.a x r.paid), upgrade := r.upgrade || q.upgrade }
              else r) } })))

/-- The ride that a decision takes, row by row, with the card write it may start (R123, R125), and the paid span that
CHARGED leaves (R113). -/
def Obligations.CaseRideAndPaidSpan : Prop :=
  (∀ (c : Case) (s : State),
    let withRide := fun (ride : RideState) => ({ s with irg := { s.irg with
      records := s.irg.records.map (fun r => if r.key = c.key then { r with ride := ride } else r) } } : State)
    (c.rides = none → takeCaseRide c s = (s, .none, none)) ∧
    ∀ current, c.rides = some current →
      (c.linked = false → takeCaseRide c s = (s, .notWritten, some current)) ∧
      ∀ r, c.linked = true → findRecord c.key s.irg.records = some r →
        ((∃ e, r.ride = .pending e) ∨ r.ride = .consumed → takeCaseRide c s = (s, .alreadyTaken, some current)) ∧
        ((∃ e, r.ride = .torn e) → takeCaseRide c s = (s, .torn, some current)) ∧
        (r.ride = .none → current = 0 → takeCaseRide c s = (s, .none, some 0)) ∧
        (r.ride = .none → 0 < current → c.origin = .link →
          takeCaseRide c s = (withRide .consumed, .takenToken, some (current - 1))) ∧
        (∀ session k, r.ride = .none → 0 < current → c.origin = .card session (some k) →
          (s.ciu.held = true ∧ s.ciu.tag = session ∧ s.ciu.state = .settled →
            let front := u8 (k.rides - 1) ++ u16 ((k.sequence + 1) % 65536)
            let block := front ++ u16 (crc16 (front ++ u48 c.key.serial)).toNat ++ List.replicate 11 0
            takeCaseRide c s =
              ({ withRide (.pending ((k.sequence + 1) % 65536)) with
                  ctb := { s.ctb with
                    resolution := some { serial := c.serial, journey := c.journey, key := c.key, rides := current } }
                  ciu := { s.ciu with state := .writing, sending := s.ciu.sending ++ [.writeCounter s.ciu.tag block],
                                      write := some { owner := .resolutionWrite, block := block, timer := none } } },
                .writeStarted, some current)) ∧
          (¬ (s.ciu.held = true ∧ s.ciu.tag = session ∧ s.ciu.state = .settled) →
            takeCaseRide c s = (s, .notWritten, some current)))) ∧
  ∀ (r : Route) (a x : Nat) (p q : Stop), r.stops.Pairwise (fun m n => m.code ≠ n.code) → r.stops[a]? = some p →
    r.stops[x]? = some q → a < x →
    extendPaid r a x none = (p.code, q.code) ∧
    (∀ (ps pe : Nat) (m n : Stop), r.stops[ps]? = some m → r.stops[pe]? = some n →
      (ps ≤ x → a ≤ pe → extendPaid r a x (some (m.code, n.code)) =
        (if ps ≤ a then m.code else p.code, if x ≤ pe then n.code else q.code)) ∧
      (x < ps ∨ pe < a → extendPaid r a x (some (m.code, n.code)) = (p.code, q.code))) ∧
    ∀ m n : Nat, (∀ st ∈ r.stops, st.code ≠ m) ∨ (∀ st ∈ r.stops, st.code ≠ n) →
      extendPaid r a x (some (m, n)) = (p.code, q.code)

/-- A case closes: its record's link goes, CASE-END is appended, and CASE-CLOSED enters, or waits in the case's slot while
no slot is free or a case that closed before it waits; every case whose deadline the clock has reached, and no other, times
out, in the order the cases opened; and a waiting CASE-CLOSED enters once a slot is free, in the order the cases closed
(R119, R127). The count reported by a timeout is log 28's. That one command closes all that are due, and that a CASE-CLOSED
waits behind those that wait, is log 19's; that a command with nothing to do changes nothing log 1's. -/
def Obligations.CasesCloseAndTimeOut : Prop :=
  (∀ (outcome : CaseOutcome) (ride : RideOutcome) (remaining : Option Nat) (c : Case) (s : State),
    let quoted := c.quote.map (fun q => (q.amount, q.endStop))
    let closed : ClosedCase :=
      { serial := c.serial, journey := c.journey, intake := c.intake, key := c.key, outcome := outcome,
        quote := quoted, epoch := c.epoch, rideOutcome := ride, ridesRemaining := remaining }
    let ended := journal (.caseEnd c.serial c.journey c.key outcome quoted ride)
      { s with
        ctb := { s.ctb with cases := s.ctb.cases.filter (fun d => d.serial ≠ c.serial) }
        irg := { s.irg with records := s.irg.records.map (fun r =>
          if c.linked = true ∧ r.key = c.key then { r with caseLink := none } else r) } }
    (s.ctb.closedWaiting = [] → 0 < freeSlots ended.lif → closeCase outcome ride remaining c s =
      { ended with lif := { ended.lif with outbound := ended.lif.outbound ++ [.frame (.notice (.caseClosed closed))] } }) ∧
    (s.ctb.closedWaiting ≠ [] ∨ freeSlots ended.lif = 0 → closeCase outcome ride remaining c s =
      { ended with ctb := { ended.ctb with closedWaiting := ended.ctb.closedWaiting ++ [closed] } })) ∧
  (∀ s : State, s.resetN = true → s.jcu.clock.isSet = true →
    exec .caseDeadlineReached s = .next
      ((s.ctb.cases.filter (fun c => c.deadline ≤ s.jcu.clock.seconds)).foldl
        (fun u c => closeCase .timedOut .none c.rides c u) s)) ∧
  (∀ s : State, s.jcu.clock.isSet = false ∨ (∀ c ∈ s.ctb.cases, s.jcu.clock.seconds < c.deadline) →
    exec .caseDeadlineReached s = .next s) ∧
  (∀ (closed : ClosedCase) (more : List ClosedCase) (s : State), s.resetN = true →
    s.ctb.closedWaiting = closed :: more → 0 < freeSlots s.lif →
      exec .caseClosedQueued s = .next
        { s with ctb := { s.ctb with closedWaiting := more },
                 lif := { s.lif with outbound := s.lif.outbound ++ [.frame (.notice (.caseClosed closed))] } }) ∧
  ∀ s : State, s.ctb.closedWaiting = [] ∨ freeSlots s.lif = 0 → exec .caseClosedQueued s = .next s

/-- CASE-QUOTE: its refusals in their order, and the new current quote, computed with the record, the area's entry and M1
as they stand now and answered field by field (R86, R97). -/
def Obligations.CaseQuoteRequotes : Prop :=
  ∀ (tag : Byte) (rest : List RequestFrame) (serial code : Nat) (s : State), serial < 65536 → code < 65536 →
    Ready 0x31 tag (u16 serial ++ u16 code) rest s →
    ((∀ c ∈ s.ctb.cases, c.serial ≠ serial) → exec .caseQuote s = .next (s.answered 0x71 tag [5] rest)) ∧
    ∀ front back c, s.ctb.cases = front ++ c :: back → c.serial = serial →
      (∀ d ∈ front ++ back, d.serial ≠ serial) →
      let entry := s.ven.areaOf (c.route.stop c.a).area
      ((∀ st ∈ c.route.stops, st.code ≠ code) → exec .caseQuote s = .next (s.answered 0x71 tag [3] rest)) ∧
      ∀ x, c.route.indexOf? code = some x →
        (x ≤ c.a → exec .caseQuote s = .next (s.answered 0x71 tag [3] rest)) ∧
        (c.a < x → c.basis = none ∨ entry.configured = false →
          exec .caseQuote s = .next (s.answered 0x71 tag [2] rest)) ∧
        (∀ b r, c.a < x → c.basis = some b → entry.configured = true →
          r = (if c.linked = true then findRecord c.key s.irg.records else none) →
          let q := computeQuote
            { route := c.route, a := c.a, x := x, kind := b.kind, cls := b.cls, adults := b.adults,
              children := b.children, carriageClass := b.carriageClass, paid := r.bind (fun r => r.paid),
              upgradeHeld := r.any (fun r => r.upgrade), entry := entry, m1 := s.ven.m1 }
          exec .caseQuote s = .next
            (({ s with ctb := { s.ctb with cases := front ++ { c with quote := some q } :: back } } : State).answered
              0x71 tag (0 :: (u16 serial ++ (u32 q.amount ++ u16 q.endStop ++ u16 q.kmShort ++ u16 q.kmUp ++
                u8 (if q.upgrade then 1 else 0) ++ u8 (if q.capped then 1 else 0) ++ u8 q.area))) rest))

/-! ### The card line (08) -/

/-- CARD_UP in ABSENT starts a read under a new session tag, or is answered BUSY, which is reported, after a wake in
STANDBY unless quiet errors apply; in any other state it is a CARD_DOWN and then a CARD_UP (R135 to R137, R150). The image
that a BUSY end keeps is log 38's. -/
def Obligations.CardUpStartsARead : Prop :=
  ∀ (idle : Bool) (identifier : List Byte) (s : State), s.resetN = true → s.ciu.awaitsGap = false →
    identifier.length = 7 →
    let up := Instr.cardUp idle (cardFrameBytes 0x01 identifier)
    let busy := fun (lif : Lif) =>
      ({ s with
          lif := lif
          ciu := { s.ciu with identifier := some identifier, state := .settled, held := false, readTimer := none,
                              sending := s.ciu.sending ++ [.release .error] } } : State)
    let event := Notice.cardEvent
      { event := .busy, session := none, identifier := some identifier, count := none, state := .settled }
    let refused := (∀ j, s.jcu.journey = some j → j.closing = true) ∨ 16 ≤ s.iq.entries.length
    (∀ j, s.ciu.state = .absent → s.jcu.journey = some j → j.closing = false → s.iq.entries.length < 16 →
      exec up s = .next
        { s with ciu := { s.ciu with state := .reading, tag := (s.ciu.tag + 1) % 65536, held := true,
                                     identifier := some identifier, image := [], readTimer := none,
                                     sending := s.ciu.sending ++ [.readImage ((s.ciu.tag + 1) % 65536)] } }) ∧
    (s.ciu.state = .absent → refused → s.lif.power = .active →
      exec up s = .next (busy (produceSingleton event s.lif))) ∧
    (s.ciu.state = .absent → refused → s.lif.power = .standby → s.ciu.quiet = true →
      exec up s = .next (busy s.lif)) ∧
    (s.ciu.state = .absent → refused → s.lif.power = .standby → s.ciu.quiet = false →
      exec up s = .next (busy (produceSingleton event
        (produceWaiting (.wake .card) { s.lif with power := .active, standbyToSend := 0 })))) ∧
    ∀ t, s.ciu.ok → s.ciu.state ≠ .absent → exec (.cardDown idle (cardFrameBytes 0x03 [])) s = .next t →
      t.ciu.state = .absent ∧ exec up s = exec up t

/-- BLOCK: ignored outside READING; the block expected is stored and restarts the block timer; any other index ends
the read; and block 5 completes it, with FORMAT for a bad counter CRC or length, BUSY where the Intake Queue cannot
take it, and otherwise an entry with the content, the counter, the session and the carriage of this instant. An end with
an error is reported, after a wake in STANDBY, and neither counted nor reported in STANDBY with quiet errors (R138 to
R141, R150). The times as counts of milliseconds are log 13's, the image that a BUSY end keeps log 38's. -/
def Obligations.BlocksMakeAnEntry : Prop :=
  ∀ (idle : Bool) (index : Byte) (data : List Byte) (s : State), s.resetN = true → s.ciu.awaitsGap = false →
    data.length = 16 →
    let received := Instr.block idle (cardFrameBytes 0x02 (index :: data))
    let stored := s.ciu.image ++ [data]
    let content := (stored.take 5).flatten
    let counter : Counter := { rides := fieldAt data 0 1, sequence := fieldAt data 1 2 }
    let sound := (crc16 (data.take 3 ++ (content.drop 3).take 6)).toNat = fieldAt data 3 2
    let silent := s.lif.power = .standby ∧ s.ciu.quiet = true
    let woken := if s.lif.power = .standby then
        produceWaiting (.wake .card) { s.lif with power := .active, standbyToSend := 0 }
      else s.lif
    let failed := fun (event : CardEventKind) (session count : Option Nat) (counts : ErrorCounts) =>
      let notice := Notice.cardEvent { event := event, session := session, identifier := s.ciu.identifier,
                                       count := count, state := .settled }
      ({ s with
          lif := (if silent then s.lif else produceSingleton notice woken)
          ciu := { s.ciu with state := .settled, held := false, readTimer := none,
                              counts := (if silent then s.ciu.counts else counts),
                              sending := s.ciu.sending ++ [.release .error],
                              image := (if event = .busy then stored else []) } } : State)
    (s.ciu.state ≠ .reading → exec received s = .next s) ∧
    (s.ciu.state = .reading →
      (index.toNat = s.ciu.image.length → index.toNat < 5 → exec received s = .next
        { s with ciu := { s.ciu with image := stored, readTimer := some (s.timebase + 50) } }) ∧
      (index.toNat ≠ s.ciu.image.length ∨ 5 < index.toNat →
        let count := if s.ciu.counts.sequence < 65535 then s.ciu.counts.sequence + 1 else s.ciu.counts.sequence
        exec received s = .next
          (failed .sequence (some s.ciu.tag) (some count) { s.ciu.counts with sequence := count })) ∧
      (index.toNat = 5 → s.ciu.image.length = 5 → ¬ sound ∨ 80 < fieldAt content 9 1 →
        let count := if s.ciu.counts.format < 65535 then s.ciu.counts.format + 1 else s.ciu.counts.format
        exec received s = .next
          (failed .format (some s.ciu.tag) (some count) { s.ciu.counts with format := count })) ∧
      (index.toNat = 5 → s.ciu.image.length = 5 → sound → fieldAt content 9 1 ≤ 80 →
        (∀ j, s.jcu.journey = some j → j.closing = true) ∨ 16 ≤ s.iq.entries.length →
          exec received s = .next (failed .busy none none s.ciu.counts)) ∧
      (∀ j, index.toNat = 5 → s.ciu.image.length = 5 → sound → fieldAt content 9 1 ≤ 80 →
        s.jcu.journey = some j → j.closing = false → s.iq.entries.length < 16 →
        let number := (s.iq.counter + 1) % 65536
        let entry : Entry := { intake := number, origin := .card counter s.ciu.tag, content := content,
                               carriage := s.jcu.carriage, cls := s.jcu.cls, arrival := s.jcu.clock.seconds }
        let count := s.iq.entries.length + 1
        let held := s.iq.hold = false ∧ s.iq.high ≤ count
        exec received s = .next
          { s with
            ciu := { s.ciu with state := .queued, image := stored, readTimer := none }
            iq := { s.iq with entries := s.iq.entries ++ [entry], counter := number, hold := s.iq.hold || held }
            lif := if held then produceSingleton (.intakeHold count s.iq.high) woken else woken }))

/-- CARD_DOWN outside WRITING, and READ_TIMER_EXPIRY: what each ends and reports (R139, R141, R142), after a wake in
STANDBY, and without a count or a report in STANDBY with quiet errors (R150). The identifier that REMOVED-EARLY carries is
log 27's, the image kept outside a read log 38's; that an expiry which comes too early changes nothing is log 1's choice,
the times as counts of milliseconds log 13's. -/
def Obligations.CardLeavesOrFallsSilent : Prop :=
  ∀ (idle : Bool) (s : State), s.resetN = true →
    let down := Instr.cardDown idle (cardFrameBytes 0x03 [])
    let silent := s.lif.power = .standby ∧ s.ciu.quiet = true
    let woken := if s.lif.power = .standby then
        produceWaiting (.wake .card) { s.lif with power := .active, standbyToSend := 0 }
      else s.lif
    let reported := fun (kind : CardEventKind) (count : Option Nat) (state : CardState) =>
      let event := Notice.cardEvent { event := kind, session := some s.ciu.tag, identifier := s.ciu.identifier,
                                      count := count, state := state }
      if silent then s.lif else produceSingleton event woken
    let away := fun (lif : Lif) (image : List (List Byte)) (timer : Option Nat) =>
      ({ s with lif := lif, ciu := { s.ciu with state := .absent, held := false, identifier := none, image := image,
                                                readTimer := timer } } : State)
    (s.ciu.awaitsGap = false →
      (s.ciu.state = .absent → exec down s = .next s) ∧
      (s.ciu.state = .queued ∨ s.ciu.state = .settled →
        exec down s = .next (away s.lif s.ciu.image s.ciu.readTimer)) ∧
      (s.ciu.state = .reading → exec down s = .next (away (reported .removedEarly none .absent) [] none))) ∧
    (s.ciu.state ≠ .reading ∨ s.ciu.readTimer = none ∨ (∃ due, s.ciu.readTimer = some due ∧ s.timebase < due) →
      exec .readTimerExpiry s = .next s) ∧
    ∀ due, s.ciu.state = .reading → s.ciu.readTimer = some due → due ≤ s.timebase →
      let count := if s.ciu.counts.timeout < 65535 then s.ciu.counts.timeout + 1 else s.ciu.counts.timeout
      exec .readTimerExpiry s = .next
        { s with
          lif := reported .timeout (some count) .settled
          ciu := { s.ciu with state := .settled, held := false, image := [], readTimer := none,
                              counts := (if silent then s.ciu.counts else { s.ciu.counts with timeout := count }),
                              sending := s.ciu.sending ++ [.release .error] } }

/-- A frame of the card line is well formed when it is made of a kind the front end sends, its length, a body of the size
and the values of that kind, and the check byte. A frame that is not, whichever row brings it, a frame cut short and a byte
without its stop bit are counted and reported in every state, after a wake in STANDBY unless quiet errors apply, and end a
read in progress; a well-formed frame does nothing by a row that is not its own. After a FRAMING error bytes are discarded
until the line has been idle (R131 to R133, R141, R148, R150, R189). The rows' frames as operands are log 5's, the idle gap
log 6's, and that the receiver does not wait for a gap after a CHECK error log 47's. -/
def Obligations.CardErrorsAreCounted : Prop :=
  let wellFormed := fun (kind : Nat) (frame : List Byte) => ∃ body, frame = cardFrameBytes kind body ∧
    ((kind = 0x01 ∧ body.length = 7) ∨ (kind = 0x02 ∧ body.length = 17) ∨ (kind = 0x03 ∧ body = []) ∨
      (kind = 0x04 ∧ (body = [0x01] ∨ body = [0x02])))
  let rows := fun (idle : Bool) (frame : List Byte) =>
    [(0x01, Instr.cardUp idle frame), (0x02, .block idle frame), (0x03, .cardDown idle frame),
      (0x04, .written idle frame), (0x00, .cardCheckError idle frame)]
  (∀ (c : Instr) (kind : CardEventKind) (s : State), s.resetN = true →
    ((kind = .check ∧ s.ciu.awaitsGap = false ∧ ∃ idle, c = .cardFrameCutShort idle ∨
        ∃ k frame, (k, c) ∈ rows idle frame ∧ ∀ k', ¬ wellFormed k' frame) ∨
      (kind = .framing ∧ c = .cardFramingError)) →
    let before := if kind = .check then s.ciu.counts.check else s.ciu.counts.framing
    let count := if before < 65535 then before + 1 else before
    let counts : ErrorCounts :=
      if kind = .check then { s.ciu.counts with check := count } else { s.ciu.counts with framing := count }
    let reading := s.ciu.state = .reading
    let ended := fun (ciu : Ciu) =>
      let failed : Ciu := { ciu with state := .settled, held := false, image := [], readTimer := none,
                                     sending := ciu.sending ++ [.release .error] }
      ({ (if reading then failed else ciu) with awaitsGap := kind = .framing } : Ciu)
    let event := Notice.cardEvent
      { event := kind, session := (if reading then some s.ciu.tag else none), identifier := s.ciu.identifier,
        count := some count, state := (if reading then .settled else s.ciu.state) }
    (s.lif.power = .active → exec c s = .next
      { s with lif := produceSingleton event s.lif, ciu := ended { s.ciu with counts := counts } }) ∧
    (s.lif.power = .standby → s.ciu.quiet = false → exec c s = .next
      { s with lif := produceSingleton event
                 (produceWaiting (.wake .card) { s.lif with power := .active, standbyToSend := 0 }),
               ciu := ended { s.ciu with counts := counts } }) ∧
    (s.lif.power = .standby → s.ciu.quiet = true → exec c s = .next { s with ciu := ended s.ciu })) ∧
  (∀ (idle : Bool) (frame : List Byte) (k k' : Nat) (c : Instr) (s : State), s.ciu.awaitsGap = false →
    (k, c) ∈ rows idle frame → wellFormed k' frame → k' ≠ k → exec c s = .next s) ∧
  ∀ (frame : List Byte) (k : Nat) (s : State), s.resetN = true → s.ciu.awaitsGap = true →
    let listening : State := { s with ciu := { s.ciu with awaitsGap := false } }
    (∀ c, (k, c) ∈ rows false frame → exec c s = .next s) ∧
    (∀ c, (k, c) ∈ rows true frame → exec c s = exec c listening) ∧
    exec (.cardFrameCutShort false) s = .next listening ∧
    exec (.cardFrameCutShort true) s = exec (.cardFrameCutShort true) listening

/-- The end of a card write, by WRITTEN, by its timer or by CARD_DOWN: the record becomes CONSUMED or TORN, the owner
completes the parked verdict or appends RIDE, RELEASE is sent, and the unit is SETTLED or, after CARD_DOWN, ABSENT; a
WRITTEN outside WRITING and a timer that is not due change nothing; the timer ends a write also while the receiver waits
for a gap after a FRAMING error (R83, R109, R125, R132, R146, R147). That a command which comes too early changes nothing is
log 1's choice, the times as counts of milliseconds log 13's; that a parked verdict which RIDE-TORN alone
makes ACTION loses also the quote of a noted finding is log 42's reading. -/
def Obligations.WritesEnd : Prop :=
  (∀ (idle : Bool) (result : Byte) (s : State), s.ciu.awaitsGap = false → s.ciu.state ≠ .writing →
    result ∈ [0x01#8, 0x02#8] → exec (.written idle (cardFrameBytes 0x04 [result])) s = .next s) ∧
  (∀ s : State, s.ciu.state ≠ .writing → exec .writeTimerExpiry s = .next s) ∧
  (∀ (w : WriteRecord) (s : State), s.ciu.write = some w →
    w.timer = none ∨ (∃ due, w.timer = some due ∧ s.timebase < due) → exec .writeTimerExpiry s = .next s) ∧
  ∀ (c : Instr) (idle done down : Bool) (w : WriteRecord) (s : State), s.resetN = true →
    s.ciu.awaitsGap = false ∨ c = .writeTimerExpiry → s.ciu.state = .writing → s.ciu.write = some w →
    ((c = .written idle (cardFrameBytes 0x04 [0x01]) ∧ done = true ∧ down = false) ∨
      (c = .written idle (cardFrameBytes 0x04 [0x02]) ∧ done = false ∧ down = false) ∨
      (c = .cardDown idle (cardFrameBytes 0x03 []) ∧ done = false ∧ down = true) ∨
      (c = .writeTimerExpiry ∧ done = false ∧ down = false ∧ ∃ due, w.timer = some due ∧ due ≤ s.timebase)) →
    let ended := fun (ride : RideState) =>
      match ride with
      | .pending e => if done then RideState.consumed else .torn e
      | other => if done then RideState.consumed else other
    let moved := fun (key : CredKey) =>
      ({ s.irg with records := s.irg.records.map (fun r =>
          if r.key = key then { r with ride := ended r.ride } else r) } : Irg)
    let after := fun (outcome : ReleaseOutcome) =>
      let settled : Ciu :=
        { s.ciu with write := none, state := .settled, sending := s.ciu.sending ++ [.release outcome] }
      if down then { settled with state := .absent, held := false, identifier := none } else settled
    let finished := fun (ev : Evaluation) => ({ s.ven with parked := some { ev := ev, completed := true } } : Ven)
    (∀ ev cred counter session v, w.owner = .parkedVerdict → s.ven.parked = some { ev := ev, completed := false } →
      ev.credential = some cred → ev.origin = .card counter session → ev.verdict = some v →
      (done = true → exec c s = .next
        { s with
          irg := moved cred.key
          ven := finished { ev with rideOutcome := .written, ridesRemaining := some (counter.rides - 1) }
          ciu := after (releaseOf v) }) ∧
      (done = false → s.ven.policyOf .rideTorn = .ignored → exec c s = .next
        { s with
          irg := moved cred.key
          ven := finished { ev with rideOutcome := .torn, ridesRemaining := some counter.rides }
          ciu := after (releaseOf v) }) ∧
      (∀ p v', done = false → s.ven.policyOf .rideTorn = p → p ≠ .ignored →
        v' = (if p = .blocking ∨ ∃ r ∈ ev.findings, r.policy = some .blocking then .action else .passNoted) →
        exec c s = .next
          { s with
            irg := moved cred.key
            ven := finished { ev with rideOutcome := .torn, ridesRemaining := some counter.rides, verdict := some v',
                                      quote := (if v' = .action ∧ ∀ r ∈ ev.findings, r.policy ≠ some .blocking
                                        then none else ev.quote),
                                      findings := ev.findings ++ [{ finding := .rideTorn, policy := some p }] }
            ciu := after (releaseOf v') })) ∧
    (∀ entry, w.owner = .resolutionWrite → s.ctb.resolution = some entry → exec c s = .next
      (journal (.ride entry.serial entry.journey entry.key (if done then .written else .torn)
          (if done then entry.rides - 1 else entry.rides))
        { s with
          irg := moved entry.key
          ctb := { s.ctb with resolution := none }
          ciu := after (if done then .pass else .note) }))

/-- CARD_FRAME_SENT: the frame leaves, as kind, length, body and the check byte that makes the sum of its bytes 0 modulo
256: READ-IMAGE with no body, WRITE-COUNTER with its block, RELEASE with its outcome, which is PASS, NOTE, ACTION or ERROR
by the verdict (R131, R143, R189); the first-block timer of 100 ms starts with its READ-IMAGE, the write timer of 300 ms with
its WRITE-COUNTER (R139, R145). The frame's session is log 30's, that a read which has stored a block starts no first-block
timer log 44's, the times as counts of milliseconds log 13's; that the command changes nothing with nothing to send is log
1's choice. -/
def Obligations.CardFramesStartTimers : Prop :=
  (∀ s : State, s.ciu.sending = [] → exec .cardFrameSent s = .next s) ∧
  (∀ (kind : Nat) (body : List Byte), ∃ check : Byte,
    cardFrameBytes kind body = BitVec.ofNat 8 kind :: BitVec.ofNat 8 body.length :: (body ++ [check]) ∧
    (cardFrameBytes kind body).foldl (fun acc b => acc + b) 0 = 0) ∧
  (∀ (session : Nat) (block : List Byte) (outcome : ReleaseOutcome),
    (CardFrame.readImage session).bytes = cardFrameBytes 0x11 [] ∧
    (CardFrame.writeCounter session block).bytes = cardFrameBytes 0x12 block ∧
    (CardFrame.release outcome).bytes = cardFrameBytes 0x13 [BitVec.ofNat 8 outcome.code]) ∧
  [ReleaseOutcome.pass, .note, .action, .error].map ReleaseOutcome.code = [1, 2, 3, 4] ∧
  [Verdict.pass, .passNoted, .action, .unreadable].map releaseOf = [.pass, .note, .action, .error] ∧
  ∀ (f : CardFrame) (more : List CardFrame) (s : State), s.resetN = true → s.ciu.sending = f :: more →
    let sent := fun (ciu : Ciu) =>
      ({ s with ciu := { ciu with sending := more }, cardSent := s.cardSent ++ [f.bytes] } : State)
    (∀ outcome, f = .release outcome → exec .cardFrameSent s = .next (sent s.ciu)) ∧
    (∀ session, f = .readImage session → s.ciu.state = .reading → s.ciu.tag = session → s.ciu.image = [] →
      exec .cardFrameSent s = .next (sent { s.ciu with readTimer := some (s.timebase + 100) })) ∧
    (∀ session, f = .readImage session → s.ciu.state ≠ .reading ∨ s.ciu.tag ≠ session ∨ s.ciu.image ≠ [] →
      exec .cardFrameSent s = .next (sent s.ciu)) ∧
    (∀ session block w, f = .writeCounter session block → s.ciu.state = .writing → s.ciu.tag = session →
      s.ciu.write = some w →
      exec .cardFrameSent s = .next (sent { s.ciu with write := some { w with timer := some (s.timebase + 300) } })) ∧
    (∀ session block, f = .writeCounter session block → s.ciu.state ≠ .writing ∨ s.ciu.tag ≠ session →
      exec .cardFrameSent s = .next (sent s.ciu))

/-! ### The journal (10) -/

/-- An append: dropped without a number at the last sequence, dropped with its number spent when the ring is full, and
otherwise stored with the notices of the threshold and of the batch, in that order (R175 to R177, R180). The times as
counts of milliseconds are the model's form (log 13). A unit's record carries the whole seconds of a set clock, or 0, and
the append's notices are produced in their order (R173, R175). -/
def Obligations.JournalAppendStoresOrDrops : Prop :=
  (∀ (body : JournalBody) (s : State),
    let appended := s.jnl.append (if s.jcu.clock.isSet = true then s.jcu.clock.seconds else 0) s.timebase body
    tariffTime s = (if s.jcu.clock.isSet = true then s.jcu.clock.seconds else 0) ∧
    journal body s =
      { s with jnl := appended.1, lif := appended.2.foldl (fun l n => produceSingleton n l) s.lif }) ∧
  ∀ (time now : Nat) (body : JournalBody) (j : Jnl), j.ok →
    let n := j.lastSequence + 1
    let drops := min 65535 (j.dropCount + 1)
    (j.lastSequence = 4294967295 → j.append time now body =
      ({ j with dropCount := drops, fullArmed := false },
        if j.fullArmed then [.journalFull 4294967295 drops] else [])) ∧
    (j.lastSequence < 4294967295 → j.records.length = 2048 → j.append time now body =
      ({ j with lastSequence := n, dropCount := drops, fullArmed := false },
        if j.fullArmed then [.journalFull n drops] else [])) ∧
    (j.lastSequence < 4294967295 → j.records.length < 2048 →
      let free := 2047 - j.records.length
      let low := j.lowArmed = true ∧ free = j.lowThreshold
      let oldest := match j.records with
        | [] => n
        | r :: _ => r.sequence
      let lowNotice := if low then [Notice.journalLow free j.lowThreshold oldest n] else []
      let count := min 65535 (j.unreported + 1)
      let stored : Jnl :=
        { j with lastSequence := n, lowArmed := j.lowArmed && free ≠ j.lowThreshold,
                 records := j.records ++ [{ sequence := n, time := time, body := body }] }
      (j.quietSetting = 0 → j.append time now body =
        ({ stored with unreported := 0 }, lowNotice ++ [.journalReady count n])) ∧
      (0 < j.quietSetting → j.append time now body =
        ({ stored with
            unreported := count
            quietTimer := some (now + 1000 * j.quietSetting)
            absoluteTimer := (if j.quietTimer = none ∧ j.absoluteTimer = none then
                (if j.absoluteSetting = 0 then none else some (now + 1000 * j.absoluteSetting))
              else j.absoluteTimer) },
          lowNotice)))

/-- JOURNAL-READ answers up to 7 records from the first at or above the given sequence, and ends the batch when it
reaches the newest; JOURNAL-RELEASE frees the records up to the value and arms the notices again; an expiry produces
JOURNAL-READY and stops both timers (R178, R179, R181). A record is 32 bytes: its sequence, its kind and its tariff time,
then the kind's fields in their layout, and zeros; the findings are one bit each (R174, R192). That an expiry which comes too
early changes nothing is log 1's choice, the times as counts of milliseconds log 13's. -/
def Obligations.JournalReadReleaseReport : Prop :=
  (∀ r : JournalRecord, r.bytes.length = 32 ∧
    ∃ n, r.bytes = laidOut ([(4, r.sequence), (1, r.body.layout.1), (4, r.time)] ++ r.body.layout.2) ++
      List.replicate n 0) ∧
  (∀ found : List Finding, findingsWord found < 524288 ∧
    ∀ f, (findingsWord found).testBit (f.code - 1) = decide (f ∈ found)) ∧
  (∀ (tag : Byte) (rest : List RequestFrame) (start : Nat) (skipped found later : List JournalRecord) (s : State),
    start < 4294967296 → Ready 0x38 tag (u32 start) rest s → s.jnl.records = skipped ++ (found ++ later) →
    (∀ r ∈ skipped, r.sequence < start) → (∀ r ∈ found ++ later, start ≤ r.sequence) →
    (found.length = 7 ∨ (found.length < 7 ∧ later = [])) → s.jnl.ok →
    let oldest := match s.jnl.records with
      | [] => 0
      | r :: _ => r.sequence
    let reply := 0 :: (u8 found.length ++ u32 s.jnl.lastSequence ++ u32 oldest ++ found.flatMap JournalRecord.bytes)
    (later = [] → found ≠ [] ∨ s.jnl.records = [] → exec .journalRead s = .next
      (({ s with jnl := { s.jnl with quietTimer := none, absoluteTimer := none, unreported := 0 } } : State).answered
        0x78 tag reply rest)) ∧
    (later ≠ [] ∨ (found = [] ∧ s.jnl.records ≠ []) →
      exec .journalRead s = .next (s.answered 0x78 tag reply rest))) ∧
  (∀ (tag : Byte) (rest : List RequestFrame) (upTo : Nat) (freed kept : List JournalRecord) (s : State),
    upTo < 4294967296 → Ready 0x39 tag (u32 upTo) rest s → s.jnl.ok → s.jnl.records = freed ++ kept →
    (∀ r ∈ freed, r.sequence ≤ upTo) → (∀ r ∈ kept, upTo < r.sequence) →
    let oldest := match kept with
      | [] => 0
      | r :: _ => r.sequence
    let free := 2048 - kept.length
    let reply := 0 :: (u16 freed.length ++ u32 oldest ++ u16 free)
    (freed = [] → exec .journalRelease s = .next (s.answered 0x79 tag reply rest)) ∧
    (freed ≠ [] → exec .journalRelease s = .next
      (({ s with jnl := { s.jnl with records := kept, fullArmed := true,
                                     lowArmed := s.jnl.lowArmed || s.jnl.lowThreshold < free } } : State).answered
        0x79 tag reply rest))) ∧
  ∀ (c : Instr) (timer : Option Nat) (s : State), s.resetN = true →
    (c, timer) ∈ [(Instr.quietTimerExpiry, s.jnl.quietTimer), (.absoluteTimerExpiry, s.jnl.absoluteTimer)] →
    (∀ due, timer = some due → due ≤ s.timebase → exec c s = .next
      { s with
        jnl := { s.jnl with quietTimer := none, absoluteTimer := none, unreported := 0 }
        lif := produceSingleton (.journalReady s.jnl.unreported s.jnl.lastSequence) s.lif }) ∧
    (timer = none ∨ (∃ due, timer = some due ∧ s.timebase < due) → exec c s = .next s)

/-! ### What every step keeps -/

/-- Every step keeps the link in order: its buffer and queue within their sizes with no slot left reserved, the pending
notices singletons, one of a kind and in order, at most two waiting (R156, R157, R159 to R161); and the Intake Queue
within 16 entries with HOLD as its marks leave it (R162 to R165). -/
def Obligations.LinkAndIntakeStayInOrder : Prop :=
  ∀ s t : State, step s = .next t → (s.lif.ok → t.lif.ok) ∧ (s.iq.ok → t.iq.ok)

/-- Every step keeps the journey context in order: the position on a validated route, the clock set while a journey runs
and within its range, delay 0 in NONE (R18 to R25, R28, R33 to R37); and the journal: at most 2048 records with rising
sequences up to the last one spent (R172, R175). -/
def Obligations.JourneyAndJournalStayInOrder : Prop :=
  ∀ s t : State, step s = .next t → (s.jcu.ok → t.jcu.ok) ∧ (s.jnl.ok → t.jnl.ok)

/-- Every step keeps the Issuer Key Table, the Revocation Screen and the engine's tables in order, the fixed findings at
their policies (R10, R43, R45, R49, R62, R75, R91); every verdict that waits is the one its findings give (R9, R77), and an
evaluation whose check is in flight has at most KEY-RETIRING and as yet no quote and no count (R14, R59, R60). -/
def Obligations.TablesAndVerdictsStayInOrder : Prop :=
  ∀ s t : State, step s = .next t →
    (s.dcu.ok → t.dcu.ok) ∧ (s.rsu.ok → t.rsu.ok) ∧ (s.ven.tablesOk → t.ven.tablesOk) ∧
      (s.ven.verdictsOk → t.ven.verdictsOk)

/-- Every step keeps the register within 1024 records of distinct keys, the Case Table within its four slots with
distinct serials, and the links of the two naming each other (R99, R100, R115 to R117). -/
def Obligations.RegisterAndCasesStayInOrder : Prop :=
  ∀ s t : State, step s = .next t → s.irg.ok → s.ctb.ok → linksOk s.irg.records s.ctb.cases →
    t.irg.ok ∧ t.ctb.ok ∧ linksOk t.irg.records t.ctb.cases

/-- Every step keeps the card unit in order, with a write in flight in WRITING alone, and keeps the one owner of a write:
a verdict parked and not completed, or the resolution write entry (R58, R81, R125, R134, R139, R145). -/
def Obligations.CardAndWritesStayInOrder : Prop :=
  ∀ s t : State, step s = .next t → s.ciu.ok → writesOk s.ciu s.ven s.ctb →
    t.ciu.ok ∧ writesOk t.ciu t.ven t.ctb

/-- The frame of every command, unit by unit: a command that the unit's rules do not name leaves the whole unit as it
is; no command touches the queue of waiting commands, or the model's own records but where it sends or counts. The
table of which command reaches which unit is drawn from the rules (Safety.lean). -/
def Obligations.UnitsChangeByTheirCommands : Prop :=
  ∀ (c : Instr) (s t : State), exec c s = .next t →
    (reachesIntake c = false → t.iq = s.iq) ∧ (reachesKeys c = false → t.dcu = s.dcu) ∧
    (reachesJourney c = false → t.jcu = s.jcu) ∧ (reachesScreen c = false → t.rsu = s.rsu) ∧
    (reachesEngine c = false → t.ven = s.ven) ∧ (reachesRegister c = false → t.irg = s.irg) ∧
    (reachesCases c = false → t.ctb = s.ctb) ∧ (reachesCard c = false → t.ciu = s.ciu) ∧
    (reachesJournal c = false → t.jnl = s.jnl) ∧ (hardResets c = false → t.resetN = s.resetN) ∧
    (c ≠ .clockMillisecond → hardResets c = false → t.timebase = s.timebase) ∧
    (c ≠ .frameSent → c ≠ .resetNLow → t.hostSent = s.hostSent) ∧
    (c ≠ .cardFrameSent → c ≠ .resetNLow → t.cardSent = s.cardSent) ∧ t.pending = s.pending

/-- A record's ride state moves only along the transitions of R107, and a record whose ride state is not NONE, or that
has a case link, is lost only where the register is cleared (R99, R101, R103, R107). -/
def Obligations.RideStatesMoveAsAllowed : Prop :=
  ∀ (c : Instr) (s t : State), exec c s = .next t → s.irg.records.Pairwise (fun a b => a.key ≠ b.key) →
    (∀ r ∈ s.irg.records, ∀ r' ∈ t.irg.records, r'.key = r.key → r.ride.mayBecome r'.ride) ∧
    (c ≠ .closeCompletion → c ≠ .reset → hardResets c = false →
      ∀ r ∈ s.irg.records, r.ride ≠ .none ∨ r.caseLink ≠ none → ∃ r' ∈ t.irg.records, r'.key = r.key)
end

