-- ==== Sys2Proof/Laws/State.lean ====
section
/-! SUPPORT. One lemma per field for each named update of `State`: what it writes, and that it leaves every other field.
All are true by `rfl`. -/

namespace Sys2Proof.Machine

/-! ### `withLif` -/

@[simp] theorem withLif_lif (x : Lif) (s : State) : (withLif x s).lif = x := rfl
@[simp] theorem withLif_iq (x : Lif) (s : State) : (withLif x s).iq = s.iq := rfl
@[simp] theorem withLif_ciu (x : Lif) (s : State) : (withLif x s).ciu = s.ciu := rfl
@[simp] theorem withLif_dcu (x : Lif) (s : State) : (withLif x s).dcu = s.dcu := rfl
@[simp] theorem withLif_jcu (x : Lif) (s : State) : (withLif x s).jcu = s.jcu := rfl
@[simp] theorem withLif_rsu (x : Lif) (s : State) : (withLif x s).rsu = s.rsu := rfl
@[simp] theorem withLif_ven (x : Lif) (s : State) : (withLif x s).ven = s.ven := rfl
@[simp] theorem withLif_irg (x : Lif) (s : State) : (withLif x s).irg = s.irg := rfl
@[simp] theorem withLif_ctb (x : Lif) (s : State) : (withLif x s).ctb = s.ctb := rfl
@[simp] theorem withLif_jnl (x : Lif) (s : State) : (withLif x s).jnl = s.jnl := rfl
@[simp] theorem withLif_resetN (x : Lif) (s : State) : (withLif x s).resetN = s.resetN := rfl
@[simp] theorem withLif_timebase (x : Lif) (s : State) : (withLif x s).timebase = s.timebase := rfl
@[simp] theorem withLif_hostSent (x : Lif) (s : State) : (withLif x s).hostSent = s.hostSent := rfl
@[simp] theorem withLif_cardSent (x : Lif) (s : State) : (withLif x s).cardSent = s.cardSent := rfl
@[simp] theorem withLif_pending (x : Lif) (s : State) : (withLif x s).pending = s.pending := rfl

/-! ### `withJnl` -/

@[simp] theorem withJnl_lif (x : Jnl) (s : State) : (withJnl x s).lif = s.lif := rfl
@[simp] theorem withJnl_iq (x : Jnl) (s : State) : (withJnl x s).iq = s.iq := rfl
@[simp] theorem withJnl_ciu (x : Jnl) (s : State) : (withJnl x s).ciu = s.ciu := rfl
@[simp] theorem withJnl_dcu (x : Jnl) (s : State) : (withJnl x s).dcu = s.dcu := rfl
@[simp] theorem withJnl_jcu (x : Jnl) (s : State) : (withJnl x s).jcu = s.jcu := rfl
@[simp] theorem withJnl_rsu (x : Jnl) (s : State) : (withJnl x s).rsu = s.rsu := rfl
@[simp] theorem withJnl_ven (x : Jnl) (s : State) : (withJnl x s).ven = s.ven := rfl
@[simp] theorem withJnl_irg (x : Jnl) (s : State) : (withJnl x s).irg = s.irg := rfl
@[simp] theorem withJnl_ctb (x : Jnl) (s : State) : (withJnl x s).ctb = s.ctb := rfl
@[simp] theorem withJnl_jnl (x : Jnl) (s : State) : (withJnl x s).jnl = x := rfl
@[simp] theorem withJnl_resetN (x : Jnl) (s : State) : (withJnl x s).resetN = s.resetN := rfl
@[simp] theorem withJnl_timebase (x : Jnl) (s : State) : (withJnl x s).timebase = s.timebase := rfl
@[simp] theorem withJnl_hostSent (x : Jnl) (s : State) : (withJnl x s).hostSent = s.hostSent := rfl
@[simp] theorem withJnl_cardSent (x : Jnl) (s : State) : (withJnl x s).cardSent = s.cardSent := rfl
@[simp] theorem withJnl_pending (x : Jnl) (s : State) : (withJnl x s).pending = s.pending := rfl

/-! ### `withCtb` -/

@[simp] theorem withCtb_lif (x : Ctb) (s : State) : (withCtb x s).lif = s.lif := rfl
@[simp] theorem withCtb_iq (x : Ctb) (s : State) : (withCtb x s).iq = s.iq := rfl
@[simp] theorem withCtb_ciu (x : Ctb) (s : State) : (withCtb x s).ciu = s.ciu := rfl
@[simp] theorem withCtb_dcu (x : Ctb) (s : State) : (withCtb x s).dcu = s.dcu := rfl
@[simp] theorem withCtb_jcu (x : Ctb) (s : State) : (withCtb x s).jcu = s.jcu := rfl
@[simp] theorem withCtb_rsu (x : Ctb) (s : State) : (withCtb x s).rsu = s.rsu := rfl
@[simp] theorem withCtb_ven (x : Ctb) (s : State) : (withCtb x s).ven = s.ven := rfl
@[simp] theorem withCtb_irg (x : Ctb) (s : State) : (withCtb x s).irg = s.irg := rfl
@[simp] theorem withCtb_ctb (x : Ctb) (s : State) : (withCtb x s).ctb = x := rfl
@[simp] theorem withCtb_jnl (x : Ctb) (s : State) : (withCtb x s).jnl = s.jnl := rfl
@[simp] theorem withCtb_resetN (x : Ctb) (s : State) : (withCtb x s).resetN = s.resetN := rfl
@[simp] theorem withCtb_timebase (x : Ctb) (s : State) : (withCtb x s).timebase = s.timebase := rfl
@[simp] theorem withCtb_hostSent (x : Ctb) (s : State) : (withCtb x s).hostSent = s.hostSent := rfl
@[simp] theorem withCtb_cardSent (x : Ctb) (s : State) : (withCtb x s).cardSent = s.cardSent := rfl
@[simp] theorem withCtb_pending (x : Ctb) (s : State) : (withCtb x s).pending = s.pending := rfl

/-! ### `withCiu` -/

@[simp] theorem withCiu_lif (x : Ciu) (s : State) : (withCiu x s).lif = s.lif := rfl
@[simp] theorem withCiu_iq (x : Ciu) (s : State) : (withCiu x s).iq = s.iq := rfl
@[simp] theorem withCiu_ciu (x : Ciu) (s : State) : (withCiu x s).ciu = x := rfl
@[simp] theorem withCiu_dcu (x : Ciu) (s : State) : (withCiu x s).dcu = s.dcu := rfl
@[simp] theorem withCiu_jcu (x : Ciu) (s : State) : (withCiu x s).jcu = s.jcu := rfl
@[simp] theorem withCiu_rsu (x : Ciu) (s : State) : (withCiu x s).rsu = s.rsu := rfl
@[simp] theorem withCiu_ven (x : Ciu) (s : State) : (withCiu x s).ven = s.ven := rfl
@[simp] theorem withCiu_irg (x : Ciu) (s : State) : (withCiu x s).irg = s.irg := rfl
@[simp] theorem withCiu_ctb (x : Ciu) (s : State) : (withCiu x s).ctb = s.ctb := rfl
@[simp] theorem withCiu_jnl (x : Ciu) (s : State) : (withCiu x s).jnl = s.jnl := rfl
@[simp] theorem withCiu_resetN (x : Ciu) (s : State) : (withCiu x s).resetN = s.resetN := rfl
@[simp] theorem withCiu_timebase (x : Ciu) (s : State) : (withCiu x s).timebase = s.timebase := rfl
@[simp] theorem withCiu_hostSent (x : Ciu) (s : State) : (withCiu x s).hostSent = s.hostSent := rfl
@[simp] theorem withCiu_cardSent (x : Ciu) (s : State) : (withCiu x s).cardSent = s.cardSent := rfl
@[simp] theorem withCiu_pending (x : Ciu) (s : State) : (withCiu x s).pending = s.pending := rfl

/-! ### `withRsu` -/

@[simp] theorem withRsu_lif (x : Rsu) (s : State) : (withRsu x s).lif = s.lif := rfl
@[simp] theorem withRsu_iq (x : Rsu) (s : State) : (withRsu x s).iq = s.iq := rfl
@[simp] theorem withRsu_ciu (x : Rsu) (s : State) : (withRsu x s).ciu = s.ciu := rfl
@[simp] theorem withRsu_dcu (x : Rsu) (s : State) : (withRsu x s).dcu = s.dcu := rfl
@[simp] theorem withRsu_jcu (x : Rsu) (s : State) : (withRsu x s).jcu = s.jcu := rfl
@[simp] theorem withRsu_rsu (x : Rsu) (s : State) : (withRsu x s).rsu = x := rfl
@[simp] theorem withRsu_ven (x : Rsu) (s : State) : (withRsu x s).ven = s.ven := rfl
@[simp] theorem withRsu_irg (x : Rsu) (s : State) : (withRsu x s).irg = s.irg := rfl
@[simp] theorem withRsu_ctb (x : Rsu) (s : State) : (withRsu x s).ctb = s.ctb := rfl
@[simp] theorem withRsu_jnl (x : Rsu) (s : State) : (withRsu x s).jnl = s.jnl := rfl
@[simp] theorem withRsu_resetN (x : Rsu) (s : State) : (withRsu x s).resetN = s.resetN := rfl
@[simp] theorem withRsu_timebase (x : Rsu) (s : State) : (withRsu x s).timebase = s.timebase := rfl
@[simp] theorem withRsu_hostSent (x : Rsu) (s : State) : (withRsu x s).hostSent = s.hostSent := rfl
@[simp] theorem withRsu_cardSent (x : Rsu) (s : State) : (withRsu x s).cardSent = s.cardSent := rfl
@[simp] theorem withRsu_pending (x : Rsu) (s : State) : (withRsu x s).pending = s.pending := rfl

/-! ### `withJcu` -/

@[simp] theorem withJcu_lif (x : Jcu) (s : State) : (withJcu x s).lif = s.lif := rfl
@[simp] theorem withJcu_iq (x : Jcu) (s : State) : (withJcu x s).iq = s.iq := rfl
@[simp] theorem withJcu_ciu (x : Jcu) (s : State) : (withJcu x s).ciu = s.ciu := rfl
@[simp] theorem withJcu_dcu (x : Jcu) (s : State) : (withJcu x s).dcu = s.dcu := rfl
@[simp] theorem withJcu_jcu (x : Jcu) (s : State) : (withJcu x s).jcu = x := rfl
@[simp] theorem withJcu_rsu (x : Jcu) (s : State) : (withJcu x s).rsu = s.rsu := rfl
@[simp] theorem withJcu_ven (x : Jcu) (s : State) : (withJcu x s).ven = s.ven := rfl
@[simp] theorem withJcu_irg (x : Jcu) (s : State) : (withJcu x s).irg = s.irg := rfl
@[simp] theorem withJcu_ctb (x : Jcu) (s : State) : (withJcu x s).ctb = s.ctb := rfl
@[simp] theorem withJcu_jnl (x : Jcu) (s : State) : (withJcu x s).jnl = s.jnl := rfl
@[simp] theorem withJcu_resetN (x : Jcu) (s : State) : (withJcu x s).resetN = s.resetN := rfl
@[simp] theorem withJcu_timebase (x : Jcu) (s : State) : (withJcu x s).timebase = s.timebase := rfl
@[simp] theorem withJcu_hostSent (x : Jcu) (s : State) : (withJcu x s).hostSent = s.hostSent := rfl
@[simp] theorem withJcu_cardSent (x : Jcu) (s : State) : (withJcu x s).cardSent = s.cardSent := rfl
@[simp] theorem withJcu_pending (x : Jcu) (s : State) : (withJcu x s).pending = s.pending := rfl

/-! ### `withVen` -/

@[simp] theorem withVen_lif (x : Ven) (s : State) : (withVen x s).lif = s.lif := rfl
@[simp] theorem withVen_iq (x : Ven) (s : State) : (withVen x s).iq = s.iq := rfl
@[simp] theorem withVen_ciu (x : Ven) (s : State) : (withVen x s).ciu = s.ciu := rfl
@[simp] theorem withVen_dcu (x : Ven) (s : State) : (withVen x s).dcu = s.dcu := rfl
@[simp] theorem withVen_jcu (x : Ven) (s : State) : (withVen x s).jcu = s.jcu := rfl
@[simp] theorem withVen_rsu (x : Ven) (s : State) : (withVen x s).rsu = s.rsu := rfl
@[simp] theorem withVen_ven (x : Ven) (s : State) : (withVen x s).ven = x := rfl
@[simp] theorem withVen_irg (x : Ven) (s : State) : (withVen x s).irg = s.irg := rfl
@[simp] theorem withVen_ctb (x : Ven) (s : State) : (withVen x s).ctb = s.ctb := rfl
@[simp] theorem withVen_jnl (x : Ven) (s : State) : (withVen x s).jnl = s.jnl := rfl
@[simp] theorem withVen_resetN (x : Ven) (s : State) : (withVen x s).resetN = s.resetN := rfl
@[simp] theorem withVen_timebase (x : Ven) (s : State) : (withVen x s).timebase = s.timebase := rfl
@[simp] theorem withVen_hostSent (x : Ven) (s : State) : (withVen x s).hostSent = s.hostSent := rfl
@[simp] theorem withVen_cardSent (x : Ven) (s : State) : (withVen x s).cardSent = s.cardSent := rfl
@[simp] theorem withVen_pending (x : Ven) (s : State) : (withVen x s).pending = s.pending := rfl

/-! ### `withKeys` -/

@[simp] theorem withKeys_lif (ks : List KeyEntry) (s : State) : (withKeys ks s).lif = s.lif := rfl
@[simp] theorem withKeys_iq (ks : List KeyEntry) (s : State) : (withKeys ks s).iq = s.iq := rfl
@[simp] theorem withKeys_ciu (ks : List KeyEntry) (s : State) : (withKeys ks s).ciu = s.ciu := rfl
@[simp] theorem withKeys_dcu (ks : List KeyEntry) (s : State) : (withKeys ks s).dcu = { s.dcu with keys := ks } := rfl
@[simp] theorem withKeys_jcu (ks : List KeyEntry) (s : State) : (withKeys ks s).jcu = s.jcu := rfl
@[simp] theorem withKeys_rsu (ks : List KeyEntry) (s : State) : (withKeys ks s).rsu = s.rsu := rfl
@[simp] theorem withKeys_ven (ks : List KeyEntry) (s : State) : (withKeys ks s).ven = s.ven := rfl
@[simp] theorem withKeys_irg (ks : List KeyEntry) (s : State) : (withKeys ks s).irg = s.irg := rfl
@[simp] theorem withKeys_ctb (ks : List KeyEntry) (s : State) : (withKeys ks s).ctb = s.ctb := rfl
@[simp] theorem withKeys_jnl (ks : List KeyEntry) (s : State) : (withKeys ks s).jnl = s.jnl := rfl
@[simp] theorem withKeys_resetN (ks : List KeyEntry) (s : State) : (withKeys ks s).resetN = s.resetN := rfl
@[simp] theorem withKeys_timebase (ks : List KeyEntry) (s : State) : (withKeys ks s).timebase = s.timebase := rfl
@[simp] theorem withKeys_hostSent (ks : List KeyEntry) (s : State) : (withKeys ks s).hostSent = s.hostSent := rfl
@[simp] theorem withKeys_cardSent (ks : List KeyEntry) (s : State) : (withKeys ks s).cardSent = s.cardSent := rfl
@[simp] theorem withKeys_pending (ks : List KeyEntry) (s : State) : (withKeys ks s).pending = s.pending := rfl

/-! ### `modifyRecord` -/

@[simp] theorem modifyRecord_lif (k : CredKey) (f : Record → Record) (s : State) :
    (modifyRecord k f s).lif = s.lif := rfl
@[simp] theorem modifyRecord_iq (k : CredKey) (f : Record → Record) (s : State) :
    (modifyRecord k f s).iq = s.iq := rfl
@[simp] theorem modifyRecord_ciu (k : CredKey) (f : Record → Record) (s : State) :
    (modifyRecord k f s).ciu = s.ciu := rfl
@[simp] theorem modifyRecord_dcu (k : CredKey) (f : Record → Record) (s : State) :
    (modifyRecord k f s).dcu = s.dcu := rfl
@[simp] theorem modifyRecord_jcu (k : CredKey) (f : Record → Record) (s : State) :
    (modifyRecord k f s).jcu = s.jcu := rfl
@[simp] theorem modifyRecord_rsu (k : CredKey) (f : Record → Record) (s : State) :
    (modifyRecord k f s).rsu = s.rsu := rfl
@[simp] theorem modifyRecord_ven (k : CredKey) (f : Record → Record) (s : State) :
    (modifyRecord k f s).ven = s.ven := rfl
@[simp] theorem modifyRecord_irg (k : CredKey) (f : Record → Record) (s : State) :
    (modifyRecord k f s).irg = { s.irg with records := updateRecord k f s.irg.records } := rfl
@[simp] theorem modifyRecord_ctb (k : CredKey) (f : Record → Record) (s : State) :
    (modifyRecord k f s).ctb = s.ctb := rfl
@[simp] theorem modifyRecord_jnl (k : CredKey) (f : Record → Record) (s : State) :
    (modifyRecord k f s).jnl = s.jnl := rfl
@[simp] theorem modifyRecord_resetN (k : CredKey) (f : Record → Record) (s : State) :
    (modifyRecord k f s).resetN = s.resetN := rfl
@[simp] theorem modifyRecord_timebase (k : CredKey) (f : Record → Record) (s : State) :
    (modifyRecord k f s).timebase = s.timebase := rfl
@[simp] theorem modifyRecord_hostSent (k : CredKey) (f : Record → Record) (s : State) :
    (modifyRecord k f s).hostSent = s.hostSent := rfl
@[simp] theorem modifyRecord_cardSent (k : CredKey) (f : Record → Record) (s : State) :
    (modifyRecord k f s).cardSent = s.cardSent := rfl
@[simp] theorem modifyRecord_pending (k : CredKey) (f : Record → Record) (s : State) :
    (modifyRecord k f s).pending = s.pending := rfl

/-! ### `wake` -/

@[simp] theorem wake_lif (c : WakeCause) (s : State) : (wake c s).lif = wakeLif c s.lif := rfl
@[simp] theorem wake_iq (c : WakeCause) (s : State) : (wake c s).iq = s.iq := rfl
@[simp] theorem wake_ciu (c : WakeCause) (s : State) : (wake c s).ciu = s.ciu := rfl
@[simp] theorem wake_dcu (c : WakeCause) (s : State) : (wake c s).dcu = s.dcu := rfl
@[simp] theorem wake_jcu (c : WakeCause) (s : State) : (wake c s).jcu = s.jcu := rfl
@[simp] theorem wake_rsu (c : WakeCause) (s : State) : (wake c s).rsu = s.rsu := rfl
@[simp] theorem wake_ven (c : WakeCause) (s : State) : (wake c s).ven = s.ven := rfl
@[simp] theorem wake_irg (c : WakeCause) (s : State) : (wake c s).irg = s.irg := rfl
@[simp] theorem wake_ctb (c : WakeCause) (s : State) : (wake c s).ctb = s.ctb := rfl
@[simp] theorem wake_jnl (c : WakeCause) (s : State) : (wake c s).jnl = s.jnl := rfl
@[simp] theorem wake_resetN (c : WakeCause) (s : State) : (wake c s).resetN = s.resetN := rfl
@[simp] theorem wake_timebase (c : WakeCause) (s : State) : (wake c s).timebase = s.timebase := rfl
@[simp] theorem wake_hostSent (c : WakeCause) (s : State) : (wake c s).hostSent = s.hostSent := rfl
@[simp] theorem wake_cardSent (c : WakeCause) (s : State) : (wake c s).cardSent = s.cardSent := rfl
@[simp] theorem wake_pending (c : WakeCause) (s : State) : (wake c s).pending = s.pending := rfl

/-! ### `journalWith` -/

@[simp] theorem journalWith_lif (emit : List Notice → Lif → Lif) (b : JournalBody) (s : State) :
    (journalWith emit b s).lif = emit (s.jnl.append (tariffTime s) s.timebase b).2 s.lif := rfl
@[simp] theorem journalWith_iq (emit : List Notice → Lif → Lif) (b : JournalBody) (s : State) :
    (journalWith emit b s).iq = s.iq := rfl
@[simp] theorem journalWith_ciu (emit : List Notice → Lif → Lif) (b : JournalBody) (s : State) :
    (journalWith emit b s).ciu = s.ciu := rfl
@[simp] theorem journalWith_dcu (emit : List Notice → Lif → Lif) (b : JournalBody) (s : State) :
    (journalWith emit b s).dcu = s.dcu := rfl
@[simp] theorem journalWith_jcu (emit : List Notice → Lif → Lif) (b : JournalBody) (s : State) :
    (journalWith emit b s).jcu = s.jcu := rfl
@[simp] theorem journalWith_rsu (emit : List Notice → Lif → Lif) (b : JournalBody) (s : State) :
    (journalWith emit b s).rsu = s.rsu := rfl
@[simp] theorem journalWith_ven (emit : List Notice → Lif → Lif) (b : JournalBody) (s : State) :
    (journalWith emit b s).ven = s.ven := rfl
@[simp] theorem journalWith_irg (emit : List Notice → Lif → Lif) (b : JournalBody) (s : State) :
    (journalWith emit b s).irg = s.irg := rfl
@[simp] theorem journalWith_ctb (emit : List Notice → Lif → Lif) (b : JournalBody) (s : State) :
    (journalWith emit b s).ctb = s.ctb := rfl
@[simp] theorem journalWith_jnl (emit : List Notice → Lif → Lif) (b : JournalBody) (s : State) :
    (journalWith emit b s).jnl = (s.jnl.append (tariffTime s) s.timebase b).1 := rfl
@[simp] theorem journalWith_resetN (emit : List Notice → Lif → Lif) (b : JournalBody) (s : State) :
    (journalWith emit b s).resetN = s.resetN := rfl
@[simp] theorem journalWith_timebase (emit : List Notice → Lif → Lif) (b : JournalBody) (s : State) :
    (journalWith emit b s).timebase = s.timebase := rfl
@[simp] theorem journalWith_hostSent (emit : List Notice → Lif → Lif) (b : JournalBody) (s : State) :
    (journalWith emit b s).hostSent = s.hostSent := rfl
@[simp] theorem journalWith_cardSent (emit : List Notice → Lif → Lif) (b : JournalBody) (s : State) :
    (journalWith emit b s).cardSent = s.cardSent := rfl
@[simp] theorem journalWith_pending (emit : List Notice → Lif → Lif) (b : JournalBody) (s : State) :
    (journalWith emit b s).pending = s.pending := rfl

/-! ### `journal` -/

@[simp] theorem journal_lif (b : JournalBody) (s : State) : (journal b s).lif =
    produceAll (s.jnl.append (tariffTime s) s.timebase b).2 s.lif := rfl
@[simp] theorem journal_iq (b : JournalBody) (s : State) : (journal b s).iq = s.iq := rfl
@[simp] theorem journal_ciu (b : JournalBody) (s : State) : (journal b s).ciu = s.ciu := rfl
@[simp] theorem journal_dcu (b : JournalBody) (s : State) : (journal b s).dcu = s.dcu := rfl
@[simp] theorem journal_jcu (b : JournalBody) (s : State) : (journal b s).jcu = s.jcu := rfl
@[simp] theorem journal_rsu (b : JournalBody) (s : State) : (journal b s).rsu = s.rsu := rfl
@[simp] theorem journal_ven (b : JournalBody) (s : State) : (journal b s).ven = s.ven := rfl
@[simp] theorem journal_irg (b : JournalBody) (s : State) : (journal b s).irg = s.irg := rfl
@[simp] theorem journal_ctb (b : JournalBody) (s : State) : (journal b s).ctb = s.ctb := rfl
@[simp] theorem journal_jnl (b : JournalBody) (s : State) : (journal b s).jnl =
    (s.jnl.append (tariffTime s) s.timebase b).1 := rfl
@[simp] theorem journal_resetN (b : JournalBody) (s : State) : (journal b s).resetN = s.resetN := rfl
@[simp] theorem journal_timebase (b : JournalBody) (s : State) : (journal b s).timebase = s.timebase := rfl
@[simp] theorem journal_hostSent (b : JournalBody) (s : State) : (journal b s).hostSent = s.hostSent := rfl
@[simp] theorem journal_cardSent (b : JournalBody) (s : State) : (journal b s).cardSent = s.cardSent := rfl
@[simp] theorem journal_pending (b : JournalBody) (s : State) : (journal b s).pending = s.pending := rfl

end Sys2Proof.Machine
end

