-- ==== Sys2Proof/Laws/Link.lean ====
section
/-! SUPPORT. What the link's shared operations can do: the production of notices (R155, R160, R161), the wake (R168),
and the take of a request with the placing of its reply (R157, R158). -/

namespace Sys2Proof.Machine

/-! ### Small facts -/

theorem satSucc_le {max n : Nat} (h : n ≤ max) : satSucc max n ≤ max := by
  unfold satSucc; split <;> omega

theorem satSucc_eq_min {max n : Nat} (h : n ≤ max) : satSucc max n = min max (n + 1) := by
  unfold satSucc; split <;> omega

/-- A slot is free exactly while the queue has room and no notice waits or pends (R159 to R161). -/
theorem freeSlots_pos {l : Lif} :
    0 < freeSlots l ↔ l.outbound.length < 24 ∧ l.waiting = [] ∧ l.pendingNotices = [] := by
  unfold freeSlots
  by_cases h : l.waiting = [] ∧ l.pendingNotices = []
  · rw [if_pos (by simp [h])]
    exact ⟨fun k => ⟨by omega, h⟩, fun k => by omega⟩
  · rw [if_neg (by simpa using h)]
    exact ⟨fun k => absurd k (by omega), fun k => absurd k.2 h⟩

theorem room_of_freeSlots {l : Lif} (h : 0 < freeSlots l) : l.outbound.length < 24 := (freeSlots_pos.1 h).1

/-! ### Entering and pending -/

/-- All that the entry of a notice changes. -/
theorem enterNotice_eq (n : Notice) (l : Lif) :
    enterNotice n l =
      { l with outbound := l.outbound ++ [.frame (.notice n)], faultCount := (enterNotice n l).faultCount } := rfl

@[simp] theorem enterNotice_outbound (n : Notice) (l : Lif) :
    (enterNotice n l).outbound = l.outbound ++ [.frame (.notice n)] := rfl
@[simp] theorem enterNotice_requests (n : Notice) (l : Lif) : (enterNotice n l).requests = l.requests := rfl
@[simp] theorem enterNotice_receiver (n : Notice) (l : Lif) : (enterNotice n l).receiver = l.receiver := rfl
@[simp] theorem enterNotice_waiting (n : Notice) (l : Lif) : (enterNotice n l).waiting = l.waiting := rfl
@[simp] theorem enterNotice_power (n : Notice) (l : Lif) : (enterNotice n l).power = l.power := rfl
@[simp] theorem enterNotice_standbyToSend (n : Notice) (l : Lif) :
    (enterNotice n l).standbyToSend = l.standbyToSend := rfl
@[simp] theorem enterNotice_pendingNotices (n : Notice) (l : Lif) :
    (enterNotice n l).pendingNotices = l.pendingNotices := rfl

theorem enterNotice_faultCount_le {n : Notice} {l : Lif} (h : l.faultCount ≤ 255) :
    (enterNotice n l).faultCount ≤ 255 := by
  cases n <;> simp_all [enterNotice]

@[simp] theorem pendNotice_outbound (n : Notice) (l : Lif) : (pendNotice n l).outbound = l.outbound := rfl
@[simp] theorem pendNotice_requests (n : Notice) (l : Lif) : (pendNotice n l).requests = l.requests := rfl
@[simp] theorem pendNotice_receiver (n : Notice) (l : Lif) : (pendNotice n l).receiver = l.receiver := rfl
@[simp] theorem pendNotice_waiting (n : Notice) (l : Lif) : (pendNotice n l).waiting = l.waiting := rfl
@[simp] theorem pendNotice_power (n : Notice) (l : Lif) : (pendNotice n l).power = l.power := rfl
@[simp] theorem pendNotice_standbyToSend (n : Notice) (l : Lif) :
    (pendNotice n l).standbyToSend = l.standbyToSend := rfl
@[simp] theorem pendNotice_faultCount (n : Notice) (l : Lif) : (pendNotice n l).faultCount = l.faultCount := rfl

theorem mem_insertPending {n m : Notice} {ns : List Notice} (h : m ∈ insertPending n ns) : m = n ∨ m ∈ ns := by
  induction ns with
  | nil => simpa [insertPending] using h
  | cons a as ih =>
    simp only [insertPending] at h
    split at h
    · simpa using h
    · split at h
      · rcases List.mem_cons.1 h with h | h
        · exact .inl h
        · exact .inr (List.mem_cons_of_mem _ h)
      · rcases List.mem_cons.1 h with h | h
        · exact .inr (by simp [h])
        · rcases ih h with h | h
          · exact .inl h
          · exact .inr (List.mem_cons_of_mem _ h)

theorem insertPending_rising {n : Notice} {ns : List Notice} (h : ns.Pairwise (fun a b => a.code < b.code)) :
    (insertPending n ns).Pairwise (fun a b => a.code < b.code) := by
  induction ns with
  | nil => simp [insertPending]
  | cons a as ih =>
    rw [List.pairwise_cons] at h
    simp only [insertPending]
    split
    · rename_i hlt
      refine List.pairwise_cons.2 ⟨?_, List.pairwise_cons.2 h⟩
      intro b hb
      rcases List.mem_cons.1 hb with rfl | hb
      · exact hlt
      · have := h.1 b hb; omega
    · split
      · rename_i heq
        exact List.pairwise_cons.2 ⟨fun b hb => heq ▸ h.1 b hb, h.2⟩
      · rename_i hge hne
        refine List.pairwise_cons.2 ⟨?_, ih h.2⟩
        intro b hb
        rcases mem_insertPending hb with rfl | hb
        · omega
        · exact h.1 b hb

theorem cancelledCode_of_hold {n : Notice} (h : n.code = 0x83) : cancelledCode n = some 0x84 := by
  cases n <;> first | rfl | (simp [Notice.code] at h)

theorem cancelledCode_of_resume {n : Notice} (h : n.code = 0x84) : cancelledCode n = some 0x83 := by
  cases n <;> first | rfl | (simp [Notice.code] at h)

/-- The pending notices stay in order when a singleton becomes pending (R161). -/
theorem pendNotice_ok {n : Notice} {l : Lif} (hn : n.isSingleton = true) (h : pendingOk l.pendingNotices) :
    pendingOk (pendNotice n l).pendingNotices := by
  obtain ⟨hs, hr, hc⟩ := h
  have key : ∀ m, m ∈ l.pendingNotices.filter (fun m => cancelledCode n != some m.code) →
      m ∈ l.pendingNotices ∧ cancelledCode n ≠ some m.code := by
    intro m hm
    rw [List.mem_filter] at hm
    exact ⟨hm.1, by simpa using hm.2⟩
  refine ⟨?_, insertPending_rising (hr.filter _), ?_⟩
  · intro m hm
    rcases mem_insertPending hm with rfl | hm
    · exact hn
    · exact hs m (key m hm).1
  · rintro ⟨⟨a, ha, hac⟩, b, hb, hbc⟩
    rcases mem_insertPending ha with ha' | ha' <;> rcases mem_insertPending hb with hb' | hb'
    · subst ha'; subst hb'; omega
    · subst ha'
      exact (key _ hb').2 ((cancelledCode_of_hold hac).trans (by rw [hbc]))
    · subst hb'
      exact (key _ ha').2 ((cancelledCode_of_resume hbc).trans (by rw [hac]))
    · exact hc ⟨⟨a, (key _ ha').1, hac⟩, b, (key _ hb').1, hbc⟩

/-! ### What producing notices can do -/

/-- What the production of singleton notices, and the entry of any notice, can do to the link: it appends notices to the
outbound queue without passing its 24 slots, and moves the pending notices and the fault count; nothing else. -/
structure Emits (l l' : Lif) : Prop where
  requests : l'.requests = l.requests
  receiver : l'.receiver = l.receiver
  power : l'.power = l.power
  standbyToSend : l'.standbyToSend = l.standbyToSend
  waiting : l'.waiting = l.waiting
  outbound : ∃ ns : List Notice, l'.outbound = l.outbound ++ ns.map (fun n => .frame (.notice n))
  room : l.outbound.length ≤ 24 → l'.outbound.length ≤ 24
  pending : pendingOk l.pendingNotices → pendingOk l'.pendingNotices
  faultCount : l.faultCount ≤ 255 → l'.faultCount ≤ 255

theorem Emits.refl (l : Lif) : Emits l l :=
  ⟨rfl, rfl, rfl, rfl, rfl, ⟨[], by simp⟩, id, id, id⟩

theorem Emits.trans {a b c : Lif} (h : Emits a b) (k : Emits b c) : Emits a c := by
  obtain ⟨ns, hns⟩ := h.outbound
  obtain ⟨ms, hms⟩ := k.outbound
  exact ⟨k.requests.trans h.requests, k.receiver.trans h.receiver, k.power.trans h.power,
    k.standbyToSend.trans h.standbyToSend, k.waiting.trans h.waiting, ⟨ns ++ ms, by simp [hms, hns]⟩,
    fun r => k.room (h.room r), fun p => k.pending (h.pending p), fun f => k.faultCount (h.faultCount f)⟩

theorem emits_enterNotice {n : Notice} {l : Lif} (h : l.outbound.length < 24) : Emits l (enterNotice n l) :=
  ⟨rfl, rfl, rfl, rfl, rfl, ⟨[n], rfl⟩, fun _ => by simp; omega, id, enterNotice_faultCount_le⟩

theorem emits_pendNotice {n : Notice} {l : Lif} (hn : n.isSingleton = true) : Emits l (pendNotice n l) :=
  ⟨rfl, rfl, rfl, rfl, rfl, ⟨[], by simp⟩, id, pendNotice_ok hn, id⟩

theorem emits_produceSingleton {n : Notice} {l : Lif} (hn : n.isSingleton = true) : Emits l (produceSingleton n l) := by
  unfold produceSingleton
  split
  · rename_i h
    exact emits_enterNotice (room_of_freeSlots h)
  · exact emits_pendNotice hn

theorem emits_produceAll {ns : List Notice} {l : Lif} (h : ∀ n ∈ ns, n.isSingleton = true) :
    Emits l (produceAll ns l) := by
  induction ns generalizing l with
  | nil => exact Emits.refl l
  | cons n ns ih =>
    exact (emits_produceSingleton (h n (by simp))).trans (ih (fun m hm => h m (by simp [hm])))

theorem emits_pendAll {ns : List Notice} {l : Lif} (h : ∀ n ∈ ns, n.isSingleton = true) : Emits l (pendAll ns l) := by
  induction ns generalizing l with
  | nil => exact Emits.refl l
  | cons n ns ih => exact (emits_pendNotice (h n (by simp))).trans (ih (fun m hm => h m (by simp [hm])))

/-! ### The waiting list and the wake -/

/-- What producing a notice of the waiting list can do (R160). -/
theorem produceWaiting_cases (n : Notice) (l : Lif) :
    (0 < freeSlots l ∧ produceWaiting n l = enterNotice n l) ∨
      (freeSlots l = 0 ∧ produceWaiting n l = { l with waiting := l.waiting ++ [n] }) := by
  unfold produceWaiting
  split
  · exact .inl ⟨by assumption, rfl⟩
  · exact .inr ⟨by omega, rfl⟩

/-- What a wake can do (R168). -/
theorem wakeLif_cases (c : WakeCause) (l : Lif) :
    (l.power = .active ∧ wakeLif c l = l) ∨
      (l.power = .standby ∧
        wakeLif c l = produceWaiting (.wake c) { l with power := .active, standbyToSend := 0 }) := by
  unfold wakeLif
  cases h : l.power
  · exact .inl ⟨rfl, rfl⟩
  · exact .inr ⟨rfl, rfl⟩

@[simp] theorem wakeLif_active {c : WakeCause} {l : Lif} (h : l.power = .active) : wakeLif c l = l := by
  simp [wakeLif, h]

@[simp] theorem wakeLif_power (c : WakeCause) (l : Lif) : (wakeLif c l).power = .active := by
  rcases wakeLif_cases c l with ⟨h, he⟩ | ⟨_, he⟩
  · rw [he, h]
  · rw [he]
    rcases produceWaiting_cases (.wake c) { l with power := .active, standbyToSend := 0 } with ⟨_, h⟩ | ⟨_, h⟩ <;>
      simp [h]

/-! ### Placing the reply -/

@[simp] theorem placeReply_length (r : OutFrame) (ss : List Slot) : (placeReply r ss).length = ss.length := by
  induction ss with
  | nil => rfl
  | cons a as ih => cases a <;> simp [placeReply, ih]

/-- The reply goes into the one reserved slot, wherever frames follow it. -/
theorem placeReply_reserved {r : OutFrame} {front back : List Slot} (h : noneReserved front) :
    placeReply r (front ++ .reserved :: back) = front ++ .frame r :: back := by
  induction front with
  | nil => rfl
  | cons a as ih =>
    have ha : noneReserved as := fun k => h (List.mem_cons_of_mem _ k)
    cases a with
    | reserved => exact absurd (List.mem_cons_self) h
    | frame f => simp [placeReply, ih ha]

theorem placeReply_append {r : OutFrame} {ss : List Slot} (h : .reserved ∈ ss) (ts : List Slot) :
    placeReply r (ss ++ ts) = placeReply r ss ++ ts := by
  induction ss with
  | nil => simp at h
  | cons a as ih =>
    cases a with
    | reserved => rfl
    | frame f =>
      have : Slot.reserved ∈ as := by simpa using h
      simp [placeReply, ih this]

/-- The link with the reply placed. -/
def fill (r : OutFrame) (l : Lif) : Lif := { l with outbound := placeReply r l.outbound }

@[simp] theorem freeSlots_fill (r : OutFrame) (l : Lif) : freeSlots (fill r l) = freeSlots l := by
  simp [fill, freeSlots]

theorem fill_enterNotice {r : OutFrame} {n : Notice} {l : Lif} (h : .reserved ∈ l.outbound) :
    fill r (enterNotice n l) = enterNotice n (fill r l) := by
  simp [fill, enterNotice, placeReply_append h]

theorem fill_pendNotice (r : OutFrame) (n : Notice) (l : Lif) :
    fill r (pendNotice n l) = pendNotice n (fill r l) := rfl

theorem fill_produceSingleton {r : OutFrame} {n : Notice} {l : Lif} (h : .reserved ∈ l.outbound) :
    fill r (produceSingleton n l) = produceSingleton n (fill r l) := by
  unfold produceSingleton
  rw [freeSlots_fill]
  split
  · exact fill_enterNotice h
  · exact fill_pendNotice r n l

theorem fill_produceWaiting {r : OutFrame} {n : Notice} {l : Lif} (h : .reserved ∈ l.outbound) :
    fill r (produceWaiting n l) = produceWaiting n (fill r l) := by
  unfold produceWaiting
  rw [freeSlots_fill]
  split
  · exact fill_enterNotice h
  · rfl

theorem fill_produceAll {r : OutFrame} {ns : List Notice} {l : Lif} (h : .reserved ∈ l.outbound) :
    fill r (produceAll ns l) = produceAll ns (fill r l) := by
  induction ns generalizing l with
  | nil => rfl
  | cons n ns ih =>
    have hm : Slot.reserved ∈ (produceSingleton n l).outbound := by
      unfold produceSingleton
      split <;> simp [h]
    change fill r (produceAll ns (produceSingleton n l)) = produceAll ns (produceSingleton n (fill r l))
    rw [ih hm, fill_produceSingleton h]

/-! ### Taking a request -/

/-- A ready request of a known kind and the right size is handled with a slot reserved for its reply, and the reply is
placed in that slot (R157). -/
theorem takeRequest_ready {kind : Nat} {k tag : Byte} {body : List Byte} {rest : List RequestFrame}
    {h : List Byte → State → Answer} {s : State} (hr : Ready k tag body rest s) (hk : k.toNat = kind)
    (hs : sizeOk kind body = true) :
    takeRequest kind h s =
      (let a := h body { s with lif := { s.lif with requests := rest, outbound := s.lif.outbound ++ [.reserved] } }
      { a.1 with lif := fill (.reply (BitVec.ofNat 8 (kind + 0x40)) tag a.2) a.1.lif }) := by
  obtain ⟨hn, hq, hp, hf, hw, -⟩ := hr
  simp [takeRequest, whenRunning, hn, takeFrame, hq, hk, canTakeRequest, hp, hf, hw, answerRequest, hs, fill]

/-- A ready request of the wrong size is answered BAD-FIELD and nothing else changes (R158). -/
theorem takeRequest_wrongSize {kind : Nat} {k tag : Byte} {body : List Byte} {rest : List RequestFrame}
    {h : List Byte → State → Answer} {s : State} (hr : Ready k tag body rest s) (hk : k.toNat = kind)
    (hs : sizeOk kind body = false) :
    takeRequest kind h s = s.answered (BitVec.ofNat 8 (kind + 0x40)) tag [3] rest := by
  obtain ⟨hn, hq, hp, hf, hw, hres⟩ := hr
  simp [takeRequest, whenRunning, hn, takeFrame, hq, hk, canTakeRequest, hp, hf, hw, answerRequest, hs, refuse,
    State.answered, Lif.answered, placeReply_reserved hres, u8, Status.code]

/-- A ready request whose handling changes nothing of the link: the reply is all that the link gains. -/
theorem takeRequest_quiet {kind : Nat} {k tag : Byte} {body : List Byte} {rest : List RequestFrame}
    {h : List Byte → State → Answer} {s t : State} {reply : List Byte} (hr : Ready k tag body rest s)
    (hk : k.toNat = kind) (hs : sizeOk kind body = true)
    (ha : h body { s with lif := { s.lif with requests := rest, outbound := s.lif.outbound ++ [.reserved] } } =
      ({ t with lif := { s.lif with requests := rest, outbound := s.lif.outbound ++ [.reserved] } }, reply))
    (hl : t.lif = s.lif) :
    takeRequest kind h s = t.answered (BitVec.ofNat 8 (kind + 0x40)) tag reply rest := by
  have hres := hr.2.2.2.2.2
  rw [takeRequest_ready hr hk hs, ha]
  simp [fill, State.answered, Lif.answered, placeReply_reserved hres, hl]

/-- A request whose turn it is not, or that is not of this kind, changes nothing (R157). -/
theorem takeRequest_idle {kind : Nat} {h : List Byte → State → Answer} {s : State}
    (hn : s.resetN = false ∨ canTakeRequest s.lif = false ∨ s.lif.requests = [] ∨
      ∃ f rest, s.lif.requests = f :: rest ∧ f.kind.toNat ≠ kind) : takeRequest kind h s = s := by
  unfold takeRequest whenRunning
  split
  · rename_i hrun
    rcases hn with hn | hn | hn | ⟨f, rest, hn, hk⟩
    · simp [hrun] at hn
    · unfold takeFrame
      split
      · rfl
      · simp [hn]
    · simp [takeFrame, hn]
    · simp [takeFrame, hn, hk]
  · rfl

/-- A property that no change of the link touches is kept by the take of a request when its handling keeps it. -/
theorem takeRequest_keeps {kind : Nat} {h : List Byte → State → Answer} {P : State → Prop} {s : State}
    (hl : ∀ s l, P s → P { s with lif := l }) (hh : ∀ body s, sizeOk kind body = true → P s → P (h body s).1)
    (hs : P s) : P (takeRequest kind h s) := by
  unfold takeRequest whenRunning
  split
  · unfold takeFrame
    split
    · exact hs
    · split
      · apply hl
        unfold answerRequest
        split
        · exact hh _ _ (by assumption) (hl _ _ hs)
        · exact hl _ _ hs
      · exact hs
  · exact hs

/-- A field other than the link that the handling leaves is left by the take of a request. -/
theorem takeRequest_leaves {α : Type} {kind : Nat} {h : List Byte → State → Answer} (g : State → α)
    (hl : ∀ s l, g { s with lif := l } = g s) (hh : ∀ body s, g (h body s).1 = g s) (s : State) :
    g (takeRequest kind h s) = g s :=
  takeRequest_keeps (P := fun t => g t = g s) (fun t l ht => (hl t l).trans ht)
    (fun body t _ ht => (hh body t).trans ht) rfl

theorem whenRunning_leaves {α : Type} {f : State → State} (g : State → α) (h : ∀ s, g (f s) = g s) (s : State) :
    g (whenRunning f s) = g s := by
  unfold whenRunning; split
  · exact h s
  · rfl

theorem whenRunning_keeps {f : State → State} {P : State → Prop} {s : State} (hf : P s → P (f s)) (h : P s) :
    P (whenRunning f s) := by
  unfold whenRunning; split
  · exact hf h
  · exact h

end Sys2Proof.Machine
end

