-- ==== Sys2Proof/Laws/Card.lean ====
section
/-! SUPPORT. What the receiver of the card line can do: the decoding of a frame (R131, R132, R189), and the reception of
one by a row of the table (R132). -/

namespace Sys2Proof.Machine

/-! ### Decoding -/

/-- The sum of a list of bytes, from any start. -/
theorem foldl_add_eq (a : Byte) (bytes : List Byte) : bytes.foldl (fun acc b => acc + b) a = a + byteSum bytes := by
  unfold byteSum
  induction bytes generalizing a with
  | nil => simp
  | cons b bs ih => rw [List.foldl_cons, ih, List.foldl_cons, ih (0 + b)]; simp [BitVec.add_assoc]

theorem byteSum_append (xs ys : List Byte) : byteSum (xs ++ ys) = byteSum xs + byteSum ys := by
  rw [byteSum, List.foldl_append, foldl_add_eq]; rfl

/-- The check byte makes the sum of a frame 0 (R131). -/
theorem byteSum_cardFrameBytes (kind : Nat) (body : List Byte) : byteSum (cardFrameBytes kind body) = 0 := by
  have h : ∀ x : Byte, x + (0 - x) = 0 := by intro x; bv_omega
  simp only [cardFrameBytes, byteSum_append]
  rw [show ∀ b : Byte, byteSum [b] = b from fun b => by simp [byteSum]]
  exact h _

/-- A frame made of a kind and a body of at most 20 bytes decodes to what that kind and body say (R131, R132). -/
theorem decodeCardFrame_cardFrameBytes {kind : Nat} {body : List Byte} (hk : kind < 256) (hb : body.length ≤ 20) :
    decodeCardFrame (cardFrameBytes kind body) = decodeCardBody kind body := by
  have hs := byteSum_cardFrameBytes kind body
  have hl : (u8 body.length).map BitVec.toNat = [body.length] := by simp [u8]; omega
  simp only [cardFrameBytes, u8, List.cons_append, List.nil_append, List.map_cons, List.map_nil, List.cons.injEq,
    and_true] at hs hl ⊢
  rw [decodeCardFrame, if_pos ⟨by omega, by simp [hl], hs⟩, hl]
  simp [Nat.mod_eq_of_lt hk]

/-- A frame that decodes has the kind and the sizes of R189 and the check byte of R131. -/
theorem eq_cardFrameBytes_of_decode {frame : List Byte} {r : CardReceived} (h : decodeCardFrame frame = some r) :
    ∃ kind body, kind < 256 ∧ body.length ≤ 20 ∧ frame = cardFrameBytes kind body ∧ decodeCardBody kind body = some r := by
  unfold decodeCardFrame at h
  split at h
  · rename_i kind length rest
    split at h
    · rename_i hc
      obtain ⟨hl, hr, hs⟩ := hc
      rcases List.eq_nil_or_concat rest with rfl | ⟨body, last, rfl⟩
      · simp at hr
      · have hlen : body.length = length.toNat := by simpa using hr
        rw [List.concat_eq_append] at h hs
        rw [List.take_append_of_le_length (by omega), List.take_of_length_le (by omega)] at h
        refine ⟨kind.toNat, body, kind.isLt, by omega, ?_, h⟩
        have hfront : u8 kind.toNat ++ u8 body.length ++ body = kind :: length :: body := by simp [u8, hlen]
        rw [← List.cons_append, ← List.cons_append, byteSum_append] at hs
        rw [cardFrameBytes, hfront, show last = 0 - byteSum (kind :: length :: body) by
          have : byteSum [last] = last := by simp [byteSum]
          rw [this] at hs
          bv_omega]
        simp
    · exact absurd h (by simp)
  · exact absurd h (by simp)

/-- What each well-formed body says, kind by kind (R132, R189). -/
theorem decodeCardBody_cases {kind : Nat} {body : List Byte} {r : CardReceived} (h : decodeCardBody kind body = some r) :
    (kind = 1 ∧ body.length = 7 ∧ r = .cardUp body) ∨
      (∃ index data, kind = 2 ∧ body = index :: data ∧ data.length = 16 ∧ r = .block index data) ∨
      (kind = 3 ∧ body = [] ∧ r = .cardDown) ∨ (kind = 4 ∧ body = [1] ∧ r = .written .done) ∨
      (kind = 4 ∧ body = [2] ∧ r = .written .lost) := by
  unfold decodeCardBody at h
  split at h
  · split at h
    · exact .inl ⟨rfl, by assumption, (Option.some.inj h).symm⟩
    · exact absurd h (by simp)
  · split at h
    · exact .inr (.inl ⟨_, _, rfl, rfl, by assumption, (Option.some.inj h).symm⟩)
    · exact absurd h (by simp)
  · exact .inr (.inr (.inl ⟨rfl, rfl, (Option.some.inj h).symm⟩))
  · split at h
    · rename_i hr
      exact .inr (.inr (.inr (.inl ⟨rfl, by rw [hr], (Option.some.inj h).symm⟩)))
    · split at h
      · rename_i hr
        exact .inr (.inr (.inr (.inr ⟨rfl, by rw [hr], (Option.some.inj h).symm⟩)))
      · exact absurd h (by simp)
  · exact absurd h (by simp)

/-! ### Receiving -/

@[simp] theorem setAwaitsGap_self {w : Bool} {s : State} (h : s.ciu.awaitsGap = w) : setAwaitsGap w s = s := by
  subst h; rfl
@[simp] theorem setAwaitsGap_awaitsGap (w : Bool) (s : State) : (setAwaitsGap w s).ciu.awaitsGap = w := rfl

/-- What bytes on the card line can do (R132): they are taken as by a receiver that waits for no gap, or discarded. -/
theorem whenListening_cases (idle : Bool) (f : State → State) (s : State) :
    ((idle = true ∨ s.ciu.awaitsGap = false) ∧ whenListening idle f s = f (setAwaitsGap false s)) ∨
      (idle = false ∧ s.ciu.awaitsGap = true ∧ whenListening idle f s = s) := by
  unfold whenListening
  cases idle <;> cases h : s.ciu.awaitsGap <;> simp

/-- A receiver that waits for no gap takes the bytes. -/
@[simp] theorem whenListening_of_awake {idle : Bool} {f : State → State} {s : State} (h : s.ciu.awaitsGap = false) :
    whenListening idle f s = f s := by
  simp [whenListening, h]

/-- What the reception of a frame by a row can do (R132): the CHECK error of a malformed frame, or what the row does with
a well-formed one. -/
theorem receiveFrame_cases (own : CardReceived → State → State) (idle : Bool) (frame : List Byte) (s : State) :
    (decodeCardFrame frame = none ∧ receiveFrame own idle frame s = whenListening idle (lineError .check) s) ∨
      ∃ r, decodeCardFrame frame = some r ∧ receiveFrame own idle frame s = whenListening idle (own r) s := by
  unfold receiveFrame
  split
  · exact .inl ⟨by assumption, rfl⟩
  · exact .inr ⟨_, by assumption, rfl⟩

/-- A receiver that waits for no gap takes a frame made of a kind and a body by what they say (R131, R132). -/
theorem receiveFrame_cardFrameBytes {own : CardReceived → State → State} {idle : Bool} {kind : Nat} {body : List Byte}
    {r : CardReceived} {s : State} (hk : kind < 256) (hb : body.length ≤ 20) (hd : decodeCardBody kind body = some r)
    (hs : s.ciu.awaitsGap = false) : receiveFrame own idle (cardFrameBytes kind body) s = own r s := by
  unfold receiveFrame
  simp [decodeCardFrame_cardFrameBytes hk hb, hd, hs]

end Sys2Proof.Machine
end

