-- ==== Sys2Proof/Laws/Fields.lean ====
section
/-! SUPPORT. Numbers as bytes and back (R185): how long each field is, what it reads as, and the range of what is read. -/

namespace Sys2Proof.Machine

@[simp] theorem u8_length (n : Nat) : (u8 n).length = 1 := rfl
@[simp] theorem u16_length (n : Nat) : (u16 n).length = 2 := rfl
@[simp] theorem u24_length (n : Nat) : (u24 n).length = 3 := rfl
@[simp] theorem u32_length (n : Nat) : (u32 n).length = 4 := rfl
@[simp] theorem u48_length (n : Nat) : (u48 n).length = 6 := rfl
@[simp] theorem i16_length (z : Int) : (i16 z).length = 2 := rfl

theorem beNat_append (x y : List Byte) : beNat (x ++ y) = beNat x * 256 ^ y.length + beNat y := by
  unfold beNat
  rw [List.foldl_append]
  generalize x.foldl (fun acc b => acc * 256 + b.toNat) 0 = a
  induction y generalizing a with
  | nil => simp
  | cons b y ih =>
    simp only [List.foldl_cons, List.length_cons]
    rw [ih, ih (0 * 256 + b.toNat), Nat.pow_succ, Nat.add_mul, Nat.zero_mul, Nat.zero_add, Nat.mul_assoc,
      Nat.mul_comm 256, Nat.add_assoc]

theorem beNat_lt (x : List Byte) : beNat x < 256 ^ x.length := by
  induction x with
  | nil => simp [beNat]
  | cons b x ih =>
    have h : beNat (b :: x) = beNat [b] * 256 ^ x.length + beNat x := beNat_append [b] x
    have hb : beNat [b] = b.toNat := by simp [beNat]
    have hlt : b.toNat < 256 := b.isLt
    rw [h, hb, List.length_cons, Nat.pow_succ]
    calc b.toNat * 256 ^ x.length + beNat x < b.toNat * 256 ^ x.length + 256 ^ x.length := by omega
      _ = (b.toNat + 1) * 256 ^ x.length := by rw [Nat.add_mul, Nat.one_mul]
      _ ≤ 256 * 256 ^ x.length := Nat.mul_le_mul_right _ hlt
      _ = 256 ^ x.length * 256 := Nat.mul_comm _ _

/-- A field that is read lies in the range of its bytes. -/
theorem fieldAt_lt (x : List Byte) (off len : Nat) : fieldAt x off len < 256 ^ len := by
  have h := beNat_lt ((x.drop off).take len)
  have hle : ((x.drop off).take len).length ≤ len := List.length_take_le _ _
  exact Nat.lt_of_lt_of_le h (Nat.pow_le_pow_right (by decide) hle)

@[simp] theorem beNat_u8 (n : Nat) : beNat (u8 n) = n % 256 := by simp [beNat, u8]
@[simp] theorem beNat_u16 (n : Nat) : beNat (u16 n) = n % 65536 := by simp [beNat, u16]; omega
@[simp] theorem beNat_u24 (n : Nat) : beNat (u24 n) = n % 16777216 := by simp [beNat, u24, u16]; omega
@[simp] theorem beNat_u32 (n : Nat) : beNat (u32 n) = n % 4294967296 := by
  rw [show u32 n = u16 (n / 65536) ++ u16 n from rfl, beNat_append]; simp; omega
@[simp] theorem beNat_u48 (n : Nat) : beNat (u48 n) = n % 281474976710656 := by
  rw [show u48 n = u16 (n / 4294967296) ++ u32 n from rfl, beNat_append]; simp; omega

/-- A field that fills the whole of a string. -/
theorem fieldAt_all {x : List Byte} {len : Nat} (h : x.length = len) : fieldAt x 0 len = beNat x := by
  subst h; simp [fieldAt]

/-- The first field of a string. -/
theorem fieldAt_first {x : List Byte} (y : List Byte) {len : Nat} (h : x.length = len) :
    fieldAt (x ++ y) 0 len = beNat x := by
  subst h; simp [fieldAt]

/-- A field after the first. -/
theorem fieldAt_after {x y : List Byte} {off len : Nat} (h : x.length ≤ off) :
    fieldAt (x ++ y) off len = fieldAt y (off - x.length) len := by
  unfold fieldAt
  rw [List.drop_append, List.drop_eq_nil_of_le h, List.nil_append]

/-- A signed field reads as the number it was made from. -/
theorem signed16_i16 {z : Int} (h : -32768 ≤ z) (h' : z ≤ 32767) : signed16 (beNat (i16 z)) = z := by
  rw [show i16 z = u16 (BitVec.ofInt 16 z).toNat from rfl, beNat_u16]
  simp only [BitVec.toNat_ofInt, signed16]
  omega

end Sys2Proof.Machine
end

