-- ==== Sys2Proof/Laws/Journal.lean ====
section
/-! SUPPORT. What an append to the journal can do (R175 to R177, R180). -/

namespace Sys2Proof.Machine

/-- What an append does, by the room it finds (R175): a spent numbering and a full ring drop the record. -/
theorem append_cases (time now : Nat) (body : JournalBody) (j : Jnl) :
    (maxSequence ≤ j.lastSequence ∧ j.append time now body = j.drop j.lastSequence) ∨
      (j.lastSequence < maxSequence ∧ j.free = 0 ∧ j.append time now body = j.drop (j.lastSequence + 1)) ∨
      (j.lastSequence < maxSequence ∧ 0 < j.free ∧ j.append time now body = j.store time now body) := by
  unfold Jnl.append
  split
  · exact .inl ⟨by assumption, rfl⟩
  · split
    · exact .inr (.inl ⟨by omega, by assumption, rfl⟩)
    · exact .inr (.inr ⟨by omega, by omega, rfl⟩)

/-- A dropped record leaves the ring, the batch state and the settings (R175, R176). -/
theorem drop_eq (n : Nat) (j : Jnl) :
    (j.drop n).1 = { j with lastSequence := n, dropCount := satSucc 65535 j.dropCount, fullArmed := false } := rfl

/-- A stored record: the ring grows by it, and nothing but the numbering, the low armed flag, the batch timers and the
unreported count moves (R175, R177, R180). -/
theorem store_eq (time now : Nat) (body : JournalBody) (j : Jnl) :
    (j.store time now body).1 =
      { j with
        lastSequence := j.lastSequence + 1
        records := j.records ++ [{ sequence := j.lastSequence + 1, time := time, body := body }]
        lowArmed := (j.store time now body).1.lowArmed
        quietTimer := (j.store time now body).1.quietTimer
        absoluteTimer := (j.store time now body).1.absoluteTimer
        unreported := (j.store time now body).1.unreported } := by
  unfold Jnl.store Jnl.lowCheck Jnl.batch Jnl.ready
  simp only
  split <;> split <;> rfl

theorem store_unreported {time now : Nat} {body : JournalBody} {j : Jnl} (h : j.unreported ≤ 65535) :
    (j.store time now body).1.unreported ≤ 65535 := by
  unfold Jnl.store Jnl.lowCheck Jnl.batch Jnl.ready
  simp only
  split <;> split <;> simp <;> exact satSucc_le h

/-- Every notice an append produces is a singleton (R176, R177, R181). -/
theorem append_singletons (time now : Nat) (body : JournalBody) (j : Jnl) :
    ∀ n ∈ (j.append time now body).2, n.isSingleton = true := by
  rcases append_cases time now body j with ⟨_, h⟩ | ⟨_, _, h⟩ | ⟨_, _, h⟩ <;> rw [h]
  · unfold Jnl.drop; simp only; split <;> simp [Notice.isSingleton]
  · unfold Jnl.drop; simp only; split <;> simp [Notice.isSingleton]
  · unfold Jnl.store Jnl.lowCheck Jnl.batch Jnl.ready
    simp only
    split <;> split <;> simp [Notice.isSingleton]

/-- An append keeps the journal in order. -/
theorem append_ok {time now : Nat} {body : JournalBody} {j : Jnl} (h : j.ok) : (j.append time now body).1.ok := by
  obtain ⟨h1, h2, h3, h4, h5, h6, h7⟩ := h
  rcases append_cases time now body j with ⟨hm, h⟩ | ⟨hm, _, h⟩ | ⟨hm, hf, h⟩ <;> rw [h]
  · exact ⟨h1, h2, h3, h4, satSucc_le h5, h6, h7⟩
  · exact ⟨h1, h2, fun r hr => ⟨(h3 r hr).1, by have := (h3 r hr).2; simp [Jnl.drop]; omega⟩,
      by simp [Jnl.drop]; unfold maxSequence at hm; omega, satSucc_le h5, h6, h7⟩
  · have hu := store_unreported (time := time) (now := now) (body := body) h6
    rw [store_eq]
    refine ⟨?_, ?_, ?_, ?_, h5, hu, h7⟩
    · unfold Jnl.free at hf; simp; omega
    · rw [List.pairwise_append]
      refine ⟨h2, by simp, ?_⟩
      intro a ha b hb
      simp only [List.mem_singleton] at hb
      subst hb
      have := (h3 a ha).2
      simp; omega
    · intro r hr
      rcases List.mem_append.1 hr with hr | hr
      · exact ⟨(h3 r hr).1, by have := (h3 r hr).2; simp; omega⟩
      · simp only [List.mem_singleton] at hr
        subst hr
        simp
    · simp; unfold maxSequence at hm; omega

/-- What an append by a unit can do to the link. -/
theorem emits_journal (b : JournalBody) (s : State) : Emits s.lif (journal b s).lif :=
  emits_produceAll (append_singletons _ _ _ _)

theorem emits_journalWith_pendAll (b : JournalBody) (s : State) : Emits s.lif (journalWith pendAll b s).lif :=
  emits_pendAll (append_singletons _ _ _ _)

end Sys2Proof.Machine
end

