-- ==== Sys2Proof/Laws/Frames.lean ====
section
/-! SUPPORT. The frames of the shared operations: for each, one lemma per field that it leaves as it was. -/

namespace Sys2Proof.Machine

/-- A field that every step of a fold leaves is left by the fold. -/
theorem foldl_keeps {α β : Type} {g : State → β} {f : State → α → State} (h : ∀ s a, g (f s a) = g s) (as : List α)
    (s : State) : g (as.foldl f s) = g s := by
  induction as generalizing s with
  | nil => rfl
  | cons a as ih => rw [List.foldl_cons, ih, h]

/-! ### `holdAfterAdd` -/

@[simp] theorem holdAfterAdd_ciu (s : State) : (holdAfterAdd s).ciu = s.ciu := by
  unfold holdAfterAdd; split <;> simp
@[simp] theorem holdAfterAdd_dcu (s : State) : (holdAfterAdd s).dcu = s.dcu := by
  unfold holdAfterAdd; split <;> simp
@[simp] theorem holdAfterAdd_jcu (s : State) : (holdAfterAdd s).jcu = s.jcu := by
  unfold holdAfterAdd; split <;> simp
@[simp] theorem holdAfterAdd_rsu (s : State) : (holdAfterAdd s).rsu = s.rsu := by
  unfold holdAfterAdd; split <;> simp
@[simp] theorem holdAfterAdd_ven (s : State) : (holdAfterAdd s).ven = s.ven := by
  unfold holdAfterAdd; split <;> simp
@[simp] theorem holdAfterAdd_irg (s : State) : (holdAfterAdd s).irg = s.irg := by
  unfold holdAfterAdd; split <;> simp
@[simp] theorem holdAfterAdd_ctb (s : State) : (holdAfterAdd s).ctb = s.ctb := by
  unfold holdAfterAdd; split <;> simp
@[simp] theorem holdAfterAdd_jnl (s : State) : (holdAfterAdd s).jnl = s.jnl := by
  unfold holdAfterAdd; split <;> simp
@[simp] theorem holdAfterAdd_resetN (s : State) : (holdAfterAdd s).resetN = s.resetN := by
  unfold holdAfterAdd; split <;> simp
@[simp] theorem holdAfterAdd_timebase (s : State) : (holdAfterAdd s).timebase = s.timebase := by
  unfold holdAfterAdd; split <;> simp
@[simp] theorem holdAfterAdd_hostSent (s : State) : (holdAfterAdd s).hostSent = s.hostSent := by
  unfold holdAfterAdd; split <;> simp
@[simp] theorem holdAfterAdd_cardSent (s : State) : (holdAfterAdd s).cardSent = s.cardSent := by
  unfold holdAfterAdd; split <;> simp
@[simp] theorem holdAfterAdd_pending (s : State) : (holdAfterAdd s).pending = s.pending := by
  unfold holdAfterAdd; split <;> simp

/-! ### `resumeAfterTake` -/

@[simp] theorem resumeAfterTake_ciu (s : State) : (resumeAfterTake s).ciu = s.ciu := by
  unfold resumeAfterTake; split <;> simp
@[simp] theorem resumeAfterTake_dcu (s : State) : (resumeAfterTake s).dcu = s.dcu := by
  unfold resumeAfterTake; split <;> simp
@[simp] theorem resumeAfterTake_jcu (s : State) : (resumeAfterTake s).jcu = s.jcu := by
  unfold resumeAfterTake; split <;> simp
@[simp] theorem resumeAfterTake_rsu (s : State) : (resumeAfterTake s).rsu = s.rsu := by
  unfold resumeAfterTake; split <;> simp
@[simp] theorem resumeAfterTake_ven (s : State) : (resumeAfterTake s).ven = s.ven := by
  unfold resumeAfterTake; split <;> simp
@[simp] theorem resumeAfterTake_irg (s : State) : (resumeAfterTake s).irg = s.irg := by
  unfold resumeAfterTake; split <;> simp
@[simp] theorem resumeAfterTake_ctb (s : State) : (resumeAfterTake s).ctb = s.ctb := by
  unfold resumeAfterTake; split <;> simp
@[simp] theorem resumeAfterTake_jnl (s : State) : (resumeAfterTake s).jnl = s.jnl := by
  unfold resumeAfterTake; split <;> simp
@[simp] theorem resumeAfterTake_resetN (s : State) : (resumeAfterTake s).resetN = s.resetN := by
  unfold resumeAfterTake; split <;> simp
@[simp] theorem resumeAfterTake_timebase (s : State) : (resumeAfterTake s).timebase = s.timebase := by
  unfold resumeAfterTake; split <;> simp
@[simp] theorem resumeAfterTake_hostSent (s : State) : (resumeAfterTake s).hostSent = s.hostSent := by
  unfold resumeAfterTake; split <;> simp
@[simp] theorem resumeAfterTake_cardSent (s : State) : (resumeAfterTake s).cardSent = s.cardSent := by
  unfold resumeAfterTake; split <;> simp
@[simp] theorem resumeAfterTake_pending (s : State) : (resumeAfterTake s).pending = s.pending := by
  unfold resumeAfterTake; split <;> simp

/-! ### `addEntry` -/

@[simp] theorem addEntry_ciu (o : Origin) (x : List Byte) (s : State) : (addEntry o x s).ciu = s.ciu := by
  simp [addEntry]
@[simp] theorem addEntry_dcu (o : Origin) (x : List Byte) (s : State) : (addEntry o x s).dcu = s.dcu := by
  simp [addEntry]
@[simp] theorem addEntry_jcu (o : Origin) (x : List Byte) (s : State) : (addEntry o x s).jcu = s.jcu := by
  simp [addEntry]
@[simp] theorem addEntry_rsu (o : Origin) (x : List Byte) (s : State) : (addEntry o x s).rsu = s.rsu := by
  simp [addEntry]
@[simp] theorem addEntry_ven (o : Origin) (x : List Byte) (s : State) : (addEntry o x s).ven = s.ven := by
  simp [addEntry]
@[simp] theorem addEntry_irg (o : Origin) (x : List Byte) (s : State) : (addEntry o x s).irg = s.irg := by
  simp [addEntry]
@[simp] theorem addEntry_ctb (o : Origin) (x : List Byte) (s : State) : (addEntry o x s).ctb = s.ctb := by
  simp [addEntry]
@[simp] theorem addEntry_jnl (o : Origin) (x : List Byte) (s : State) : (addEntry o x s).jnl = s.jnl := by
  simp [addEntry]
@[simp] theorem addEntry_resetN (o : Origin) (x : List Byte) (s : State) : (addEntry o x s).resetN = s.resetN := by
  simp [addEntry]
@[simp] theorem addEntry_timebase (o : Origin) (x : List Byte) (s : State) : (addEntry o x s).timebase = s.timebase := by
  simp [addEntry]
@[simp] theorem addEntry_hostSent (o : Origin) (x : List Byte) (s : State) : (addEntry o x s).hostSent = s.hostSent := by
  simp [addEntry]
@[simp] theorem addEntry_cardSent (o : Origin) (x : List Byte) (s : State) : (addEntry o x s).cardSent = s.cardSent := by
  simp [addEntry]
@[simp] theorem addEntry_pending (o : Origin) (x : List Byte) (s : State) : (addEntry o x s).pending = s.pending := by
  simp [addEntry]

/-! ### `startNotice` -/

@[simp] theorem startNotice_iq (c : StartCause) (s : State) : (startNotice c s).iq = s.iq := by
  simp [startNotice]
@[simp] theorem startNotice_ciu (c : StartCause) (s : State) : (startNotice c s).ciu = s.ciu := by
  simp [startNotice]
@[simp] theorem startNotice_dcu (c : StartCause) (s : State) : (startNotice c s).dcu = s.dcu := by
  simp [startNotice]
@[simp] theorem startNotice_jcu (c : StartCause) (s : State) : (startNotice c s).jcu = s.jcu := by
  simp [startNotice]
@[simp] theorem startNotice_rsu (c : StartCause) (s : State) : (startNotice c s).rsu = s.rsu := by
  simp [startNotice]
@[simp] theorem startNotice_ven (c : StartCause) (s : State) : (startNotice c s).ven = s.ven := by
  simp [startNotice]
@[simp] theorem startNotice_irg (c : StartCause) (s : State) : (startNotice c s).irg = s.irg := by
  simp [startNotice]
@[simp] theorem startNotice_ctb (c : StartCause) (s : State) : (startNotice c s).ctb = s.ctb := by
  simp [startNotice]
@[simp] theorem startNotice_jnl (c : StartCause) (s : State) : (startNotice c s).jnl = s.jnl := by
  simp [startNotice]
@[simp] theorem startNotice_resetN (c : StartCause) (s : State) : (startNotice c s).resetN = s.resetN := by
  simp [startNotice]
@[simp] theorem startNotice_timebase (c : StartCause) (s : State) : (startNotice c s).timebase = s.timebase := by
  simp [startNotice]
@[simp] theorem startNotice_hostSent (c : StartCause) (s : State) : (startNotice c s).hostSent = s.hostSent := by
  simp [startNotice]
@[simp] theorem startNotice_cardSent (c : StartCause) (s : State) : (startNotice c s).cardSent = s.cardSent := by
  simp [startNotice]
@[simp] theorem startNotice_pending (c : StartCause) (s : State) : (startNotice c s).pending = s.pending := by
  simp [startNotice]

/-! ### `startResolutionWrite` -/

@[simp] theorem startResolutionWrite_lif (c : Case) (k : Counter) (n : Nat) (s : State) :
    (startResolutionWrite c k n s).lif = s.lif := by
  simp [startResolutionWrite]
@[simp] theorem startResolutionWrite_iq (c : Case) (k : Counter) (n : Nat) (s : State) :
    (startResolutionWrite c k n s).iq = s.iq := by
  simp [startResolutionWrite]
@[simp] theorem startResolutionWrite_dcu (c : Case) (k : Counter) (n : Nat) (s : State) :
    (startResolutionWrite c k n s).dcu = s.dcu := by
  simp [startResolutionWrite]
@[simp] theorem startResolutionWrite_jcu (c : Case) (k : Counter) (n : Nat) (s : State) :
    (startResolutionWrite c k n s).jcu = s.jcu := by
  simp [startResolutionWrite]
@[simp] theorem startResolutionWrite_rsu (c : Case) (k : Counter) (n : Nat) (s : State) :
    (startResolutionWrite c k n s).rsu = s.rsu := by
  simp [startResolutionWrite]
@[simp] theorem startResolutionWrite_ven (c : Case) (k : Counter) (n : Nat) (s : State) :
    (startResolutionWrite c k n s).ven = s.ven := by
  simp [startResolutionWrite]
@[simp] theorem startResolutionWrite_jnl (c : Case) (k : Counter) (n : Nat) (s : State) :
    (startResolutionWrite c k n s).jnl = s.jnl := by
  simp [startResolutionWrite]
@[simp] theorem startResolutionWrite_resetN (c : Case) (k : Counter) (n : Nat) (s : State) :
    (startResolutionWrite c k n s).resetN = s.resetN := by
  simp [startResolutionWrite]
@[simp] theorem startResolutionWrite_timebase (c : Case) (k : Counter) (n : Nat) (s : State) :
    (startResolutionWrite c k n s).timebase = s.timebase := by
  simp [startResolutionWrite]
@[simp] theorem startResolutionWrite_hostSent (c : Case) (k : Counter) (n : Nat) (s : State) :
    (startResolutionWrite c k n s).hostSent = s.hostSent := by
  simp [startResolutionWrite]
@[simp] theorem startResolutionWrite_cardSent (c : Case) (k : Counter) (n : Nat) (s : State) :
    (startResolutionWrite c k n s).cardSent = s.cardSent := by
  simp [startResolutionWrite]
@[simp] theorem startResolutionWrite_pending (c : Case) (k : Counter) (n : Nat) (s : State) :
    (startResolutionWrite c k n s).pending = s.pending := by
  simp [startResolutionWrite]

/-! ### `takeCaseRide` -/

@[simp] theorem takeCaseRide_lif (c : Case) (s : State) : (takeCaseRide c s).1.lif = s.lif := by
  unfold takeCaseRide; (repeat' split) <;> simp
@[simp] theorem takeCaseRide_iq (c : Case) (s : State) : (takeCaseRide c s).1.iq = s.iq := by
  unfold takeCaseRide; (repeat' split) <;> simp
@[simp] theorem takeCaseRide_dcu (c : Case) (s : State) : (takeCaseRide c s).1.dcu = s.dcu := by
  unfold takeCaseRide; (repeat' split) <;> simp
@[simp] theorem takeCaseRide_jcu (c : Case) (s : State) : (takeCaseRide c s).1.jcu = s.jcu := by
  unfold takeCaseRide; (repeat' split) <;> simp
@[simp] theorem takeCaseRide_rsu (c : Case) (s : State) : (takeCaseRide c s).1.rsu = s.rsu := by
  unfold takeCaseRide; (repeat' split) <;> simp
@[simp] theorem takeCaseRide_ven (c : Case) (s : State) : (takeCaseRide c s).1.ven = s.ven := by
  unfold takeCaseRide; (repeat' split) <;> simp
@[simp] theorem takeCaseRide_jnl (c : Case) (s : State) : (takeCaseRide c s).1.jnl = s.jnl := by
  unfold takeCaseRide; (repeat' split) <;> simp
@[simp] theorem takeCaseRide_resetN (c : Case) (s : State) : (takeCaseRide c s).1.resetN = s.resetN := by
  unfold takeCaseRide; (repeat' split) <;> simp
@[simp] theorem takeCaseRide_timebase (c : Case) (s : State) : (takeCaseRide c s).1.timebase = s.timebase := by
  unfold takeCaseRide; (repeat' split) <;> simp
@[simp] theorem takeCaseRide_hostSent (c : Case) (s : State) : (takeCaseRide c s).1.hostSent = s.hostSent := by
  unfold takeCaseRide; (repeat' split) <;> simp
@[simp] theorem takeCaseRide_cardSent (c : Case) (s : State) : (takeCaseRide c s).1.cardSent = s.cardSent := by
  unfold takeCaseRide; (repeat' split) <;> simp
@[simp] theorem takeCaseRide_pending (c : Case) (s : State) : (takeCaseRide c s).1.pending = s.pending := by
  unfold takeCaseRide; (repeat' split) <;> simp

/-! ### `decisionEffects` -/

@[simp] theorem decisionEffects_lif (d : CaseOutcome) (c : Case) (s : State) :
    (decisionEffects d c s).1.lif = s.lif := by
  unfold decisionEffects; (repeat' split) <;> simp
@[simp] theorem decisionEffects_iq (d : CaseOutcome) (c : Case) (s : State) : (decisionEffects d c s).1.iq = s.iq := by
  unfold decisionEffects; (repeat' split) <;> simp
@[simp] theorem decisionEffects_dcu (d : CaseOutcome) (c : Case) (s : State) :
    (decisionEffects d c s).1.dcu = s.dcu := by
  unfold decisionEffects; (repeat' split) <;> simp
@[simp] theorem decisionEffects_jcu (d : CaseOutcome) (c : Case) (s : State) :
    (decisionEffects d c s).1.jcu = s.jcu := by
  unfold decisionEffects; (repeat' split) <;> simp
@[simp] theorem decisionEffects_rsu (d : CaseOutcome) (c : Case) (s : State) :
    (decisionEffects d c s).1.rsu = s.rsu := by
  unfold decisionEffects; (repeat' split) <;> simp
@[simp] theorem decisionEffects_ven (d : CaseOutcome) (c : Case) (s : State) :
    (decisionEffects d c s).1.ven = s.ven := by
  unfold decisionEffects; (repeat' split) <;> simp
@[simp] theorem decisionEffects_jnl (d : CaseOutcome) (c : Case) (s : State) :
    (decisionEffects d c s).1.jnl = s.jnl := by
  unfold decisionEffects; (repeat' split) <;> simp
@[simp] theorem decisionEffects_resetN (d : CaseOutcome) (c : Case) (s : State) :
    (decisionEffects d c s).1.resetN = s.resetN := by
  unfold decisionEffects; (repeat' split) <;> simp
@[simp] theorem decisionEffects_timebase (d : CaseOutcome) (c : Case) (s : State) :
    (decisionEffects d c s).1.timebase = s.timebase := by
  unfold decisionEffects; (repeat' split) <;> simp
@[simp] theorem decisionEffects_hostSent (d : CaseOutcome) (c : Case) (s : State) :
    (decisionEffects d c s).1.hostSent = s.hostSent := by
  unfold decisionEffects; (repeat' split) <;> simp
@[simp] theorem decisionEffects_cardSent (d : CaseOutcome) (c : Case) (s : State) :
    (decisionEffects d c s).1.cardSent = s.cardSent := by
  unfold decisionEffects; (repeat' split) <;> simp
@[simp] theorem decisionEffects_pending (d : CaseOutcome) (c : Case) (s : State) :
    (decisionEffects d c s).1.pending = s.pending := by
  unfold decisionEffects; (repeat' split) <;> simp

/-! ### `detachCase` -/

@[simp] theorem detachCase_lif (c : Case) (s : State) : (detachCase c s).lif = s.lif := by
  unfold detachCase; split <;> simp
@[simp] theorem detachCase_iq (c : Case) (s : State) : (detachCase c s).iq = s.iq := by
  unfold detachCase; split <;> simp
@[simp] theorem detachCase_ciu (c : Case) (s : State) : (detachCase c s).ciu = s.ciu := by
  unfold detachCase; split <;> simp
@[simp] theorem detachCase_dcu (c : Case) (s : State) : (detachCase c s).dcu = s.dcu := by
  unfold detachCase; split <;> simp
@[simp] theorem detachCase_jcu (c : Case) (s : State) : (detachCase c s).jcu = s.jcu := by
  unfold detachCase; split <;> simp
@[simp] theorem detachCase_rsu (c : Case) (s : State) : (detachCase c s).rsu = s.rsu := by
  unfold detachCase; split <;> simp
@[simp] theorem detachCase_ven (c : Case) (s : State) : (detachCase c s).ven = s.ven := by
  unfold detachCase; split <;> simp
@[simp] theorem detachCase_jnl (c : Case) (s : State) : (detachCase c s).jnl = s.jnl := by
  unfold detachCase; split <;> simp
@[simp] theorem detachCase_resetN (c : Case) (s : State) : (detachCase c s).resetN = s.resetN := by
  unfold detachCase; split <;> simp
@[simp] theorem detachCase_timebase (c : Case) (s : State) : (detachCase c s).timebase = s.timebase := by
  unfold detachCase; split <;> simp
@[simp] theorem detachCase_hostSent (c : Case) (s : State) : (detachCase c s).hostSent = s.hostSent := by
  unfold detachCase; split <;> simp
@[simp] theorem detachCase_cardSent (c : Case) (s : State) : (detachCase c s).cardSent = s.cardSent := by
  unfold detachCase; split <;> simp
@[simp] theorem detachCase_pending (c : Case) (s : State) : (detachCase c s).pending = s.pending := by
  unfold detachCase; split <;> simp

/-! ### `queueCaseClosed` -/

@[simp] theorem queueCaseClosed_iq (c : ClosedCase) (s : State) : (queueCaseClosed c s).iq = s.iq := by
  unfold queueCaseClosed; split <;> simp
@[simp] theorem queueCaseClosed_ciu (c : ClosedCase) (s : State) : (queueCaseClosed c s).ciu = s.ciu := by
  unfold queueCaseClosed; split <;> simp
@[simp] theorem queueCaseClosed_dcu (c : ClosedCase) (s : State) : (queueCaseClosed c s).dcu = s.dcu := by
  unfold queueCaseClosed; split <;> simp
@[simp] theorem queueCaseClosed_jcu (c : ClosedCase) (s : State) : (queueCaseClosed c s).jcu = s.jcu := by
  unfold queueCaseClosed; split <;> simp
@[simp] theorem queueCaseClosed_rsu (c : ClosedCase) (s : State) : (queueCaseClosed c s).rsu = s.rsu := by
  unfold queueCaseClosed; split <;> simp
@[simp] theorem queueCaseClosed_ven (c : ClosedCase) (s : State) : (queueCaseClosed c s).ven = s.ven := by
  unfold queueCaseClosed; split <;> simp
@[simp] theorem queueCaseClosed_irg (c : ClosedCase) (s : State) : (queueCaseClosed c s).irg = s.irg := by
  unfold queueCaseClosed; split <;> simp
@[simp] theorem queueCaseClosed_jnl (c : ClosedCase) (s : State) : (queueCaseClosed c s).jnl = s.jnl := by
  unfold queueCaseClosed; split <;> simp
@[simp] theorem queueCaseClosed_resetN (c : ClosedCase) (s : State) : (queueCaseClosed c s).resetN = s.resetN := by
  unfold queueCaseClosed; split <;> simp
@[simp] theorem queueCaseClosed_timebase (c : ClosedCase) (s : State) : (queueCaseClosed c s).timebase = s.timebase := by
  unfold queueCaseClosed; split <;> simp
@[simp] theorem queueCaseClosed_hostSent (c : ClosedCase) (s : State) : (queueCaseClosed c s).hostSent = s.hostSent := by
  unfold queueCaseClosed; split <;> simp
@[simp] theorem queueCaseClosed_cardSent (c : ClosedCase) (s : State) : (queueCaseClosed c s).cardSent = s.cardSent := by
  unfold queueCaseClosed; split <;> simp
@[simp] theorem queueCaseClosed_pending (c : ClosedCase) (s : State) : (queueCaseClosed c s).pending = s.pending := by
  unfold queueCaseClosed; split <;> simp

/-! ### `closeCase` -/

@[simp] theorem closeCase_iq (o : CaseOutcome) (r : RideOutcome) (n : Option Nat) (c : Case) (s : State) :
    (closeCase o r n c s).iq = s.iq := by
  simp [closeCase]
@[simp] theorem closeCase_ciu (o : CaseOutcome) (r : RideOutcome) (n : Option Nat) (c : Case) (s : State) :
    (closeCase o r n c s).ciu = s.ciu := by
  simp [closeCase]
@[simp] theorem closeCase_dcu (o : CaseOutcome) (r : RideOutcome) (n : Option Nat) (c : Case) (s : State) :
    (closeCase o r n c s).dcu = s.dcu := by
  simp [closeCase]
@[simp] theorem closeCase_jcu (o : CaseOutcome) (r : RideOutcome) (n : Option Nat) (c : Case) (s : State) :
    (closeCase o r n c s).jcu = s.jcu := by
  simp [closeCase]
@[simp] theorem closeCase_rsu (o : CaseOutcome) (r : RideOutcome) (n : Option Nat) (c : Case) (s : State) :
    (closeCase o r n c s).rsu = s.rsu := by
  simp [closeCase]
@[simp] theorem closeCase_ven (o : CaseOutcome) (r : RideOutcome) (n : Option Nat) (c : Case) (s : State) :
    (closeCase o r n c s).ven = s.ven := by
  simp [closeCase]
@[simp] theorem closeCase_resetN (o : CaseOutcome) (r : RideOutcome) (n : Option Nat) (c : Case) (s : State) :
    (closeCase o r n c s).resetN = s.resetN := by
  simp [closeCase]
@[simp] theorem closeCase_timebase (o : CaseOutcome) (r : RideOutcome) (n : Option Nat) (c : Case) (s : State) :
    (closeCase o r n c s).timebase = s.timebase := by
  simp [closeCase]
@[simp] theorem closeCase_hostSent (o : CaseOutcome) (r : RideOutcome) (n : Option Nat) (c : Case) (s : State) :
    (closeCase o r n c s).hostSent = s.hostSent := by
  simp [closeCase]
@[simp] theorem closeCase_cardSent (o : CaseOutcome) (r : RideOutcome) (n : Option Nat) (c : Case) (s : State) :
    (closeCase o r n c s).cardSent = s.cardSent := by
  simp [closeCase]
@[simp] theorem closeCase_pending (o : CaseOutcome) (r : RideOutcome) (n : Option Nat) (c : Case) (s : State) :
    (closeCase o r n c s).pending = s.pending := by
  simp [closeCase]

/-! ### `timeOutCase` -/

@[simp] theorem timeOutCase_iq (c : Case) (s : State) : (timeOutCase c s).iq = s.iq := by
  simp [timeOutCase]
@[simp] theorem timeOutCase_ciu (c : Case) (s : State) : (timeOutCase c s).ciu = s.ciu := by
  simp [timeOutCase]
@[simp] theorem timeOutCase_dcu (c : Case) (s : State) : (timeOutCase c s).dcu = s.dcu := by
  simp [timeOutCase]
@[simp] theorem timeOutCase_jcu (c : Case) (s : State) : (timeOutCase c s).jcu = s.jcu := by
  simp [timeOutCase]
@[simp] theorem timeOutCase_rsu (c : Case) (s : State) : (timeOutCase c s).rsu = s.rsu := by
  simp [timeOutCase]
@[simp] theorem timeOutCase_ven (c : Case) (s : State) : (timeOutCase c s).ven = s.ven := by
  simp [timeOutCase]
@[simp] theorem timeOutCase_resetN (c : Case) (s : State) : (timeOutCase c s).resetN = s.resetN := by
  simp [timeOutCase]
@[simp] theorem timeOutCase_timebase (c : Case) (s : State) : (timeOutCase c s).timebase = s.timebase := by
  simp [timeOutCase]
@[simp] theorem timeOutCase_hostSent (c : Case) (s : State) : (timeOutCase c s).hostSent = s.hostSent := by
  simp [timeOutCase]
@[simp] theorem timeOutCase_cardSent (c : Case) (s : State) : (timeOutCase c s).cardSent = s.cardSent := by
  simp [timeOutCase]
@[simp] theorem timeOutCase_pending (c : Case) (s : State) : (timeOutCase c s).pending = s.pending := by
  simp [timeOutCase]

/-! ### `timeOutCases` -/

@[simp] theorem timeOutCases_iq (s : State) : (timeOutCases s).iq = s.iq := foldl_keeps (fun s c => timeOutCase_iq c s) _ s
@[simp] theorem timeOutCases_ciu (s : State) : (timeOutCases s).ciu = s.ciu := foldl_keeps (fun s c => timeOutCase_ciu c s) _ s
@[simp] theorem timeOutCases_dcu (s : State) : (timeOutCases s).dcu = s.dcu := foldl_keeps (fun s c => timeOutCase_dcu c s) _ s
@[simp] theorem timeOutCases_jcu (s : State) : (timeOutCases s).jcu = s.jcu := foldl_keeps (fun s c => timeOutCase_jcu c s) _ s
@[simp] theorem timeOutCases_rsu (s : State) : (timeOutCases s).rsu = s.rsu := foldl_keeps (fun s c => timeOutCase_rsu c s) _ s
@[simp] theorem timeOutCases_ven (s : State) : (timeOutCases s).ven = s.ven := foldl_keeps (fun s c => timeOutCase_ven c s) _ s
@[simp] theorem timeOutCases_resetN (s : State) : (timeOutCases s).resetN = s.resetN := foldl_keeps (fun s c => timeOutCase_resetN c s) _ s
@[simp] theorem timeOutCases_timebase (s : State) : (timeOutCases s).timebase = s.timebase := foldl_keeps (fun s c => timeOutCase_timebase c s) _ s
@[simp] theorem timeOutCases_hostSent (s : State) : (timeOutCases s).hostSent = s.hostSent := foldl_keeps (fun s c => timeOutCase_hostSent c s) _ s
@[simp] theorem timeOutCases_cardSent (s : State) : (timeOutCases s).cardSent = s.cardSent := foldl_keeps (fun s c => timeOutCase_cardSent c s) _ s
@[simp] theorem timeOutCases_pending (s : State) : (timeOutCases s).pending = s.pending := foldl_keeps (fun s c => timeOutCase_pending c s) _ s

/-! ### `endResolutionWrite` -/

@[simp] theorem endResolutionWrite_iq (d : Bool) (s : State) : (endResolutionWrite d s).1.iq = s.iq := by
  unfold endResolutionWrite; split <;> simp
@[simp] theorem endResolutionWrite_ciu (d : Bool) (s : State) : (endResolutionWrite d s).1.ciu = s.ciu := by
  unfold endResolutionWrite; split <;> simp
@[simp] theorem endResolutionWrite_dcu (d : Bool) (s : State) : (endResolutionWrite d s).1.dcu = s.dcu := by
  unfold endResolutionWrite; split <;> simp
@[simp] theorem endResolutionWrite_jcu (d : Bool) (s : State) : (endResolutionWrite d s).1.jcu = s.jcu := by
  unfold endResolutionWrite; split <;> simp
@[simp] theorem endResolutionWrite_rsu (d : Bool) (s : State) : (endResolutionWrite d s).1.rsu = s.rsu := by
  unfold endResolutionWrite; split <;> simp
@[simp] theorem endResolutionWrite_ven (d : Bool) (s : State) : (endResolutionWrite d s).1.ven = s.ven := by
  unfold endResolutionWrite; split <;> simp
@[simp] theorem endResolutionWrite_resetN (d : Bool) (s : State) : (endResolutionWrite d s).1.resetN = s.resetN := by
  unfold endResolutionWrite; split <;> simp
@[simp] theorem endResolutionWrite_timebase (d : Bool) (s : State) :
    (endResolutionWrite d s).1.timebase = s.timebase := by
  unfold endResolutionWrite; split <;> simp
@[simp] theorem endResolutionWrite_hostSent (d : Bool) (s : State) :
    (endResolutionWrite d s).1.hostSent = s.hostSent := by
  unfold endResolutionWrite; split <;> simp
@[simp] theorem endResolutionWrite_cardSent (d : Bool) (s : State) :
    (endResolutionWrite d s).1.cardSent = s.cardSent := by
  unfold endResolutionWrite; split <;> simp
@[simp] theorem endResolutionWrite_pending (d : Bool) (s : State) : (endResolutionWrite d s).1.pending = s.pending := by
  unfold endResolutionWrite; split <;> simp

/-! ### `openCase` -/

@[simp] theorem openCase_lif (c : Credential) (ev : Evaluation) (s : State) : (openCase c ev s).1.lif = s.lif := by
  unfold openCase; split
  · simp only; split <;> rfl
  · rfl
@[simp] theorem openCase_iq (c : Credential) (ev : Evaluation) (s : State) : (openCase c ev s).1.iq = s.iq := by
  unfold openCase; split
  · simp only; split <;> rfl
  · rfl
@[simp] theorem openCase_ciu (c : Credential) (ev : Evaluation) (s : State) : (openCase c ev s).1.ciu = s.ciu := by
  unfold openCase; split
  · simp only; split <;> rfl
  · rfl
@[simp] theorem openCase_dcu (c : Credential) (ev : Evaluation) (s : State) : (openCase c ev s).1.dcu = s.dcu := by
  unfold openCase; split
  · simp only; split <;> rfl
  · rfl
@[simp] theorem openCase_jcu (c : Credential) (ev : Evaluation) (s : State) : (openCase c ev s).1.jcu = s.jcu := by
  unfold openCase; split
  · simp only; split <;> rfl
  · rfl
@[simp] theorem openCase_rsu (c : Credential) (ev : Evaluation) (s : State) : (openCase c ev s).1.rsu = s.rsu := by
  unfold openCase; split
  · simp only; split <;> rfl
  · rfl
@[simp] theorem openCase_ven (c : Credential) (ev : Evaluation) (s : State) : (openCase c ev s).1.ven = s.ven := by
  unfold openCase; split
  · simp only; split <;> rfl
  · rfl
@[simp] theorem openCase_jnl (c : Credential) (ev : Evaluation) (s : State) : (openCase c ev s).1.jnl = s.jnl := by
  unfold openCase; split
  · simp only; split <;> rfl
  · rfl
@[simp] theorem openCase_resetN (c : Credential) (ev : Evaluation) (s : State) :
    (openCase c ev s).1.resetN = s.resetN := by
  unfold openCase; split
  · simp only; split <;> rfl
  · rfl
@[simp] theorem openCase_timebase (c : Credential) (ev : Evaluation) (s : State) :
    (openCase c ev s).1.timebase = s.timebase := by
  unfold openCase; split
  · simp only; split <;> rfl
  · rfl
@[simp] theorem openCase_hostSent (c : Credential) (ev : Evaluation) (s : State) :
    (openCase c ev s).1.hostSent = s.hostSent := by
  unfold openCase; split
  · simp only; split <;> rfl
  · rfl
@[simp] theorem openCase_cardSent (c : Credential) (ev : Evaluation) (s : State) :
    (openCase c ev s).1.cardSent = s.cardSent := by
  unfold openCase; split
  · simp only; split <;> rfl
  · rfl
@[simp] theorem openCase_pending (c : Credential) (ev : Evaluation) (s : State) :
    (openCase c ev s).1.pending = s.pending := by
  unfold openCase; split
  · simp only; split <;> rfl
  · rfl

/-! ### `endParkedWrite` -/

@[simp] theorem endParkedWrite_lif (d : Bool) (s : State) : (endParkedWrite d s).1.lif = s.lif := by
  unfold endParkedWrite; (repeat' split) <;> simp
  split <;> simp
@[simp] theorem endParkedWrite_iq (d : Bool) (s : State) : (endParkedWrite d s).1.iq = s.iq := by
  unfold endParkedWrite; (repeat' split) <;> simp
  split <;> simp
@[simp] theorem endParkedWrite_ciu (d : Bool) (s : State) : (endParkedWrite d s).1.ciu = s.ciu := by
  unfold endParkedWrite; (repeat' split) <;> simp
  split <;> simp
@[simp] theorem endParkedWrite_dcu (d : Bool) (s : State) : (endParkedWrite d s).1.dcu = s.dcu := by
  unfold endParkedWrite; (repeat' split) <;> simp
  split <;> simp
@[simp] theorem endParkedWrite_jcu (d : Bool) (s : State) : (endParkedWrite d s).1.jcu = s.jcu := by
  unfold endParkedWrite; (repeat' split) <;> simp
  split <;> simp
@[simp] theorem endParkedWrite_rsu (d : Bool) (s : State) : (endParkedWrite d s).1.rsu = s.rsu := by
  unfold endParkedWrite; (repeat' split) <;> simp
  split <;> simp
@[simp] theorem endParkedWrite_ctb (d : Bool) (s : State) : (endParkedWrite d s).1.ctb = s.ctb := by
  unfold endParkedWrite; (repeat' split) <;> simp
  split <;> simp
@[simp] theorem endParkedWrite_jnl (d : Bool) (s : State) : (endParkedWrite d s).1.jnl = s.jnl := by
  unfold endParkedWrite; (repeat' split) <;> simp
  split <;> simp
@[simp] theorem endParkedWrite_resetN (d : Bool) (s : State) : (endParkedWrite d s).1.resetN = s.resetN := by
  unfold endParkedWrite; (repeat' split) <;> simp
  split <;> simp
@[simp] theorem endParkedWrite_timebase (d : Bool) (s : State) : (endParkedWrite d s).1.timebase = s.timebase := by
  unfold endParkedWrite; (repeat' split) <;> simp
  split <;> simp
@[simp] theorem endParkedWrite_hostSent (d : Bool) (s : State) : (endParkedWrite d s).1.hostSent = s.hostSent := by
  unfold endParkedWrite; (repeat' split) <;> simp
  split <;> simp
@[simp] theorem endParkedWrite_cardSent (d : Bool) (s : State) : (endParkedWrite d s).1.cardSent = s.cardSent := by
  unfold endParkedWrite; (repeat' split) <;> simp
  split <;> simp
@[simp] theorem endParkedWrite_pending (d : Bool) (s : State) : (endParkedWrite d s).1.pending = s.pending := by
  unfold endParkedWrite; (repeat' split) <;> simp
  split <;> simp

/-! ### `reportCard` -/

@[simp] theorem reportCard_iq (e : CardEventKind) (o : Option Nat) (a : CardState) (s : State) :
    (reportCard e o a s).iq = s.iq := by
  unfold reportCard; split <;> simp
@[simp] theorem reportCard_dcu (e : CardEventKind) (o : Option Nat) (a : CardState) (s : State) :
    (reportCard e o a s).dcu = s.dcu := by
  unfold reportCard; split <;> simp
@[simp] theorem reportCard_jcu (e : CardEventKind) (o : Option Nat) (a : CardState) (s : State) :
    (reportCard e o a s).jcu = s.jcu := by
  unfold reportCard; split <;> simp
@[simp] theorem reportCard_rsu (e : CardEventKind) (o : Option Nat) (a : CardState) (s : State) :
    (reportCard e o a s).rsu = s.rsu := by
  unfold reportCard; split <;> simp
@[simp] theorem reportCard_ven (e : CardEventKind) (o : Option Nat) (a : CardState) (s : State) :
    (reportCard e o a s).ven = s.ven := by
  unfold reportCard; split <;> simp
@[simp] theorem reportCard_irg (e : CardEventKind) (o : Option Nat) (a : CardState) (s : State) :
    (reportCard e o a s).irg = s.irg := by
  unfold reportCard; split <;> simp
@[simp] theorem reportCard_ctb (e : CardEventKind) (o : Option Nat) (a : CardState) (s : State) :
    (reportCard e o a s).ctb = s.ctb := by
  unfold reportCard; split <;> simp
@[simp] theorem reportCard_jnl (e : CardEventKind) (o : Option Nat) (a : CardState) (s : State) :
    (reportCard e o a s).jnl = s.jnl := by
  unfold reportCard; split <;> simp
@[simp] theorem reportCard_resetN (e : CardEventKind) (o : Option Nat) (a : CardState) (s : State) :
    (reportCard e o a s).resetN = s.resetN := by
  unfold reportCard; split <;> simp
@[simp] theorem reportCard_timebase (e : CardEventKind) (o : Option Nat) (a : CardState) (s : State) :
    (reportCard e o a s).timebase = s.timebase := by
  unfold reportCard; split <;> simp
@[simp] theorem reportCard_hostSent (e : CardEventKind) (o : Option Nat) (a : CardState) (s : State) :
    (reportCard e o a s).hostSent = s.hostSent := by
  unfold reportCard; split <;> simp
@[simp] theorem reportCard_cardSent (e : CardEventKind) (o : Option Nat) (a : CardState) (s : State) :
    (reportCard e o a s).cardSent = s.cardSent := by
  unfold reportCard; split <;> simp
@[simp] theorem reportCard_pending (e : CardEventKind) (o : Option Nat) (a : CardState) (s : State) :
    (reportCard e o a s).pending = s.pending := by
  unfold reportCard; split <;> simp

/-! ### `failRead` -/

@[simp] theorem failRead_iq (e : CardEventKind) (s : State) : (failRead e s).iq = s.iq := by
  simp [failRead]
@[simp] theorem failRead_dcu (e : CardEventKind) (s : State) : (failRead e s).dcu = s.dcu := by
  simp [failRead]
@[simp] theorem failRead_jcu (e : CardEventKind) (s : State) : (failRead e s).jcu = s.jcu := by
  simp [failRead]
@[simp] theorem failRead_rsu (e : CardEventKind) (s : State) : (failRead e s).rsu = s.rsu := by
  simp [failRead]
@[simp] theorem failRead_ven (e : CardEventKind) (s : State) : (failRead e s).ven = s.ven := by
  simp [failRead]
@[simp] theorem failRead_irg (e : CardEventKind) (s : State) : (failRead e s).irg = s.irg := by
  simp [failRead]
@[simp] theorem failRead_ctb (e : CardEventKind) (s : State) : (failRead e s).ctb = s.ctb := by
  simp [failRead]
@[simp] theorem failRead_jnl (e : CardEventKind) (s : State) : (failRead e s).jnl = s.jnl := by
  simp [failRead]
@[simp] theorem failRead_resetN (e : CardEventKind) (s : State) : (failRead e s).resetN = s.resetN := by
  simp [failRead]
@[simp] theorem failRead_timebase (e : CardEventKind) (s : State) : (failRead e s).timebase = s.timebase := by
  simp [failRead]
@[simp] theorem failRead_hostSent (e : CardEventKind) (s : State) : (failRead e s).hostSent = s.hostSent := by
  simp [failRead]
@[simp] theorem failRead_cardSent (e : CardEventKind) (s : State) : (failRead e s).cardSent = s.cardSent := by
  simp [failRead]
@[simp] theorem failRead_pending (e : CardEventKind) (s : State) : (failRead e s).pending = s.pending := by
  simp [failRead]

/-! ### `lineError` -/

@[simp] theorem lineError_iq (e : CardEventKind) (s : State) : (lineError e s).iq = s.iq := by
  unfold lineError; split <;> simp
@[simp] theorem lineError_dcu (e : CardEventKind) (s : State) : (lineError e s).dcu = s.dcu := by
  unfold lineError; split <;> simp
@[simp] theorem lineError_jcu (e : CardEventKind) (s : State) : (lineError e s).jcu = s.jcu := by
  unfold lineError; split <;> simp
@[simp] theorem lineError_rsu (e : CardEventKind) (s : State) : (lineError e s).rsu = s.rsu := by
  unfold lineError; split <;> simp
@[simp] theorem lineError_ven (e : CardEventKind) (s : State) : (lineError e s).ven = s.ven := by
  unfold lineError; split <;> simp
@[simp] theorem lineError_irg (e : CardEventKind) (s : State) : (lineError e s).irg = s.irg := by
  unfold lineError; split <;> simp
@[simp] theorem lineError_ctb (e : CardEventKind) (s : State) : (lineError e s).ctb = s.ctb := by
  unfold lineError; split <;> simp
@[simp] theorem lineError_jnl (e : CardEventKind) (s : State) : (lineError e s).jnl = s.jnl := by
  unfold lineError; split <;> simp
@[simp] theorem lineError_resetN (e : CardEventKind) (s : State) : (lineError e s).resetN = s.resetN := by
  unfold lineError; split <;> simp
@[simp] theorem lineError_timebase (e : CardEventKind) (s : State) : (lineError e s).timebase = s.timebase := by
  unfold lineError; split <;> simp
@[simp] theorem lineError_hostSent (e : CardEventKind) (s : State) : (lineError e s).hostSent = s.hostSent := by
  unfold lineError; split <;> simp
@[simp] theorem lineError_cardSent (e : CardEventKind) (s : State) : (lineError e s).cardSent = s.cardSent := by
  unfold lineError; split <;> simp
@[simp] theorem lineError_pending (e : CardEventKind) (s : State) : (lineError e s).pending = s.pending := by
  unfold lineError; split <;> simp

/-! ### `answerBusy` -/

@[simp] theorem answerBusy_iq (s : State) : (answerBusy s).iq = s.iq := by
  simp [answerBusy]
@[simp] theorem answerBusy_dcu (s : State) : (answerBusy s).dcu = s.dcu := by
  simp [answerBusy]
@[simp] theorem answerBusy_jcu (s : State) : (answerBusy s).jcu = s.jcu := by
  simp [answerBusy]
@[simp] theorem answerBusy_rsu (s : State) : (answerBusy s).rsu = s.rsu := by
  simp [answerBusy]
@[simp] theorem answerBusy_ven (s : State) : (answerBusy s).ven = s.ven := by
  simp [answerBusy]
@[simp] theorem answerBusy_irg (s : State) : (answerBusy s).irg = s.irg := by
  simp [answerBusy]
@[simp] theorem answerBusy_ctb (s : State) : (answerBusy s).ctb = s.ctb := by
  simp [answerBusy]
@[simp] theorem answerBusy_jnl (s : State) : (answerBusy s).jnl = s.jnl := by
  simp [answerBusy]
@[simp] theorem answerBusy_resetN (s : State) : (answerBusy s).resetN = s.resetN := by
  simp [answerBusy]
@[simp] theorem answerBusy_timebase (s : State) : (answerBusy s).timebase = s.timebase := by
  simp [answerBusy]
@[simp] theorem answerBusy_hostSent (s : State) : (answerBusy s).hostSent = s.hostSent := by
  simp [answerBusy]
@[simp] theorem answerBusy_cardSent (s : State) : (answerBusy s).cardSent = s.cardSent := by
  simp [answerBusy]
@[simp] theorem answerBusy_pending (s : State) : (answerBusy s).pending = s.pending := by
  simp [answerBusy]

/-! ### `cardUpAbsent` -/

@[simp] theorem cardUpAbsent_iq (i : List Byte) (s : State) : (cardUpAbsent i s).iq = s.iq := by
  unfold cardUpAbsent; simp only []; split <;> simp
@[simp] theorem cardUpAbsent_dcu (i : List Byte) (s : State) : (cardUpAbsent i s).dcu = s.dcu := by
  unfold cardUpAbsent; simp only []; split <;> simp
@[simp] theorem cardUpAbsent_jcu (i : List Byte) (s : State) : (cardUpAbsent i s).jcu = s.jcu := by
  unfold cardUpAbsent; simp only []; split <;> simp
@[simp] theorem cardUpAbsent_rsu (i : List Byte) (s : State) : (cardUpAbsent i s).rsu = s.rsu := by
  unfold cardUpAbsent; simp only []; split <;> simp
@[simp] theorem cardUpAbsent_ven (i : List Byte) (s : State) : (cardUpAbsent i s).ven = s.ven := by
  unfold cardUpAbsent; simp only []; split <;> simp
@[simp] theorem cardUpAbsent_irg (i : List Byte) (s : State) : (cardUpAbsent i s).irg = s.irg := by
  unfold cardUpAbsent; simp only []; split <;> simp
@[simp] theorem cardUpAbsent_ctb (i : List Byte) (s : State) : (cardUpAbsent i s).ctb = s.ctb := by
  unfold cardUpAbsent; simp only []; split <;> simp
@[simp] theorem cardUpAbsent_jnl (i : List Byte) (s : State) : (cardUpAbsent i s).jnl = s.jnl := by
  unfold cardUpAbsent; simp only []; split <;> simp
@[simp] theorem cardUpAbsent_resetN (i : List Byte) (s : State) : (cardUpAbsent i s).resetN = s.resetN := by
  unfold cardUpAbsent; simp only []; split <;> simp
@[simp] theorem cardUpAbsent_timebase (i : List Byte) (s : State) : (cardUpAbsent i s).timebase = s.timebase := by
  unfold cardUpAbsent; simp only []; split <;> simp
@[simp] theorem cardUpAbsent_hostSent (i : List Byte) (s : State) : (cardUpAbsent i s).hostSent = s.hostSent := by
  unfold cardUpAbsent; simp only []; split <;> simp
@[simp] theorem cardUpAbsent_cardSent (i : List Byte) (s : State) : (cardUpAbsent i s).cardSent = s.cardSent := by
  unfold cardUpAbsent; simp only []; split <;> simp
@[simp] theorem cardUpAbsent_pending (i : List Byte) (s : State) : (cardUpAbsent i s).pending = s.pending := by
  unfold cardUpAbsent; simp only []; split <;> simp

/-! ### `endWrite` -/

@[simp] theorem endWrite_iq (d b : Bool) (s : State) : (endWrite d b s).iq = s.iq := by
  unfold endWrite; (repeat' split) <;> simp
@[simp] theorem endWrite_dcu (d b : Bool) (s : State) : (endWrite d b s).dcu = s.dcu := by
  unfold endWrite; (repeat' split) <;> simp
@[simp] theorem endWrite_jcu (d b : Bool) (s : State) : (endWrite d b s).jcu = s.jcu := by
  unfold endWrite; (repeat' split) <;> simp
@[simp] theorem endWrite_rsu (d b : Bool) (s : State) : (endWrite d b s).rsu = s.rsu := by
  unfold endWrite; (repeat' split) <;> simp
@[simp] theorem endWrite_resetN (d b : Bool) (s : State) : (endWrite d b s).resetN = s.resetN := by
  unfold endWrite; (repeat' split) <;> simp
@[simp] theorem endWrite_timebase (d b : Bool) (s : State) : (endWrite d b s).timebase = s.timebase := by
  unfold endWrite; (repeat' split) <;> simp
@[simp] theorem endWrite_hostSent (d b : Bool) (s : State) : (endWrite d b s).hostSent = s.hostSent := by
  unfold endWrite; (repeat' split) <;> simp
@[simp] theorem endWrite_cardSent (d b : Bool) (s : State) : (endWrite d b s).cardSent = s.cardSent := by
  unfold endWrite; (repeat' split) <;> simp
@[simp] theorem endWrite_pending (d b : Bool) (s : State) : (endWrite d b s).pending = s.pending := by
  unfold endWrite; (repeat' split) <;> simp

/-! ### `cardDown` -/

@[simp] theorem cardDown_iq (s : State) : (cardDown s).iq = s.iq := by
  unfold cardDown; split <;> simp
@[simp] theorem cardDown_dcu (s : State) : (cardDown s).dcu = s.dcu := by
  unfold cardDown; split <;> simp
@[simp] theorem cardDown_jcu (s : State) : (cardDown s).jcu = s.jcu := by
  unfold cardDown; split <;> simp
@[simp] theorem cardDown_rsu (s : State) : (cardDown s).rsu = s.rsu := by
  unfold cardDown; split <;> simp
@[simp] theorem cardDown_resetN (s : State) : (cardDown s).resetN = s.resetN := by
  unfold cardDown; split <;> simp
@[simp] theorem cardDown_timebase (s : State) : (cardDown s).timebase = s.timebase := by
  unfold cardDown; split <;> simp
@[simp] theorem cardDown_hostSent (s : State) : (cardDown s).hostSent = s.hostSent := by
  unfold cardDown; split <;> simp
@[simp] theorem cardDown_cardSent (s : State) : (cardDown s).cardSent = s.cardSent := by
  unfold cardDown; split <;> simp
@[simp] theorem cardDown_pending (s : State) : (cardDown s).pending = s.pending := by
  unfold cardDown; split <;> simp

/-! ### `cardUp` -/

@[simp] theorem cardUp_iq (i : List Byte) (s : State) : (cardUp i s).iq = s.iq := by
  simp [cardUp]
@[simp] theorem cardUp_dcu (i : List Byte) (s : State) : (cardUp i s).dcu = s.dcu := by
  simp [cardUp]
@[simp] theorem cardUp_jcu (i : List Byte) (s : State) : (cardUp i s).jcu = s.jcu := by
  simp [cardUp]
@[simp] theorem cardUp_rsu (i : List Byte) (s : State) : (cardUp i s).rsu = s.rsu := by
  simp [cardUp]
@[simp] theorem cardUp_resetN (i : List Byte) (s : State) : (cardUp i s).resetN = s.resetN := by
  simp [cardUp]
@[simp] theorem cardUp_timebase (i : List Byte) (s : State) : (cardUp i s).timebase = s.timebase := by
  simp [cardUp]
@[simp] theorem cardUp_hostSent (i : List Byte) (s : State) : (cardUp i s).hostSent = s.hostSent := by
  simp [cardUp]
@[simp] theorem cardUp_cardSent (i : List Byte) (s : State) : (cardUp i s).cardSent = s.cardSent := by
  simp [cardUp]
@[simp] theorem cardUp_pending (i : List Byte) (s : State) : (cardUp i s).pending = s.pending := by
  simp [cardUp]

/-! ### `completeRead` -/

@[simp] theorem completeRead_dcu (i : List (List Byte)) (s : State) : (completeRead i s).dcu = s.dcu := by
  unfold completeRead; (repeat' split) <;> simp <;> (repeat' split) <;> simp
@[simp] theorem completeRead_jcu (i : List (List Byte)) (s : State) : (completeRead i s).jcu = s.jcu := by
  unfold completeRead; (repeat' split) <;> simp <;> (repeat' split) <;> simp
@[simp] theorem completeRead_rsu (i : List (List Byte)) (s : State) : (completeRead i s).rsu = s.rsu := by
  unfold completeRead; (repeat' split) <;> simp <;> (repeat' split) <;> simp
@[simp] theorem completeRead_ven (i : List (List Byte)) (s : State) : (completeRead i s).ven = s.ven := by
  unfold completeRead; (repeat' split) <;> simp <;> (repeat' split) <;> simp
@[simp] theorem completeRead_irg (i : List (List Byte)) (s : State) : (completeRead i s).irg = s.irg := by
  unfold completeRead; (repeat' split) <;> simp <;> (repeat' split) <;> simp
@[simp] theorem completeRead_ctb (i : List (List Byte)) (s : State) : (completeRead i s).ctb = s.ctb := by
  unfold completeRead; (repeat' split) <;> simp <;> (repeat' split) <;> simp
@[simp] theorem completeRead_jnl (i : List (List Byte)) (s : State) : (completeRead i s).jnl = s.jnl := by
  unfold completeRead; (repeat' split) <;> simp <;> (repeat' split) <;> simp
@[simp] theorem completeRead_resetN (i : List (List Byte)) (s : State) : (completeRead i s).resetN = s.resetN := by
  unfold completeRead; (repeat' split) <;> simp <;> (repeat' split) <;> simp
@[simp] theorem completeRead_timebase (i : List (List Byte)) (s : State) : (completeRead i s).timebase = s.timebase := by
  unfold completeRead; (repeat' split) <;> simp <;> (repeat' split) <;> simp
@[simp] theorem completeRead_hostSent (i : List (List Byte)) (s : State) : (completeRead i s).hostSent = s.hostSent := by
  unfold completeRead; (repeat' split) <;> simp <;> (repeat' split) <;> simp
@[simp] theorem completeRead_cardSent (i : List (List Byte)) (s : State) : (completeRead i s).cardSent = s.cardSent := by
  unfold completeRead; (repeat' split) <;> simp <;> (repeat' split) <;> simp
@[simp] theorem completeRead_pending (i : List (List Byte)) (s : State) : (completeRead i s).pending = s.pending := by
  unfold completeRead; (repeat' split) <;> simp <;> (repeat' split) <;> simp

/-! ### `takeBlock` -/

@[simp] theorem takeBlock_dcu (i : Nat) (d : List Byte) (s : State) : (takeBlock i d s).dcu = s.dcu := by
  unfold takeBlock; (repeat' split) <;> simp
@[simp] theorem takeBlock_jcu (i : Nat) (d : List Byte) (s : State) : (takeBlock i d s).jcu = s.jcu := by
  unfold takeBlock; (repeat' split) <;> simp
@[simp] theorem takeBlock_rsu (i : Nat) (d : List Byte) (s : State) : (takeBlock i d s).rsu = s.rsu := by
  unfold takeBlock; (repeat' split) <;> simp
@[simp] theorem takeBlock_ven (i : Nat) (d : List Byte) (s : State) : (takeBlock i d s).ven = s.ven := by
  unfold takeBlock; (repeat' split) <;> simp
@[simp] theorem takeBlock_irg (i : Nat) (d : List Byte) (s : State) : (takeBlock i d s).irg = s.irg := by
  unfold takeBlock; (repeat' split) <;> simp
@[simp] theorem takeBlock_ctb (i : Nat) (d : List Byte) (s : State) : (takeBlock i d s).ctb = s.ctb := by
  unfold takeBlock; (repeat' split) <;> simp
@[simp] theorem takeBlock_jnl (i : Nat) (d : List Byte) (s : State) : (takeBlock i d s).jnl = s.jnl := by
  unfold takeBlock; (repeat' split) <;> simp
@[simp] theorem takeBlock_resetN (i : Nat) (d : List Byte) (s : State) : (takeBlock i d s).resetN = s.resetN := by
  unfold takeBlock; (repeat' split) <;> simp
@[simp] theorem takeBlock_timebase (i : Nat) (d : List Byte) (s : State) : (takeBlock i d s).timebase = s.timebase := by
  unfold takeBlock; (repeat' split) <;> simp
@[simp] theorem takeBlock_hostSent (i : Nat) (d : List Byte) (s : State) : (takeBlock i d s).hostSent = s.hostSent := by
  unfold takeBlock; (repeat' split) <;> simp
@[simp] theorem takeBlock_cardSent (i : Nat) (d : List Byte) (s : State) : (takeBlock i d s).cardSent = s.cardSent := by
  unfold takeBlock; (repeat' split) <;> simp
@[simp] theorem takeBlock_pending (i : Nat) (d : List Byte) (s : State) : (takeBlock i d s).pending = s.pending := by
  unfold takeBlock; (repeat' split) <;> simp

/-! ### `block` -/

@[simp] theorem block_dcu (i : Byte) (d : List Byte) (s : State) : (block i d s).dcu = s.dcu := by
  unfold block; split <;> simp
@[simp] theorem block_jcu (i : Byte) (d : List Byte) (s : State) : (block i d s).jcu = s.jcu := by
  unfold block; split <;> simp
@[simp] theorem block_rsu (i : Byte) (d : List Byte) (s : State) : (block i d s).rsu = s.rsu := by
  unfold block; split <;> simp
@[simp] theorem block_ven (i : Byte) (d : List Byte) (s : State) : (block i d s).ven = s.ven := by
  unfold block; split <;> simp
@[simp] theorem block_irg (i : Byte) (d : List Byte) (s : State) : (block i d s).irg = s.irg := by
  unfold block; split <;> simp
@[simp] theorem block_ctb (i : Byte) (d : List Byte) (s : State) : (block i d s).ctb = s.ctb := by
  unfold block; split <;> simp
@[simp] theorem block_jnl (i : Byte) (d : List Byte) (s : State) : (block i d s).jnl = s.jnl := by
  unfold block; split <;> simp
@[simp] theorem block_resetN (i : Byte) (d : List Byte) (s : State) : (block i d s).resetN = s.resetN := by
  unfold block; split <;> simp
@[simp] theorem block_timebase (i : Byte) (d : List Byte) (s : State) : (block i d s).timebase = s.timebase := by
  unfold block; split <;> simp
@[simp] theorem block_hostSent (i : Byte) (d : List Byte) (s : State) : (block i d s).hostSent = s.hostSent := by
  unfold block; split <;> simp
@[simp] theorem block_cardSent (i : Byte) (d : List Byte) (s : State) : (block i d s).cardSent = s.cardSent := by
  unfold block; split <;> simp
@[simp] theorem block_pending (i : Byte) (d : List Byte) (s : State) : (block i d s).pending = s.pending := by
  unfold block; split <;> simp

/-! ### `setAwaitsGap` -/

@[simp] theorem setAwaitsGap_lif (w : Bool) (s : State) : (setAwaitsGap w s).lif = s.lif := by
  simp [setAwaitsGap]
@[simp] theorem setAwaitsGap_iq (w : Bool) (s : State) : (setAwaitsGap w s).iq = s.iq := by
  simp [setAwaitsGap]
@[simp] theorem setAwaitsGap_dcu (w : Bool) (s : State) : (setAwaitsGap w s).dcu = s.dcu := by
  simp [setAwaitsGap]
@[simp] theorem setAwaitsGap_jcu (w : Bool) (s : State) : (setAwaitsGap w s).jcu = s.jcu := by
  simp [setAwaitsGap]
@[simp] theorem setAwaitsGap_rsu (w : Bool) (s : State) : (setAwaitsGap w s).rsu = s.rsu := by
  simp [setAwaitsGap]
@[simp] theorem setAwaitsGap_ven (w : Bool) (s : State) : (setAwaitsGap w s).ven = s.ven := by
  simp [setAwaitsGap]
@[simp] theorem setAwaitsGap_irg (w : Bool) (s : State) : (setAwaitsGap w s).irg = s.irg := by
  simp [setAwaitsGap]
@[simp] theorem setAwaitsGap_ctb (w : Bool) (s : State) : (setAwaitsGap w s).ctb = s.ctb := by
  simp [setAwaitsGap]
@[simp] theorem setAwaitsGap_jnl (w : Bool) (s : State) : (setAwaitsGap w s).jnl = s.jnl := by
  simp [setAwaitsGap]
@[simp] theorem setAwaitsGap_resetN (w : Bool) (s : State) : (setAwaitsGap w s).resetN = s.resetN := by
  simp [setAwaitsGap]
@[simp] theorem setAwaitsGap_timebase (w : Bool) (s : State) : (setAwaitsGap w s).timebase = s.timebase := by
  simp [setAwaitsGap]
@[simp] theorem setAwaitsGap_hostSent (w : Bool) (s : State) : (setAwaitsGap w s).hostSent = s.hostSent := by
  simp [setAwaitsGap]
@[simp] theorem setAwaitsGap_cardSent (w : Bool) (s : State) : (setAwaitsGap w s).cardSent = s.cardSent := by
  simp [setAwaitsGap]
@[simp] theorem setAwaitsGap_pending (w : Bool) (s : State) : (setAwaitsGap w s).pending = s.pending := by
  simp [setAwaitsGap]

/-! ### `frameCutShort` -/

@[simp] theorem frameCutShort_iq (i : Bool) (s : State) : (frameCutShort i s).iq = s.iq := by
  unfold frameCutShort; split <;> simp
@[simp] theorem frameCutShort_dcu (i : Bool) (s : State) : (frameCutShort i s).dcu = s.dcu := by
  unfold frameCutShort; split <;> simp
@[simp] theorem frameCutShort_jcu (i : Bool) (s : State) : (frameCutShort i s).jcu = s.jcu := by
  unfold frameCutShort; split <;> simp
@[simp] theorem frameCutShort_rsu (i : Bool) (s : State) : (frameCutShort i s).rsu = s.rsu := by
  unfold frameCutShort; split <;> simp
@[simp] theorem frameCutShort_ven (i : Bool) (s : State) : (frameCutShort i s).ven = s.ven := by
  unfold frameCutShort; split <;> simp
@[simp] theorem frameCutShort_irg (i : Bool) (s : State) : (frameCutShort i s).irg = s.irg := by
  unfold frameCutShort; split <;> simp
@[simp] theorem frameCutShort_ctb (i : Bool) (s : State) : (frameCutShort i s).ctb = s.ctb := by
  unfold frameCutShort; split <;> simp
@[simp] theorem frameCutShort_jnl (i : Bool) (s : State) : (frameCutShort i s).jnl = s.jnl := by
  unfold frameCutShort; split <;> simp
@[simp] theorem frameCutShort_resetN (i : Bool) (s : State) : (frameCutShort i s).resetN = s.resetN := by
  unfold frameCutShort; split <;> simp
@[simp] theorem frameCutShort_timebase (i : Bool) (s : State) : (frameCutShort i s).timebase = s.timebase := by
  unfold frameCutShort; split <;> simp
@[simp] theorem frameCutShort_hostSent (i : Bool) (s : State) : (frameCutShort i s).hostSent = s.hostSent := by
  unfold frameCutShort; split <;> simp
@[simp] theorem frameCutShort_cardSent (i : Bool) (s : State) : (frameCutShort i s).cardSent = s.cardSent := by
  unfold frameCutShort; split <;> simp
@[simp] theorem frameCutShort_pending (i : Bool) (s : State) : (frameCutShort i s).pending = s.pending := by
  unfold frameCutShort; split <;> simp

/-! ### `framingError` -/

@[simp] theorem framingError_iq (s : State) : (framingError s).iq = s.iq := by
  simp [framingError]
@[simp] theorem framingError_dcu (s : State) : (framingError s).dcu = s.dcu := by
  simp [framingError]
@[simp] theorem framingError_jcu (s : State) : (framingError s).jcu = s.jcu := by
  simp [framingError]
@[simp] theorem framingError_rsu (s : State) : (framingError s).rsu = s.rsu := by
  simp [framingError]
@[simp] theorem framingError_ven (s : State) : (framingError s).ven = s.ven := by
  simp [framingError]
@[simp] theorem framingError_irg (s : State) : (framingError s).irg = s.irg := by
  simp [framingError]
@[simp] theorem framingError_ctb (s : State) : (framingError s).ctb = s.ctb := by
  simp [framingError]
@[simp] theorem framingError_jnl (s : State) : (framingError s).jnl = s.jnl := by
  simp [framingError]
@[simp] theorem framingError_resetN (s : State) : (framingError s).resetN = s.resetN := by
  simp [framingError]
@[simp] theorem framingError_timebase (s : State) : (framingError s).timebase = s.timebase := by
  simp [framingError]
@[simp] theorem framingError_hostSent (s : State) : (framingError s).hostSent = s.hostSent := by
  simp [framingError]
@[simp] theorem framingError_cardSent (s : State) : (framingError s).cardSent = s.cardSent := by
  simp [framingError]
@[simp] theorem framingError_pending (s : State) : (framingError s).pending = s.pending := by
  simp [framingError]

/-! ### `written` -/

@[simp] theorem written_iq (r : WriteResult) (s : State) : (written r s).iq = s.iq := by
  unfold written; split <;> simp
@[simp] theorem written_dcu (r : WriteResult) (s : State) : (written r s).dcu = s.dcu := by
  unfold written; split <;> simp
@[simp] theorem written_jcu (r : WriteResult) (s : State) : (written r s).jcu = s.jcu := by
  unfold written; split <;> simp
@[simp] theorem written_rsu (r : WriteResult) (s : State) : (written r s).rsu = s.rsu := by
  unfold written; split <;> simp
@[simp] theorem written_resetN (r : WriteResult) (s : State) : (written r s).resetN = s.resetN := by
  unfold written; split <;> simp
@[simp] theorem written_timebase (r : WriteResult) (s : State) : (written r s).timebase = s.timebase := by
  unfold written; split <;> simp
@[simp] theorem written_hostSent (r : WriteResult) (s : State) : (written r s).hostSent = s.hostSent := by
  unfold written; split <;> simp
@[simp] theorem written_cardSent (r : WriteResult) (s : State) : (written r s).cardSent = s.cardSent := by
  unfold written; split <;> simp
@[simp] theorem written_pending (r : WriteResult) (s : State) : (written r s).pending = s.pending := by
  unfold written; split <;> simp

/-! ### `writeTimerExpiry` -/

@[simp] theorem writeTimerExpiry_iq (s : State) : (writeTimerExpiry s).iq = s.iq := by
  unfold writeTimerExpiry; split <;> simp
@[simp] theorem writeTimerExpiry_dcu (s : State) : (writeTimerExpiry s).dcu = s.dcu := by
  unfold writeTimerExpiry; split <;> simp
@[simp] theorem writeTimerExpiry_jcu (s : State) : (writeTimerExpiry s).jcu = s.jcu := by
  unfold writeTimerExpiry; split <;> simp
@[simp] theorem writeTimerExpiry_rsu (s : State) : (writeTimerExpiry s).rsu = s.rsu := by
  unfold writeTimerExpiry; split <;> simp
@[simp] theorem writeTimerExpiry_resetN (s : State) : (writeTimerExpiry s).resetN = s.resetN := by
  unfold writeTimerExpiry; split <;> simp
@[simp] theorem writeTimerExpiry_timebase (s : State) : (writeTimerExpiry s).timebase = s.timebase := by
  unfold writeTimerExpiry; split <;> simp
@[simp] theorem writeTimerExpiry_hostSent (s : State) : (writeTimerExpiry s).hostSent = s.hostSent := by
  unfold writeTimerExpiry; split <;> simp
@[simp] theorem writeTimerExpiry_cardSent (s : State) : (writeTimerExpiry s).cardSent = s.cardSent := by
  unfold writeTimerExpiry; split <;> simp
@[simp] theorem writeTimerExpiry_pending (s : State) : (writeTimerExpiry s).pending = s.pending := by
  unfold writeTimerExpiry; split <;> simp

/-! ### `readTimerExpiry` -/

@[simp] theorem readTimerExpiry_iq (s : State) : (readTimerExpiry s).iq = s.iq := by
  unfold readTimerExpiry; split <;> simp
@[simp] theorem readTimerExpiry_dcu (s : State) : (readTimerExpiry s).dcu = s.dcu := by
  unfold readTimerExpiry; split <;> simp
@[simp] theorem readTimerExpiry_jcu (s : State) : (readTimerExpiry s).jcu = s.jcu := by
  unfold readTimerExpiry; split <;> simp
@[simp] theorem readTimerExpiry_rsu (s : State) : (readTimerExpiry s).rsu = s.rsu := by
  unfold readTimerExpiry; split <;> simp
@[simp] theorem readTimerExpiry_ven (s : State) : (readTimerExpiry s).ven = s.ven := by
  unfold readTimerExpiry; split <;> simp
@[simp] theorem readTimerExpiry_irg (s : State) : (readTimerExpiry s).irg = s.irg := by
  unfold readTimerExpiry; split <;> simp
@[simp] theorem readTimerExpiry_ctb (s : State) : (readTimerExpiry s).ctb = s.ctb := by
  unfold readTimerExpiry; split <;> simp
@[simp] theorem readTimerExpiry_jnl (s : State) : (readTimerExpiry s).jnl = s.jnl := by
  unfold readTimerExpiry; split <;> simp
@[simp] theorem readTimerExpiry_resetN (s : State) : (readTimerExpiry s).resetN = s.resetN := by
  unfold readTimerExpiry; split <;> simp
@[simp] theorem readTimerExpiry_timebase (s : State) : (readTimerExpiry s).timebase = s.timebase := by
  unfold readTimerExpiry; split <;> simp
@[simp] theorem readTimerExpiry_hostSent (s : State) : (readTimerExpiry s).hostSent = s.hostSent := by
  unfold readTimerExpiry; split <;> simp
@[simp] theorem readTimerExpiry_cardSent (s : State) : (readTimerExpiry s).cardSent = s.cardSent := by
  unfold readTimerExpiry; split <;> simp
@[simp] theorem readTimerExpiry_pending (s : State) : (readTimerExpiry s).pending = s.pending := by
  unfold readTimerExpiry; split <;> simp

/-! ### `toIssue` -/

@[simp] theorem toIssue_lif (ev : Evaluation) (s : State) : (toIssue ev s).lif = s.lif := by
  simp [toIssue]
@[simp] theorem toIssue_iq (ev : Evaluation) (s : State) : (toIssue ev s).iq = s.iq := by
  simp [toIssue]
@[simp] theorem toIssue_ciu (ev : Evaluation) (s : State) : (toIssue ev s).ciu = s.ciu := by
  simp [toIssue]
@[simp] theorem toIssue_dcu (ev : Evaluation) (s : State) : (toIssue ev s).dcu = s.dcu := by
  simp [toIssue]
@[simp] theorem toIssue_jcu (ev : Evaluation) (s : State) : (toIssue ev s).jcu = s.jcu := by
  simp [toIssue]
@[simp] theorem toIssue_rsu (ev : Evaluation) (s : State) : (toIssue ev s).rsu = s.rsu := by
  simp [toIssue]
@[simp] theorem toIssue_irg (ev : Evaluation) (s : State) : (toIssue ev s).irg = s.irg := by
  simp [toIssue]
@[simp] theorem toIssue_ctb (ev : Evaluation) (s : State) : (toIssue ev s).ctb = s.ctb := by
  simp [toIssue]
@[simp] theorem toIssue_jnl (ev : Evaluation) (s : State) : (toIssue ev s).jnl = s.jnl := by
  simp [toIssue]
@[simp] theorem toIssue_resetN (ev : Evaluation) (s : State) : (toIssue ev s).resetN = s.resetN := by
  simp [toIssue]
@[simp] theorem toIssue_timebase (ev : Evaluation) (s : State) : (toIssue ev s).timebase = s.timebase := by
  simp [toIssue]
@[simp] theorem toIssue_hostSent (ev : Evaluation) (s : State) : (toIssue ev s).hostSent = s.hostSent := by
  simp [toIssue]
@[simp] theorem toIssue_cardSent (ev : Evaluation) (s : State) : (toIssue ev s).cardSent = s.cardSent := by
  simp [toIssue]
@[simp] theorem toIssue_pending (ev : Evaluation) (s : State) : (toIssue ev s).pending = s.pending := by
  simp [toIssue]

/-! ### `parkAndWrite` -/

@[simp] theorem parkAndWrite_lif (c : Credential) (k : Counter) (ev : Evaluation) (s : State) :
    (parkAndWrite c k ev s).lif = s.lif := by
  simp [parkAndWrite]
@[simp] theorem parkAndWrite_iq (c : Credential) (k : Counter) (ev : Evaluation) (s : State) :
    (parkAndWrite c k ev s).iq = s.iq := by
  simp [parkAndWrite]
@[simp] theorem parkAndWrite_dcu (c : Credential) (k : Counter) (ev : Evaluation) (s : State) :
    (parkAndWrite c k ev s).dcu = s.dcu := by
  simp [parkAndWrite]
@[simp] theorem parkAndWrite_jcu (c : Credential) (k : Counter) (ev : Evaluation) (s : State) :
    (parkAndWrite c k ev s).jcu = s.jcu := by
  simp [parkAndWrite]
@[simp] theorem parkAndWrite_rsu (c : Credential) (k : Counter) (ev : Evaluation) (s : State) :
    (parkAndWrite c k ev s).rsu = s.rsu := by
  simp [parkAndWrite]
@[simp] theorem parkAndWrite_ctb (c : Credential) (k : Counter) (ev : Evaluation) (s : State) :
    (parkAndWrite c k ev s).ctb = s.ctb := by
  simp [parkAndWrite]
@[simp] theorem parkAndWrite_jnl (c : Credential) (k : Counter) (ev : Evaluation) (s : State) :
    (parkAndWrite c k ev s).jnl = s.jnl := by
  simp [parkAndWrite]
@[simp] theorem parkAndWrite_resetN (c : Credential) (k : Counter) (ev : Evaluation) (s : State) :
    (parkAndWrite c k ev s).resetN = s.resetN := by
  simp [parkAndWrite]
@[simp] theorem parkAndWrite_timebase (c : Credential) (k : Counter) (ev : Evaluation) (s : State) :
    (parkAndWrite c k ev s).timebase = s.timebase := by
  simp [parkAndWrite]
@[simp] theorem parkAndWrite_hostSent (c : Credential) (k : Counter) (ev : Evaluation) (s : State) :
    (parkAndWrite c k ev s).hostSent = s.hostSent := by
  simp [parkAndWrite]
@[simp] theorem parkAndWrite_cardSent (c : Credential) (k : Counter) (ev : Evaluation) (s : State) :
    (parkAndWrite c k ev s).cardSent = s.cardSent := by
  simp [parkAndWrite]
@[simp] theorem parkAndWrite_pending (c : Credential) (k : Counter) (ev : Evaluation) (s : State) :
    (parkAndWrite c k ev s).pending = s.pending := by
  simp [parkAndWrite]

/-! ### `recoverTorn` -/

@[simp] theorem recoverTorn_lif (c : Credential) (e : Nat) (ev : Evaluation) (s : State) :
    (recoverTorn c e ev s).lif = s.lif := by
  unfold recoverTorn; (repeat' split) <;> simp
@[simp] theorem recoverTorn_iq (c : Credential) (e : Nat) (ev : Evaluation) (s : State) :
    (recoverTorn c e ev s).iq = s.iq := by
  unfold recoverTorn; (repeat' split) <;> simp
@[simp] theorem recoverTorn_dcu (c : Credential) (e : Nat) (ev : Evaluation) (s : State) :
    (recoverTorn c e ev s).dcu = s.dcu := by
  unfold recoverTorn; (repeat' split) <;> simp
@[simp] theorem recoverTorn_jcu (c : Credential) (e : Nat) (ev : Evaluation) (s : State) :
    (recoverTorn c e ev s).jcu = s.jcu := by
  unfold recoverTorn; (repeat' split) <;> simp
@[simp] theorem recoverTorn_rsu (c : Credential) (e : Nat) (ev : Evaluation) (s : State) :
    (recoverTorn c e ev s).rsu = s.rsu := by
  unfold recoverTorn; (repeat' split) <;> simp
@[simp] theorem recoverTorn_ctb (c : Credential) (e : Nat) (ev : Evaluation) (s : State) :
    (recoverTorn c e ev s).ctb = s.ctb := by
  unfold recoverTorn; (repeat' split) <;> simp
@[simp] theorem recoverTorn_jnl (c : Credential) (e : Nat) (ev : Evaluation) (s : State) :
    (recoverTorn c e ev s).jnl = s.jnl := by
  unfold recoverTorn; (repeat' split) <;> simp
@[simp] theorem recoverTorn_resetN (c : Credential) (e : Nat) (ev : Evaluation) (s : State) :
    (recoverTorn c e ev s).resetN = s.resetN := by
  unfold recoverTorn; (repeat' split) <;> simp
@[simp] theorem recoverTorn_timebase (c : Credential) (e : Nat) (ev : Evaluation) (s : State) :
    (recoverTorn c e ev s).timebase = s.timebase := by
  unfold recoverTorn; (repeat' split) <;> simp
@[simp] theorem recoverTorn_hostSent (c : Credential) (e : Nat) (ev : Evaluation) (s : State) :
    (recoverTorn c e ev s).hostSent = s.hostSent := by
  unfold recoverTorn; (repeat' split) <;> simp
@[simp] theorem recoverTorn_cardSent (c : Credential) (e : Nat) (ev : Evaluation) (s : State) :
    (recoverTorn c e ev s).cardSent = s.cardSent := by
  unfold recoverTorn; (repeat' split) <;> simp
@[simp] theorem recoverTorn_pending (c : Credential) (e : Nat) (ev : Evaluation) (s : State) :
    (recoverTorn c e ev s).pending = s.pending := by
  unfold recoverTorn; (repeat' split) <;> simp

/-! ### `consumeStage` -/

@[simp] theorem consumeStage_lif (c : Credential) (ev : Evaluation) (s : State) : (consumeStage c ev s).lif = s.lif := by
  unfold consumeStage; (repeat' split) <;> simp <;> (repeat' split) <;> simp
@[simp] theorem consumeStage_iq (c : Credential) (ev : Evaluation) (s : State) : (consumeStage c ev s).iq = s.iq := by
  unfold consumeStage; (repeat' split) <;> simp <;> (repeat' split) <;> simp
@[simp] theorem consumeStage_dcu (c : Credential) (ev : Evaluation) (s : State) : (consumeStage c ev s).dcu = s.dcu := by
  unfold consumeStage; (repeat' split) <;> simp <;> (repeat' split) <;> simp
@[simp] theorem consumeStage_jcu (c : Credential) (ev : Evaluation) (s : State) : (consumeStage c ev s).jcu = s.jcu := by
  unfold consumeStage; (repeat' split) <;> simp <;> (repeat' split) <;> simp
@[simp] theorem consumeStage_rsu (c : Credential) (ev : Evaluation) (s : State) : (consumeStage c ev s).rsu = s.rsu := by
  unfold consumeStage; (repeat' split) <;> simp <;> (repeat' split) <;> simp
@[simp] theorem consumeStage_ctb (c : Credential) (ev : Evaluation) (s : State) : (consumeStage c ev s).ctb = s.ctb := by
  unfold consumeStage; (repeat' split) <;> simp <;> (repeat' split) <;> simp
@[simp] theorem consumeStage_jnl (c : Credential) (ev : Evaluation) (s : State) : (consumeStage c ev s).jnl = s.jnl := by
  unfold consumeStage; (repeat' split) <;> simp <;> (repeat' split) <;> simp
@[simp] theorem consumeStage_resetN (c : Credential) (ev : Evaluation) (s : State) :
    (consumeStage c ev s).resetN = s.resetN := by
  unfold consumeStage; (repeat' split) <;> simp <;> (repeat' split) <;> simp
@[simp] theorem consumeStage_timebase (c : Credential) (ev : Evaluation) (s : State) :
    (consumeStage c ev s).timebase = s.timebase := by
  unfold consumeStage; (repeat' split) <;> simp <;> (repeat' split) <;> simp
@[simp] theorem consumeStage_hostSent (c : Credential) (ev : Evaluation) (s : State) :
    (consumeStage c ev s).hostSent = s.hostSent := by
  unfold consumeStage; (repeat' split) <;> simp <;> (repeat' split) <;> simp
@[simp] theorem consumeStage_cardSent (c : Credential) (ev : Evaluation) (s : State) :
    (consumeStage c ev s).cardSent = s.cardSent := by
  unfold consumeStage; (repeat' split) <;> simp <;> (repeat' split) <;> simp
@[simp] theorem consumeStage_pending (c : Credential) (ev : Evaluation) (s : State) :
    (consumeStage c ev s).pending = s.pending := by
  unfold consumeStage; (repeat' split) <;> simp <;> (repeat' split) <;> simp

/-! ### `registerStage` -/

@[simp] theorem registerStage_lif (c : Credential) (ev : Evaluation) (s : State) :
    (registerStage c ev s).2.lif = s.lif := by
  simp [registerStage]
@[simp] theorem registerStage_iq (c : Credential) (ev : Evaluation) (s : State) :
    (registerStage c ev s).2.iq = s.iq := by
  simp [registerStage]
@[simp] theorem registerStage_ciu (c : Credential) (ev : Evaluation) (s : State) :
    (registerStage c ev s).2.ciu = s.ciu := by
  simp [registerStage]
@[simp] theorem registerStage_dcu (c : Credential) (ev : Evaluation) (s : State) :
    (registerStage c ev s).2.dcu = s.dcu := by
  simp [registerStage]
@[simp] theorem registerStage_jcu (c : Credential) (ev : Evaluation) (s : State) :
    (registerStage c ev s).2.jcu = s.jcu := by
  simp [registerStage]
@[simp] theorem registerStage_rsu (c : Credential) (ev : Evaluation) (s : State) :
    (registerStage c ev s).2.rsu = s.rsu := by
  simp [registerStage]
@[simp] theorem registerStage_ven (c : Credential) (ev : Evaluation) (s : State) :
    (registerStage c ev s).2.ven = s.ven := by
  simp [registerStage]
@[simp] theorem registerStage_ctb (c : Credential) (ev : Evaluation) (s : State) :
    (registerStage c ev s).2.ctb = s.ctb := by
  simp [registerStage]
@[simp] theorem registerStage_jnl (c : Credential) (ev : Evaluation) (s : State) :
    (registerStage c ev s).2.jnl = s.jnl := by
  simp [registerStage]
@[simp] theorem registerStage_resetN (c : Credential) (ev : Evaluation) (s : State) :
    (registerStage c ev s).2.resetN = s.resetN := by
  simp [registerStage]
@[simp] theorem registerStage_timebase (c : Credential) (ev : Evaluation) (s : State) :
    (registerStage c ev s).2.timebase = s.timebase := by
  simp [registerStage]
@[simp] theorem registerStage_hostSent (c : Credential) (ev : Evaluation) (s : State) :
    (registerStage c ev s).2.hostSent = s.hostSent := by
  simp [registerStage]
@[simp] theorem registerStage_cardSent (c : Credential) (ev : Evaluation) (s : State) :
    (registerStage c ev s).2.cardSent = s.cardSent := by
  simp [registerStage]
@[simp] theorem registerStage_pending (c : Credential) (ev : Evaluation) (s : State) :
    (registerStage c ev s).2.pending = s.pending := by
  simp [registerStage]

/-! ### `judgeStage` -/

@[simp] theorem judgeStage_lif (c : Credential) (ev : Evaluation) (s : State) : (judgeStage c ev s).2.lif = s.lif := by
  unfold judgeStage; simp only []; split <;> simp
@[simp] theorem judgeStage_iq (c : Credential) (ev : Evaluation) (s : State) : (judgeStage c ev s).2.iq = s.iq := by
  unfold judgeStage; simp only []; split <;> simp
@[simp] theorem judgeStage_ciu (c : Credential) (ev : Evaluation) (s : State) : (judgeStage c ev s).2.ciu = s.ciu := by
  unfold judgeStage; simp only []; split <;> simp
@[simp] theorem judgeStage_dcu (c : Credential) (ev : Evaluation) (s : State) : (judgeStage c ev s).2.dcu = s.dcu := by
  unfold judgeStage; simp only []; split <;> simp
@[simp] theorem judgeStage_jcu (c : Credential) (ev : Evaluation) (s : State) : (judgeStage c ev s).2.jcu = s.jcu := by
  unfold judgeStage; simp only []; split <;> simp
@[simp] theorem judgeStage_rsu (c : Credential) (ev : Evaluation) (s : State) : (judgeStage c ev s).2.rsu = s.rsu := by
  unfold judgeStage; simp only []; split <;> simp
@[simp] theorem judgeStage_ven (c : Credential) (ev : Evaluation) (s : State) : (judgeStage c ev s).2.ven = s.ven := by
  unfold judgeStage; simp only []; split <;> simp
@[simp] theorem judgeStage_ctb (c : Credential) (ev : Evaluation) (s : State) : (judgeStage c ev s).2.ctb = s.ctb := by
  unfold judgeStage; simp only []; split <;> simp
@[simp] theorem judgeStage_jnl (c : Credential) (ev : Evaluation) (s : State) : (judgeStage c ev s).2.jnl = s.jnl := by
  unfold judgeStage; simp only []; split <;> simp
@[simp] theorem judgeStage_resetN (c : Credential) (ev : Evaluation) (s : State) :
    (judgeStage c ev s).2.resetN = s.resetN := by
  unfold judgeStage; simp only []; split <;> simp
@[simp] theorem judgeStage_timebase (c : Credential) (ev : Evaluation) (s : State) :
    (judgeStage c ev s).2.timebase = s.timebase := by
  unfold judgeStage; simp only []; split <;> simp
@[simp] theorem judgeStage_hostSent (c : Credential) (ev : Evaluation) (s : State) :
    (judgeStage c ev s).2.hostSent = s.hostSent := by
  unfold judgeStage; simp only []; split <;> simp
@[simp] theorem judgeStage_cardSent (c : Credential) (ev : Evaluation) (s : State) :
    (judgeStage c ev s).2.cardSent = s.cardSent := by
  unfold judgeStage; simp only []; split <;> simp
@[simp] theorem judgeStage_pending (c : Credential) (ev : Evaluation) (s : State) :
    (judgeStage c ev s).2.pending = s.pending := by
  unfold judgeStage; simp only []; split <;> simp

/-! ### `trustedStages` -/

@[simp] theorem trustedStages_lif (c : Credential) (ev : Evaluation) (s : State) :
    (trustedStages c ev s).lif = s.lif := by
  simp [trustedStages]
@[simp] theorem trustedStages_iq (c : Credential) (ev : Evaluation) (s : State) : (trustedStages c ev s).iq = s.iq := by
  simp [trustedStages]
@[simp] theorem trustedStages_dcu (c : Credential) (ev : Evaluation) (s : State) :
    (trustedStages c ev s).dcu = s.dcu := by
  simp [trustedStages]
@[simp] theorem trustedStages_jcu (c : Credential) (ev : Evaluation) (s : State) :
    (trustedStages c ev s).jcu = s.jcu := by
  simp [trustedStages]
@[simp] theorem trustedStages_rsu (c : Credential) (ev : Evaluation) (s : State) :
    (trustedStages c ev s).rsu = s.rsu := by
  simp [trustedStages]
@[simp] theorem trustedStages_ctb (c : Credential) (ev : Evaluation) (s : State) :
    (trustedStages c ev s).ctb = s.ctb := by
  simp [trustedStages]
@[simp] theorem trustedStages_jnl (c : Credential) (ev : Evaluation) (s : State) :
    (trustedStages c ev s).jnl = s.jnl := by
  simp [trustedStages]
@[simp] theorem trustedStages_resetN (c : Credential) (ev : Evaluation) (s : State) :
    (trustedStages c ev s).resetN = s.resetN := by
  simp [trustedStages]
@[simp] theorem trustedStages_timebase (c : Credential) (ev : Evaluation) (s : State) :
    (trustedStages c ev s).timebase = s.timebase := by
  simp [trustedStages]
@[simp] theorem trustedStages_hostSent (c : Credential) (ev : Evaluation) (s : State) :
    (trustedStages c ev s).hostSent = s.hostSent := by
  simp [trustedStages]
@[simp] theorem trustedStages_cardSent (c : Credential) (ev : Evaluation) (s : State) :
    (trustedStages c ev s).cardSent = s.cardSent := by
  simp [trustedStages]
@[simp] theorem trustedStages_pending (c : Credential) (ev : Evaluation) (s : State) :
    (trustedStages c ev s).pending = s.pending := by
  simp [trustedStages]

/-! ### `afterCheck` -/

@[simp] theorem afterCheck_lif (c : Credential) (ev : Evaluation) (s : State) : (afterCheck c ev s).lif = s.lif := by
  unfold afterCheck; simp only []; split <;> simp
@[simp] theorem afterCheck_iq (c : Credential) (ev : Evaluation) (s : State) : (afterCheck c ev s).iq = s.iq := by
  unfold afterCheck; simp only []; split <;> simp
@[simp] theorem afterCheck_dcu (c : Credential) (ev : Evaluation) (s : State) : (afterCheck c ev s).dcu = s.dcu := by
  unfold afterCheck; simp only []; split <;> simp
@[simp] theorem afterCheck_jcu (c : Credential) (ev : Evaluation) (s : State) : (afterCheck c ev s).jcu = s.jcu := by
  unfold afterCheck; simp only []; split <;> simp
@[simp] theorem afterCheck_rsu (c : Credential) (ev : Evaluation) (s : State) : (afterCheck c ev s).rsu = s.rsu := by
  unfold afterCheck; simp only []; split <;> simp
@[simp] theorem afterCheck_ctb (c : Credential) (ev : Evaluation) (s : State) : (afterCheck c ev s).ctb = s.ctb := by
  unfold afterCheck; simp only []; split <;> simp
@[simp] theorem afterCheck_jnl (c : Credential) (ev : Evaluation) (s : State) : (afterCheck c ev s).jnl = s.jnl := by
  unfold afterCheck; simp only []; split <;> simp
@[simp] theorem afterCheck_resetN (c : Credential) (ev : Evaluation) (s : State) :
    (afterCheck c ev s).resetN = s.resetN := by
  unfold afterCheck; simp only []; split <;> simp
@[simp] theorem afterCheck_timebase (c : Credential) (ev : Evaluation) (s : State) :
    (afterCheck c ev s).timebase = s.timebase := by
  unfold afterCheck; simp only []; split <;> simp
@[simp] theorem afterCheck_hostSent (c : Credential) (ev : Evaluation) (s : State) :
    (afterCheck c ev s).hostSent = s.hostSent := by
  unfold afterCheck; simp only []; split <;> simp
@[simp] theorem afterCheck_cardSent (c : Credential) (ev : Evaluation) (s : State) :
    (afterCheck c ev s).cardSent = s.cardSent := by
  unfold afterCheck; simp only []; split <;> simp
@[simp] theorem afterCheck_pending (c : Credential) (ev : Evaluation) (s : State) :
    (afterCheck c ev s).pending = s.pending := by
  unfold afterCheck; simp only []; split <;> simp

/-! ### `startCheck` -/

@[simp] theorem startCheck_lif (c : Credential) (ev : Evaluation) (s : State) : (startCheck c ev s).lif = s.lif := by
  unfold startCheck; (repeat' split) <;> simp
@[simp] theorem startCheck_iq (c : Credential) (ev : Evaluation) (s : State) : (startCheck c ev s).iq = s.iq := by
  unfold startCheck; (repeat' split) <;> simp
@[simp] theorem startCheck_dcu (c : Credential) (ev : Evaluation) (s : State) : (startCheck c ev s).dcu = s.dcu := by
  unfold startCheck; (repeat' split) <;> simp
@[simp] theorem startCheck_jcu (c : Credential) (ev : Evaluation) (s : State) : (startCheck c ev s).jcu = s.jcu := by
  unfold startCheck; (repeat' split) <;> simp
@[simp] theorem startCheck_rsu (c : Credential) (ev : Evaluation) (s : State) : (startCheck c ev s).rsu = s.rsu := by
  unfold startCheck; (repeat' split) <;> simp
@[simp] theorem startCheck_ctb (c : Credential) (ev : Evaluation) (s : State) : (startCheck c ev s).ctb = s.ctb := by
  unfold startCheck; (repeat' split) <;> simp
@[simp] theorem startCheck_jnl (c : Credential) (ev : Evaluation) (s : State) : (startCheck c ev s).jnl = s.jnl := by
  unfold startCheck; (repeat' split) <;> simp
@[simp] theorem startCheck_resetN (c : Credential) (ev : Evaluation) (s : State) :
    (startCheck c ev s).resetN = s.resetN := by
  unfold startCheck; (repeat' split) <;> simp
@[simp] theorem startCheck_timebase (c : Credential) (ev : Evaluation) (s : State) :
    (startCheck c ev s).timebase = s.timebase := by
  unfold startCheck; (repeat' split) <;> simp
@[simp] theorem startCheck_hostSent (c : Credential) (ev : Evaluation) (s : State) :
    (startCheck c ev s).hostSent = s.hostSent := by
  unfold startCheck; (repeat' split) <;> simp
@[simp] theorem startCheck_cardSent (c : Credential) (ev : Evaluation) (s : State) :
    (startCheck c ev s).cardSent = s.cardSent := by
  unfold startCheck; (repeat' split) <;> simp
@[simp] theorem startCheck_pending (c : Credential) (ev : Evaluation) (s : State) :
    (startCheck c ev s).pending = s.pending := by
  unfold startCheck; (repeat' split) <;> simp

/-! ### `startEvaluation` -/

@[simp] theorem startEvaluation_lif (ev : Evaluation) (s : State) : (startEvaluation ev s).lif = s.lif := by
  unfold startEvaluation; split <;> simp
@[simp] theorem startEvaluation_iq (ev : Evaluation) (s : State) : (startEvaluation ev s).iq = s.iq := by
  unfold startEvaluation; split <;> simp
@[simp] theorem startEvaluation_dcu (ev : Evaluation) (s : State) : (startEvaluation ev s).dcu = s.dcu := by
  unfold startEvaluation; split <;> simp
@[simp] theorem startEvaluation_jcu (ev : Evaluation) (s : State) : (startEvaluation ev s).jcu = s.jcu := by
  unfold startEvaluation; split <;> simp
@[simp] theorem startEvaluation_rsu (ev : Evaluation) (s : State) : (startEvaluation ev s).rsu = s.rsu := by
  unfold startEvaluation; split <;> simp
@[simp] theorem startEvaluation_ctb (ev : Evaluation) (s : State) : (startEvaluation ev s).ctb = s.ctb := by
  unfold startEvaluation; split <;> simp
@[simp] theorem startEvaluation_jnl (ev : Evaluation) (s : State) : (startEvaluation ev s).jnl = s.jnl := by
  unfold startEvaluation; split <;> simp
@[simp] theorem startEvaluation_resetN (ev : Evaluation) (s : State) : (startEvaluation ev s).resetN = s.resetN := by
  unfold startEvaluation; split <;> simp
@[simp] theorem startEvaluation_timebase (ev : Evaluation) (s : State) :
    (startEvaluation ev s).timebase = s.timebase := by
  unfold startEvaluation; split <;> simp
@[simp] theorem startEvaluation_hostSent (ev : Evaluation) (s : State) :
    (startEvaluation ev s).hostSent = s.hostSent := by
  unfold startEvaluation; split <;> simp
@[simp] theorem startEvaluation_cardSent (ev : Evaluation) (s : State) :
    (startEvaluation ev s).cardSent = s.cardSent := by
  unfold startEvaluation; split <;> simp
@[simp] theorem startEvaluation_pending (ev : Evaluation) (s : State) : (startEvaluation ev s).pending = s.pending := by
  unfold startEvaluation; split <;> simp

/-! ### `finishCheck` -/

@[simp] theorem finishCheck_lif (m : Bool) (ev : Evaluation) (s : State) : (finishCheck m ev s).lif = s.lif := by
  unfold finishCheck; split <;> simp
@[simp] theorem finishCheck_iq (m : Bool) (ev : Evaluation) (s : State) : (finishCheck m ev s).iq = s.iq := by
  unfold finishCheck; split <;> simp
@[simp] theorem finishCheck_dcu (m : Bool) (ev : Evaluation) (s : State) : (finishCheck m ev s).dcu = s.dcu := by
  unfold finishCheck; split <;> simp
@[simp] theorem finishCheck_jcu (m : Bool) (ev : Evaluation) (s : State) : (finishCheck m ev s).jcu = s.jcu := by
  unfold finishCheck; split <;> simp
@[simp] theorem finishCheck_rsu (m : Bool) (ev : Evaluation) (s : State) : (finishCheck m ev s).rsu = s.rsu := by
  unfold finishCheck; split <;> simp
@[simp] theorem finishCheck_ctb (m : Bool) (ev : Evaluation) (s : State) : (finishCheck m ev s).ctb = s.ctb := by
  unfold finishCheck; split <;> simp
@[simp] theorem finishCheck_jnl (m : Bool) (ev : Evaluation) (s : State) : (finishCheck m ev s).jnl = s.jnl := by
  unfold finishCheck; split <;> simp
@[simp] theorem finishCheck_resetN (m : Bool) (ev : Evaluation) (s : State) :
    (finishCheck m ev s).resetN = s.resetN := by
  unfold finishCheck; split <;> simp
@[simp] theorem finishCheck_timebase (m : Bool) (ev : Evaluation) (s : State) :
    (finishCheck m ev s).timebase = s.timebase := by
  unfold finishCheck; split <;> simp
@[simp] theorem finishCheck_hostSent (m : Bool) (ev : Evaluation) (s : State) :
    (finishCheck m ev s).hostSent = s.hostSent := by
  unfold finishCheck; split <;> simp
@[simp] theorem finishCheck_cardSent (m : Bool) (ev : Evaluation) (s : State) :
    (finishCheck m ev s).cardSent = s.cardSent := by
  unfold finishCheck; split <;> simp
@[simp] theorem finishCheck_pending (m : Bool) (ev : Evaluation) (s : State) :
    (finishCheck m ev s).pending = s.pending := by
  unfold finishCheck; split <;> simp

/-! ### `checkComplete` -/

@[simp] theorem checkComplete_lif (s : State) : (checkComplete s).lif = s.lif := by
  unfold checkComplete; split <;> simp
@[simp] theorem checkComplete_iq (s : State) : (checkComplete s).iq = s.iq := by
  unfold checkComplete; split <;> simp
@[simp] theorem checkComplete_dcu (s : State) : (checkComplete s).dcu = s.dcu := by
  unfold checkComplete; split <;> simp
@[simp] theorem checkComplete_jcu (s : State) : (checkComplete s).jcu = s.jcu := by
  unfold checkComplete; split <;> simp
@[simp] theorem checkComplete_rsu (s : State) : (checkComplete s).rsu = s.rsu := by
  unfold checkComplete; split <;> simp
@[simp] theorem checkComplete_ctb (s : State) : (checkComplete s).ctb = s.ctb := by
  unfold checkComplete; split <;> simp
@[simp] theorem checkComplete_jnl (s : State) : (checkComplete s).jnl = s.jnl := by
  unfold checkComplete; split <;> simp
@[simp] theorem checkComplete_resetN (s : State) : (checkComplete s).resetN = s.resetN := by
  unfold checkComplete; split <;> simp
@[simp] theorem checkComplete_timebase (s : State) : (checkComplete s).timebase = s.timebase := by
  unfold checkComplete; split <;> simp
@[simp] theorem checkComplete_hostSent (s : State) : (checkComplete s).hostSent = s.hostSent := by
  unfold checkComplete; split <;> simp
@[simp] theorem checkComplete_cardSent (s : State) : (checkComplete s).cardSent = s.cardSent := by
  unfold checkComplete; split <;> simp
@[simp] theorem checkComplete_pending (s : State) : (checkComplete s).pending = s.pending := by
  unfold checkComplete; split <;> simp

/-! ### `engineTake` -/

@[simp] theorem engineTake_dcu (s : State) : (engineTake s).dcu = s.dcu := by
  unfold engineTake; (repeat' split) <;> simp
@[simp] theorem engineTake_jcu (s : State) : (engineTake s).jcu = s.jcu := by
  unfold engineTake; (repeat' split) <;> simp
@[simp] theorem engineTake_rsu (s : State) : (engineTake s).rsu = s.rsu := by
  unfold engineTake; (repeat' split) <;> simp
@[simp] theorem engineTake_ctb (s : State) : (engineTake s).ctb = s.ctb := by
  unfold engineTake; (repeat' split) <;> simp
@[simp] theorem engineTake_jnl (s : State) : (engineTake s).jnl = s.jnl := by
  unfold engineTake; (repeat' split) <;> simp
@[simp] theorem engineTake_resetN (s : State) : (engineTake s).resetN = s.resetN := by
  unfold engineTake; (repeat' split) <;> simp
@[simp] theorem engineTake_timebase (s : State) : (engineTake s).timebase = s.timebase := by
  unfold engineTake; (repeat' split) <;> simp
@[simp] theorem engineTake_hostSent (s : State) : (engineTake s).hostSent = s.hostSent := by
  unfold engineTake; (repeat' split) <;> simp
@[simp] theorem engineTake_cardSent (s : State) : (engineTake s).cardSent = s.cardSent := by
  unfold engineTake; (repeat' split) <;> simp
@[simp] theorem engineTake_pending (s : State) : (engineTake s).pending = s.pending := by
  unfold engineTake; (repeat' split) <;> simp

/-! ### `openForAction` -/

@[simp] theorem openForAction_lif (ev : Evaluation) (s : State) : (openForAction ev s).1.lif = s.lif := by
  unfold openForAction; split <;> simp
@[simp] theorem openForAction_iq (ev : Evaluation) (s : State) : (openForAction ev s).1.iq = s.iq := by
  unfold openForAction; split <;> simp
@[simp] theorem openForAction_ciu (ev : Evaluation) (s : State) : (openForAction ev s).1.ciu = s.ciu := by
  unfold openForAction; split <;> simp
@[simp] theorem openForAction_dcu (ev : Evaluation) (s : State) : (openForAction ev s).1.dcu = s.dcu := by
  unfold openForAction; split <;> simp
@[simp] theorem openForAction_jcu (ev : Evaluation) (s : State) : (openForAction ev s).1.jcu = s.jcu := by
  unfold openForAction; split <;> simp
@[simp] theorem openForAction_rsu (ev : Evaluation) (s : State) : (openForAction ev s).1.rsu = s.rsu := by
  unfold openForAction; split <;> simp
@[simp] theorem openForAction_ven (ev : Evaluation) (s : State) : (openForAction ev s).1.ven = s.ven := by
  unfold openForAction; split <;> simp
@[simp] theorem openForAction_jnl (ev : Evaluation) (s : State) : (openForAction ev s).1.jnl = s.jnl := by
  unfold openForAction; split <;> simp
@[simp] theorem openForAction_resetN (ev : Evaluation) (s : State) : (openForAction ev s).1.resetN = s.resetN := by
  unfold openForAction; split <;> simp
@[simp] theorem openForAction_timebase (ev : Evaluation) (s : State) : (openForAction ev s).1.timebase = s.timebase := by
  unfold openForAction; split <;> simp
@[simp] theorem openForAction_hostSent (ev : Evaluation) (s : State) : (openForAction ev s).1.hostSent = s.hostSent := by
  unfold openForAction; split <;> simp
@[simp] theorem openForAction_cardSent (ev : Evaluation) (s : State) : (openForAction ev s).1.cardSent = s.cardSent := by
  unfold openForAction; split <;> simp
@[simp] theorem openForAction_pending (ev : Evaluation) (s : State) : (openForAction ev s).1.pending = s.pending := by
  unfold openForAction; split <;> simp

/-! ### `releaseCard` -/

@[simp] theorem releaseCard_lif (ev : Evaluation) (s : State) : (releaseCard ev s).lif = s.lif := by
  unfold releaseCard; split <;> simp
@[simp] theorem releaseCard_iq (ev : Evaluation) (s : State) : (releaseCard ev s).iq = s.iq := by
  unfold releaseCard; split <;> simp
@[simp] theorem releaseCard_dcu (ev : Evaluation) (s : State) : (releaseCard ev s).dcu = s.dcu := by
  unfold releaseCard; split <;> simp
@[simp] theorem releaseCard_jcu (ev : Evaluation) (s : State) : (releaseCard ev s).jcu = s.jcu := by
  unfold releaseCard; split <;> simp
@[simp] theorem releaseCard_rsu (ev : Evaluation) (s : State) : (releaseCard ev s).rsu = s.rsu := by
  unfold releaseCard; split <;> simp
@[simp] theorem releaseCard_ven (ev : Evaluation) (s : State) : (releaseCard ev s).ven = s.ven := by
  unfold releaseCard; split <;> simp
@[simp] theorem releaseCard_irg (ev : Evaluation) (s : State) : (releaseCard ev s).irg = s.irg := by
  unfold releaseCard; split <;> simp
@[simp] theorem releaseCard_ctb (ev : Evaluation) (s : State) : (releaseCard ev s).ctb = s.ctb := by
  unfold releaseCard; split <;> simp
@[simp] theorem releaseCard_jnl (ev : Evaluation) (s : State) : (releaseCard ev s).jnl = s.jnl := by
  unfold releaseCard; split <;> simp
@[simp] theorem releaseCard_resetN (ev : Evaluation) (s : State) : (releaseCard ev s).resetN = s.resetN := by
  unfold releaseCard; split <;> simp
@[simp] theorem releaseCard_timebase (ev : Evaluation) (s : State) : (releaseCard ev s).timebase = s.timebase := by
  unfold releaseCard; split <;> simp
@[simp] theorem releaseCard_hostSent (ev : Evaluation) (s : State) : (releaseCard ev s).hostSent = s.hostSent := by
  unfold releaseCard; split <;> simp
@[simp] theorem releaseCard_cardSent (ev : Evaluation) (s : State) : (releaseCard ev s).cardSent = s.cardSent := by
  unfold releaseCard; split <;> simp
@[simp] theorem releaseCard_pending (ev : Evaluation) (s : State) : (releaseCard ev s).pending = s.pending := by
  unfold releaseCard; split <;> simp

/-! ### `issueVerdict` -/

@[simp] theorem issueVerdict_iq (ev : Evaluation) (s : State) : (issueVerdict ev s).iq = s.iq := by
  simp [issueVerdict]
@[simp] theorem issueVerdict_dcu (ev : Evaluation) (s : State) : (issueVerdict ev s).dcu = s.dcu := by
  simp [issueVerdict]
@[simp] theorem issueVerdict_jcu (ev : Evaluation) (s : State) : (issueVerdict ev s).jcu = s.jcu := by
  simp [issueVerdict]
@[simp] theorem issueVerdict_rsu (ev : Evaluation) (s : State) : (issueVerdict ev s).rsu = s.rsu := by
  simp [issueVerdict]
@[simp] theorem issueVerdict_ven (ev : Evaluation) (s : State) : (issueVerdict ev s).ven = s.ven := by
  simp [issueVerdict]
@[simp] theorem issueVerdict_resetN (ev : Evaluation) (s : State) : (issueVerdict ev s).resetN = s.resetN := by
  simp [issueVerdict]
@[simp] theorem issueVerdict_timebase (ev : Evaluation) (s : State) : (issueVerdict ev s).timebase = s.timebase := by
  simp [issueVerdict]
@[simp] theorem issueVerdict_hostSent (ev : Evaluation) (s : State) : (issueVerdict ev s).hostSent = s.hostSent := by
  simp [issueVerdict]
@[simp] theorem issueVerdict_cardSent (ev : Evaluation) (s : State) : (issueVerdict ev s).cardSent = s.cardSent := by
  simp [issueVerdict]
@[simp] theorem issueVerdict_pending (ev : Evaluation) (s : State) : (issueVerdict ev s).pending = s.pending := by
  simp [issueVerdict]

/-! ### `issue` -/

@[simp] theorem issue_iq (b : Bool) (s : State) : (issue b s).iq = s.iq := by
  unfold issue; (repeat' split) <;> simp
@[simp] theorem issue_dcu (b : Bool) (s : State) : (issue b s).dcu = s.dcu := by
  unfold issue; (repeat' split) <;> simp
@[simp] theorem issue_jcu (b : Bool) (s : State) : (issue b s).jcu = s.jcu := by
  unfold issue; (repeat' split) <;> simp
@[simp] theorem issue_rsu (b : Bool) (s : State) : (issue b s).rsu = s.rsu := by
  unfold issue; (repeat' split) <;> simp
@[simp] theorem issue_resetN (b : Bool) (s : State) : (issue b s).resetN = s.resetN := by
  unfold issue; (repeat' split) <;> simp
@[simp] theorem issue_timebase (b : Bool) (s : State) : (issue b s).timebase = s.timebase := by
  unfold issue; (repeat' split) <;> simp
@[simp] theorem issue_hostSent (b : Bool) (s : State) : (issue b s).hostSent = s.hostSent := by
  unfold issue; (repeat' split) <;> simp
@[simp] theorem issue_cardSent (b : Bool) (s : State) : (issue b s).cardSent = s.cardSent := by
  unfold issue; (repeat' split) <;> simp
@[simp] theorem issue_pending (b : Bool) (s : State) : (issue b s).pending = s.pending := by
  unfold issue; (repeat' split) <;> simp

/-! ### `discardNotice` -/

@[simp] theorem discardNotice_iq (c : DiscardCause) (r : Route) (s : State) : (discardNotice c r s).iq = s.iq := by
  simp [discardNotice]
@[simp] theorem discardNotice_ciu (c : DiscardCause) (r : Route) (s : State) : (discardNotice c r s).ciu = s.ciu := by
  simp [discardNotice]
@[simp] theorem discardNotice_dcu (c : DiscardCause) (r : Route) (s : State) : (discardNotice c r s).dcu = s.dcu := by
  simp [discardNotice]
@[simp] theorem discardNotice_jcu (c : DiscardCause) (r : Route) (s : State) : (discardNotice c r s).jcu = s.jcu := by
  simp [discardNotice]
@[simp] theorem discardNotice_rsu (c : DiscardCause) (r : Route) (s : State) : (discardNotice c r s).rsu = s.rsu := by
  simp [discardNotice]
@[simp] theorem discardNotice_ven (c : DiscardCause) (r : Route) (s : State) : (discardNotice c r s).ven = s.ven := by
  simp [discardNotice]
@[simp] theorem discardNotice_irg (c : DiscardCause) (r : Route) (s : State) : (discardNotice c r s).irg = s.irg := by
  simp [discardNotice]
@[simp] theorem discardNotice_ctb (c : DiscardCause) (r : Route) (s : State) : (discardNotice c r s).ctb = s.ctb := by
  simp [discardNotice]
@[simp] theorem discardNotice_jnl (c : DiscardCause) (r : Route) (s : State) : (discardNotice c r s).jnl = s.jnl := by
  simp [discardNotice]
@[simp] theorem discardNotice_resetN (c : DiscardCause) (r : Route) (s : State) :
    (discardNotice c r s).resetN = s.resetN := by
  simp [discardNotice]
@[simp] theorem discardNotice_timebase (c : DiscardCause) (r : Route) (s : State) :
    (discardNotice c r s).timebase = s.timebase := by
  simp [discardNotice]
@[simp] theorem discardNotice_hostSent (c : DiscardCause) (r : Route) (s : State) :
    (discardNotice c r s).hostSent = s.hostSent := by
  simp [discardNotice]
@[simp] theorem discardNotice_cardSent (c : DiscardCause) (r : Route) (s : State) :
    (discardNotice c r s).cardSent = s.cardSent := by
  simp [discardNotice]
@[simp] theorem discardNotice_pending (c : DiscardCause) (r : Route) (s : State) :
    (discardNotice c r s).pending = s.pending := by
  simp [discardNotice]

/-! ### `applyRoute` -/

@[simp] theorem applyRoute_iq (j : Running) (r : Route) (k k' : Nat) (s : State) :
    (applyRoute j r k k' s).iq = s.iq := by
  simp [applyRoute]
@[simp] theorem applyRoute_ciu (j : Running) (r : Route) (k k' : Nat) (s : State) :
    (applyRoute j r k k' s).ciu = s.ciu := by
  simp [applyRoute]
@[simp] theorem applyRoute_dcu (j : Running) (r : Route) (k k' : Nat) (s : State) :
    (applyRoute j r k k' s).dcu = s.dcu := by
  simp [applyRoute]
@[simp] theorem applyRoute_rsu (j : Running) (r : Route) (k k' : Nat) (s : State) :
    (applyRoute j r k k' s).rsu = s.rsu := by
  simp [applyRoute]
@[simp] theorem applyRoute_ven (j : Running) (r : Route) (k k' : Nat) (s : State) :
    (applyRoute j r k k' s).ven = s.ven := by
  simp [applyRoute]
@[simp] theorem applyRoute_irg (j : Running) (r : Route) (k k' : Nat) (s : State) :
    (applyRoute j r k k' s).irg = s.irg := by
  simp [applyRoute]
@[simp] theorem applyRoute_ctb (j : Running) (r : Route) (k k' : Nat) (s : State) :
    (applyRoute j r k k' s).ctb = s.ctb := by
  simp [applyRoute]
@[simp] theorem applyRoute_resetN (j : Running) (r : Route) (k k' : Nat) (s : State) :
    (applyRoute j r k k' s).resetN = s.resetN := by
  simp [applyRoute]
@[simp] theorem applyRoute_timebase (j : Running) (r : Route) (k k' : Nat) (s : State) :
    (applyRoute j r k k' s).timebase = s.timebase := by
  simp [applyRoute]
@[simp] theorem applyRoute_hostSent (j : Running) (r : Route) (k k' : Nat) (s : State) :
    (applyRoute j r k k' s).hostSent = s.hostSent := by
  simp [applyRoute]
@[simp] theorem applyRoute_cardSent (j : Running) (r : Route) (k k' : Nat) (s : State) :
    (applyRoute j r k k' s).cardSent = s.cardSent := by
  simp [applyRoute]
@[simp] theorem applyRoute_pending (j : Running) (r : Route) (k k' : Nat) (s : State) :
    (applyRoute j r k k' s).pending = s.pending := by
  simp [applyRoute]

/-! ### `tryStaged` -/

@[simp] theorem tryStaged_iq (j : Running) (k : Nat) (s : State) : (tryStaged j k s).1.iq = s.iq := by
  unfold tryStaged; (repeat' split) <;> simp
@[simp] theorem tryStaged_ciu (j : Running) (k : Nat) (s : State) : (tryStaged j k s).1.ciu = s.ciu := by
  unfold tryStaged; (repeat' split) <;> simp
@[simp] theorem tryStaged_dcu (j : Running) (k : Nat) (s : State) : (tryStaged j k s).1.dcu = s.dcu := by
  unfold tryStaged; (repeat' split) <;> simp
@[simp] theorem tryStaged_rsu (j : Running) (k : Nat) (s : State) : (tryStaged j k s).1.rsu = s.rsu := by
  unfold tryStaged; (repeat' split) <;> simp
@[simp] theorem tryStaged_ven (j : Running) (k : Nat) (s : State) : (tryStaged j k s).1.ven = s.ven := by
  unfold tryStaged; (repeat' split) <;> simp
@[simp] theorem tryStaged_irg (j : Running) (k : Nat) (s : State) : (tryStaged j k s).1.irg = s.irg := by
  unfold tryStaged; (repeat' split) <;> simp
@[simp] theorem tryStaged_ctb (j : Running) (k : Nat) (s : State) : (tryStaged j k s).1.ctb = s.ctb := by
  unfold tryStaged; (repeat' split) <;> simp
@[simp] theorem tryStaged_resetN (j : Running) (k : Nat) (s : State) : (tryStaged j k s).1.resetN = s.resetN := by
  unfold tryStaged; (repeat' split) <;> simp
@[simp] theorem tryStaged_timebase (j : Running) (k : Nat) (s : State) : (tryStaged j k s).1.timebase = s.timebase := by
  unfold tryStaged; (repeat' split) <;> simp
@[simp] theorem tryStaged_hostSent (j : Running) (k : Nat) (s : State) : (tryStaged j k s).1.hostSent = s.hostSent := by
  unfold tryStaged; (repeat' split) <;> simp
@[simp] theorem tryStaged_cardSent (j : Running) (k : Nat) (s : State) : (tryStaged j k s).1.cardSent = s.cardSent := by
  unfold tryStaged; (repeat' split) <;> simp
@[simp] theorem tryStaged_pending (j : Running) (k : Nat) (s : State) : (tryStaged j k s).1.pending = s.pending := by
  unfold tryStaged; (repeat' split) <;> simp

/-! ### `depart` -/

@[simp] theorem depart_lif (k : Nat) (s : State) : (depart k s).lif = s.lif := by
  unfold depart; split <;> simp
@[simp] theorem depart_iq (k : Nat) (s : State) : (depart k s).iq = s.iq := by
  unfold depart; split <;> simp
@[simp] theorem depart_ciu (k : Nat) (s : State) : (depart k s).ciu = s.ciu := by
  unfold depart; split <;> simp
@[simp] theorem depart_dcu (k : Nat) (s : State) : (depart k s).dcu = s.dcu := by
  unfold depart; split <;> simp
@[simp] theorem depart_rsu (k : Nat) (s : State) : (depart k s).rsu = s.rsu := by
  unfold depart; split <;> simp
@[simp] theorem depart_ven (k : Nat) (s : State) : (depart k s).ven = s.ven := by
  unfold depart; split <;> simp
@[simp] theorem depart_irg (k : Nat) (s : State) : (depart k s).irg = s.irg := by
  unfold depart; split <;> simp
@[simp] theorem depart_ctb (k : Nat) (s : State) : (depart k s).ctb = s.ctb := by
  unfold depart; split <;> simp
@[simp] theorem depart_jnl (k : Nat) (s : State) : (depart k s).jnl = s.jnl := by
  unfold depart; split <;> simp
@[simp] theorem depart_resetN (k : Nat) (s : State) : (depart k s).resetN = s.resetN := by
  unfold depart; split <;> simp
@[simp] theorem depart_timebase (k : Nat) (s : State) : (depart k s).timebase = s.timebase := by
  unfold depart; split <;> simp
@[simp] theorem depart_hostSent (k : Nat) (s : State) : (depart k s).hostSent = s.hostSent := by
  unfold depart; split <;> simp
@[simp] theorem depart_cardSent (k : Nat) (s : State) : (depart k s).cardSent = s.cardSent := by
  unfold depart; split <;> simp
@[simp] theorem depart_pending (k : Nat) (s : State) : (depart k s).pending = s.pending := by
  unfold depart; split <;> simp

/-! ### `enterClosing` -/

@[simp] theorem enterClosing_iq (s : State) : (enterClosing s).iq = s.iq := by
  unfold enterClosing; (repeat' split) <;> simp
@[simp] theorem enterClosing_ciu (s : State) : (enterClosing s).ciu = s.ciu := by
  unfold enterClosing; (repeat' split) <;> simp
@[simp] theorem enterClosing_dcu (s : State) : (enterClosing s).dcu = s.dcu := by
  unfold enterClosing; (repeat' split) <;> simp
@[simp] theorem enterClosing_rsu (s : State) : (enterClosing s).rsu = s.rsu := by
  unfold enterClosing; (repeat' split) <;> simp
@[simp] theorem enterClosing_ven (s : State) : (enterClosing s).ven = s.ven := by
  unfold enterClosing; (repeat' split) <;> simp
@[simp] theorem enterClosing_irg (s : State) : (enterClosing s).irg = s.irg := by
  unfold enterClosing; (repeat' split) <;> simp
@[simp] theorem enterClosing_ctb (s : State) : (enterClosing s).ctb = s.ctb := by
  unfold enterClosing; (repeat' split) <;> simp
@[simp] theorem enterClosing_jnl (s : State) : (enterClosing s).jnl = s.jnl := by
  unfold enterClosing; (repeat' split) <;> simp
@[simp] theorem enterClosing_resetN (s : State) : (enterClosing s).resetN = s.resetN := by
  unfold enterClosing; (repeat' split) <;> simp
@[simp] theorem enterClosing_timebase (s : State) : (enterClosing s).timebase = s.timebase := by
  unfold enterClosing; (repeat' split) <;> simp
@[simp] theorem enterClosing_hostSent (s : State) : (enterClosing s).hostSent = s.hostSent := by
  unfold enterClosing; (repeat' split) <;> simp
@[simp] theorem enterClosing_cardSent (s : State) : (enterClosing s).cardSent = s.cardSent := by
  unfold enterClosing; (repeat' split) <;> simp
@[simp] theorem enterClosing_pending (s : State) : (enterClosing s).pending = s.pending := by
  unfold enterClosing; (repeat' split) <;> simp

/-! ### `completeCase` -/

@[simp] theorem completeCase_iq (s : State) (c : Case) : (completeCase s c).iq = s.iq := by
  simp [completeCase]
@[simp] theorem completeCase_ciu (s : State) (c : Case) : (completeCase s c).ciu = s.ciu := by
  simp [completeCase]
@[simp] theorem completeCase_dcu (s : State) (c : Case) : (completeCase s c).dcu = s.dcu := by
  simp [completeCase]
@[simp] theorem completeCase_jcu (s : State) (c : Case) : (completeCase s c).jcu = s.jcu := by
  simp [completeCase]
@[simp] theorem completeCase_rsu (s : State) (c : Case) : (completeCase s c).rsu = s.rsu := by
  simp [completeCase]
@[simp] theorem completeCase_ven (s : State) (c : Case) : (completeCase s c).ven = s.ven := by
  simp [completeCase]
@[simp] theorem completeCase_resetN (s : State) (c : Case) : (completeCase s c).resetN = s.resetN := by
  simp [completeCase]
@[simp] theorem completeCase_timebase (s : State) (c : Case) : (completeCase s c).timebase = s.timebase := by
  simp [completeCase]
@[simp] theorem completeCase_hostSent (s : State) (c : Case) : (completeCase s c).hostSent = s.hostSent := by
  simp [completeCase]
@[simp] theorem completeCase_cardSent (s : State) (c : Case) : (completeCase s c).cardSent = s.cardSent := by
  simp [completeCase]
@[simp] theorem completeCase_pending (s : State) (c : Case) : (completeCase s c).pending = s.pending := by
  simp [completeCase]

end Sys2Proof.Machine
end

