-- ==== Sys2Proof/WellFormed.lean ====
section
/-! DEFINITION. Which terms of `Instr` a line can bring: the sizes that a frame form fixes (R153, R189). A term that
is not well formed still has a meaning, that of the fault its size is (log 5). -/

namespace Sys2Proof

/-- The operands have the sizes the frame forms fix: a host body of at most 240 bytes (R153), and the length in bytes and
the kind byte of each frame of the card line (R131, R189). A frame that CARD_CHECK_ERROR brings has at least its kind and
its length byte. -/
def Instr.wf : Instr → Bool
  | .hostFrameReceived _ _ body _ => body.length ≤ 240
  | .cardUp _ frame => frame.length == 10 && frame.head? == some 0x01#8
  | .block _ frame => frame.length == 20 && frame.head? == some 0x02#8
  | .cardDown _ frame => frame.length == 3 && frame.head? == some 0x03#8
  | .written _ frame => frame.length == 4 && frame.head? == some 0x04#8
  | .cardCheckError _ frame => 2 ≤ frame.length
  | _ => true

end Sys2Proof
end

