-- ==== Sys2Proof/Tests/Slice0.lean ====
section
/-! SUPPORT. Tests from the manual's worked examples and tables, one step or one function each; the refusals of `Instr.wf`;
and, for every statement with hypotheses, a witness: concrete states and operands that meet them, clause by clause, with
the operands at the ends of the clauses' ranges. -/

namespace Sys2Proof.Tests

open Sys2Proof.Machine

/-! ### Small states -/

/-- Route A of the Journey chapter's example. -/
def routeA : Route :=
  { service := 4721, dayStart := 29041200,
    stops := [⟨1180, 0, 2, 10, 420⟩, ⟨1205, 184, 2, 11, 436⟩, ⟨1260, 402, 2, 12, 455⟩, ⟨2200, 655, 3, 20, 478⟩,
      ⟨1322, 820, 3, 21, 494⟩, ⟨1340, 1011, 3, 22, 512⟩] }

/-- Route B of the same example. -/
def routeB : Route :=
  { service := 4730, dayStart := 29041200,
    stops := [⟨2200, 655, 3, 20, 478⟩, ⟨3105, 790, 3, 31, 497⟩, ⟨3140, 948, 3, 32, 515⟩, ⟨3177, 1102, 3, 33, 534⟩] }

/-- Journey 58 on route A, at a position. -/
def journeyAt (closing : Bool) (p : Position) : Jcu :=
  { Jcu.reset with journey := some { closing := closing, route := routeA, epoch := 1, position := p }, number := 58,
                   delay := 8, carriage := 3, clock := { Jcu.reset.clock with isSet := true, seconds := 1742498710 } }

/-- The part while journey 58 is OPEN. -/
def onRoute (p : Position) : State := { State.reset with jcu := journeyAt false p }

/-- The part while journey 58 is CLOSING. -/
def closingAt (p : Position) : State := { State.reset with jcu := journeyAt true p }

/-- The clock is set and no journey runs. -/
def clockSetState : State :=
  { State.reset with jcu := { Jcu.reset with clock := { Jcu.reset.clock with isSet := true, seconds := 1742498710 } } }

/-- The staging of a state is replaced. -/
def staged (st : Staging) (s : State) : State := { s with jcu := { s.jcu with staging := st } }

/-- One request waits, in ACTIVE with an empty outbound queue. -/
def asked (kind : Byte) (body : List Byte) (s : State) : State :=
  { s with lif := { Lif.reset with requests := [{ kind := kind, tag := 7, body := body }] } }

/-- Such a request stands ready. -/
theorem asked_ready (kind : Byte) (body : List Byte) (s : State) (h : s.resetN = true) :
    Ready kind 7 body [] (asked kind body s) :=
  ⟨h, rfl, rfl, by simp [freeSlots, asked, Lif.reset], rfl, by simp [noneReserved, asked, Lif.reset]⟩

/-- A frame to fill outbound slots with. -/
def wakeSlot : Slot := .frame (.notice (.wake .link))

/-- The outbound queue holds this many frames. -/
def withOutbound (n : Nat) (s : State) : State := { s with lif := { s.lif with outbound := List.replicate n wakeSlot } }

/-- The part in STANDBY. -/
def asleep (s : State) : State := { s with lif := { s.lif with power := .standby } }

/-- The SINGLE of the worked evaluation #501. -/
def single501 : Credential :=
  { key := { issuer := 41, serial := 0xA0B0C0 }, version := 3, product := 310, kind := .single 1180 1205, cls := .second,
    adults := 1, children := 0, validFrom := 29041580, validUntil := 29041642, rides := some 4, service := none,
    checkInput := [], checkValue := 0 }

/-- Area 2 of the worked evaluation, with product 310 accepted (byte 38 of segment 0 is 0x02, R64). -/
def areaTwo : AreaEntry :=
  { configured := true, rate := 1240, kmin := 5, step := 10, cap := 4000, surcharge := 250, childPercent := 50,
    toleranceCap := 5, accept := (Vector.replicate 8 (List.replicate 64 0)).set 0 ((List.replicate 64 0).set 38 0x02) }

/-- The snapshot of the worked evaluation. -/
def snap501 : Snapshot :=
  { journey := 58, epoch := 1, route := routeA, a := 1, seconds := 1742498710, delay := 8 }

/-- The evaluation of #501 when its check has matched. -/
def eval501 : Evaluation :=
  { intake := 501, origin := .link, content := [], carriage := 3, cls := .second, snapshot := snap501, readKey := none,
    credential := some single501, findings := [], trust := .undecided, regStatus := .none, hasRecord := false,
    inspCount := 0, areaReading := none, quote := none, rideOutcome := .none, ridesRemaining := none, verdict := none }

/-- Area 2 is configured. -/
def withAreaTwo (s : State) : State := { s with ven := { s.ven with areas := s.ven.areas.set 2 areaTwo } }

/-- The register record of #501's credential. -/
def rec501 : Record :=
  { key := single501.key, lastSeen := 1742498710, lastCarriage := 3, count := 1, ride := .none, paid := none,
    upgrade := false, caseLink := none }

/-- Case 14 of the Open Cases chapter, with its quote of 1330 to 1340. -/
def case14 : Case :=
  { serial := 14, journey := 58, intake := 501, key := single501.key, linked := true, origin := .link, rides := some 4,
    route := routeA, epoch := 1, a := 1,
    quote := some { amount := 1330, endStop := 1340, kmShort := 83, kmUp := 0, upgrade := false, capped := false,
                    area := 2 },
    basis := some { kind := .single 1180 1205, cls := .second, adults := 1, children := 0, carriageClass := .second },
    opened := 1742498710, deadline := 1742499310 }

/-- Case 14 is open, and its record names it. -/
def withCase14 (s : State) : State :=
  { s with ctb := { s.ctb with cases := [case14], nextSerial := 15 },
           irg := { s.irg with records := [{ rec501 with caseLink := some 14 }] } }

/-- A card is in the field and the unit is in this state, with session 305. -/
def cardIn (st : CardState) (s : State) : State :=
  { s with ciu := { s.ciu with state := st, tag := 305, held := true, identifier := some (List.replicate 7 1) } }

/-- A write is in flight for an owner, its timer due at a count of the timebase. -/
def writingFor (owner : WriteOwner) (timer : Option Nat) (s : State) : State :=
  { cardIn .writing s with
    ciu := { (cardIn .writing s).ciu with write := some { owner := owner, block := [], timer := timer } } }

/-- Two key entries: (41, 3) ACTIVE and (41, 4) RETIRING. -/
def keyEntry (version : Nat) (st : KeyState) : KeyEntry :=
  { issuer := 41, version := version, state := st, material := List.replicate 16 0 }

/-- The Issuer Key Table holds these entries. -/
def withKeyEntries (keys : List KeyEntry) (s : State) : State := { s with dcu := { keys := keys } }

/-- An exact-list entry. -/
def listEntry (issuer : Nat) (action : ListAction) : ListEntry :=
  { key := { issuer := issuer, serial := 0xA1B2C3D4E5 }, action := action, reason := 3, added := 1742480000 }

/-- The exact list holds these entries. -/
def withListEntries (l : List ListEntry) (s : State) : State := { s with rsu := { s.rsu with list := l } }

/-- The bytes of the RETURN ticket of the decoding example (01, 11), with a check value of zeros. -/
def returnTicket : List Byte :=
  [0x02, 41, 3, 0x00, 0xA1, 0xB2, 0xC3, 0xD4, 0xE5, 37, 0x01, 0x36, 0x50, 0x8B] ++ u32 29041200 ++ u32 29042639 ++
    u16 1180 ++ u16 1322 ++ [10] ++ u16 4721 ++ List.replicate 8 0

/-! ### Terms that are not well formed -/

/-- A host body of 241 bytes is refused, and one of 240 is not (R153). -/
theorem test_wf_body : (Instr.hostFrameReceived 1 2 (List.replicate 241 0) 0).wf = false ∧
    (Instr.hostFrameReceived 1 2 (List.replicate 240 0) 0).wf = true := by decide +kernel

/-- A CARD-UP with an identifier of 6 or 8 bytes, or of another kind, is refused (R189). -/
theorem test_wf_identifier : (Instr.cardUp true (0x01 :: List.replicate 8 0)).wf = false ∧
    (Instr.cardUp true (0x01 :: List.replicate 10 0)).wf = false ∧
    (Instr.cardUp true (0x02 :: List.replicate 9 0)).wf = false ∧
    (Instr.cardUp true (0x01 :: List.replicate 9 0)).wf = true := by decide

/-- A BLOCK with 15 or 17 data bytes, or of another kind, is refused (R189). -/
theorem test_wf_block : (Instr.block true (0x02 :: List.replicate 18 0)).wf = false ∧
    (Instr.block true (0x02 :: List.replicate 20 0)).wf = false ∧
    (Instr.block true (0x04 :: List.replicate 19 0)).wf = false ∧
    (Instr.block true (0x02 :: List.replicate 19 0)).wf = true := by decide

/-- A CARD-DOWN with a body and a WRITTEN without one are refused, and so is a frame of one byte (R131, R189). -/
theorem test_wf_cardDown : (Instr.cardDown true [0x03, 0x01, 0x00, 0xFC]).wf = false ∧
    (Instr.cardDown true [0x03, 0x00, 0xFD]).wf = true ∧ (Instr.written true [0x04, 0x00, 0xFC]).wf = false ∧
    (Instr.written true [0x04, 0x01, 0x01, 0xFA]).wf = true ∧ (Instr.cardCheckError true [0x13]).wf = false := by decide

/-! ### Worked examples -/

/-- The RETURN ticket decodes to the fields the example gives (01, worked example; 11, word 0x508B). -/
theorem test_decode_return_ticket :
    (decodeBytes returnTicket).map (·.key) = some { issuer := 41, serial := 0x00A1B2C3D4E5 } ∧
    (decodeBytes returnTicket).map (·.kind) = some (.returnTrip 1180 1322) ∧
    (decodeBytes returnTicket).map (·.cls) = some .second ∧
    (decodeBytes returnTicket).map (fun c => [c.version, c.product, c.adults, c.children, c.validFrom, c.validUntil]) =
      some [3, 310, 1, 1, 29041200, 29042639] ∧
    (decodeBytes returnTicket).map (fun c => [c.rides, c.service]) = some [some 10, some 4721] := by decide +kernel

/-- One trailing zero byte in a PRESENT makes it UNREADABLE, with a readable key; a card pads with zeros (R2, R3). -/
theorem test_decode_trailing_zero :
    decodeContent .link (returnTicket ++ [0]) = none ∧
    readableKey (returnTicket ++ [0]) = some { issuer := 41, serial := 0x00A1B2C3D4E5 } ∧
    (decodeContent (.card { rides := 10, sequence := 0 } 1) (returnTicket ++ List.replicate 43 0)).isSome = true ∧
    readableKey (returnTicket.take 6) = none := by decide +kernel

/-- The probe indices of the screening example: 5349 and 6956 with F 0, 7502 and 434 with F 1 (R44). -/
theorem test_probe_indices : probe1 0 0x00A1B2C3D4E5 = 5349 ∧ probe2 0 0x00A1B2C3D4E5 = 6956 ∧
    probe1 1 0x00A1B2C3D4E5 = 7502 ∧ probe2 1 0x00A1B2C3D4E5 = 434 := by decide

/-- Image bit 5349 is byte 28 of segment 20, value 0x04 (the same example). -/
theorem test_image_bit :
    ScreenImage.imageBit
      { segments := ScreenImage.zeroSegments.set 20 ((List.replicate 32 0).set 28 0x04), generation := 700, offset := 0 }
      5349 = true := by decide

/-- Product 310 is byte 38 of segment 0, value 0x02 (04, after R64). -/
theorem test_accept_310 : areaTwo.accepts 310 = true ∧ areaTwo.accepts 311 = false := by decide

/-- The delays of the split example: 31 s late gives 0, 480 s gives 8, 270 s gives 4 (R28). -/
theorem test_delays : departureDelay 1742497231 29041200 420 = 0 ∧ departureDelay 1742498640 29041200 436 = 8 ∧
    departureDelay 1742499570 29041200 455 = 4 := by decide

/-- The trim example: 980 + 35 gains a millisecond and leaves 15; -980 - 35 withholds one and leaves -15 (R34). -/
theorem test_trim :
    Clock.trimSecond { isSet := true, seconds := 5, millis := 999, trim := 35, trimAcc := 980, withhold := false } =
      { isSet := true, seconds := 6, millis := 0, trim := 35, trimAcc := 15, withhold := false } ∧
    Clock.trimSecond { isSet := true, seconds := 5, millis := 0, trim := -35, trimAcc := -980, withhold := false } =
      { isSet := true, seconds := 5, millis := 0, trim := -35, trimAcc := -15, withhold := true } := by decide

/-- The quote input of case 14 to the stop at index `x` (05, requoting case 14). -/
def quote14 (x : Nat) : QuoteInput :=
  { route := routeA, a := 1, x := x, kind := .single 1180 1205, cls := .second, adults := 1, children := 0,
    carriageClass := .second, paid := none, upgradeHeld := false, entry := areaTwo, m1 := 150 }

/-- The quotes of the worked evaluation and of case 14: 530, 1050 and 1280 (04, 05). -/
theorem test_quotes_case14 : (computeQuote (quote14 2)).amount = 530 ∧ (computeQuote (quote14 4)).amount = 1050 ∧
    (computeQuote (quote14 5)).amount = 1280 ∧ (computeQuote (quote14 2)).endStop = 1260 := by decide

/-- Shortfall and upgrade together: 390 to 1260 and 1170 to 1322, upgrade included (05). -/
theorem test_quotes_upgrade :
    (computeQuote { quote14 2 with kind := .returnTrip 1180 1260, carriageClass := .first }).amount = 390 ∧
    (computeQuote { quote14 4 with kind := .returnTrip 1180 1260, carriageClass := .first }).amount = 1170 ∧
    (computeQuote { quote14 4 with kind := .returnTrip 1180 1260, carriageClass := .first }).upgrade = true := by decide

/-- The worked evaluation #501 after its check: findings 9 and 11, ACTION, quote 530, no ride taken (04). -/
theorem test_evaluation_501 :
    (match (trustedStages single501 eval501 (withAreaTwo (onRoute (.running 1)))).ven.engine with
      | .judging ev => some (ev.finalFindings, ev.verdict, ev.quote.map Quote.brief, ev.ridesRemaining)
      | _ => none) =
      some ([.delayGrace, .shortCoverage], some .action, some (530, 1260), some 4) := by decide +kernel

/-- The same evaluation creates the record with count 1 and takes no ride (04). -/
theorem test_register_501 :
    (trustedStages single501 eval501 (withAreaTwo (onRoute (.running 1)))).irg.records = [rec501] := by decide +kernel

/-- Case 14 CHARGED: the reply is OK, case 14, CHARGED, TAKEN-TOKEN, 3 rides remaining (07, case 14 charged), and then the
amount 1330 (R124; log 43). -/
theorem test_case14_charged :
    (answerCaseResolve (u16 14 ++ u8 3) (withCase14 (onRoute (.running 1)))).2 =
      [0, 0, 14, 3, 3, 3, 0, 0, 0x05, 0x32] := by decide +kernel

/-- The same decision leaves the record CONSUMED, paid from 1205 to 1340, with no case link (07). -/
theorem test_case14_record :
    (answerCaseResolve (u16 14 ++ u8 3) (withCase14 (onRoute (.running 1)))).1.irg.records =
      [{ rec501 with ride := .consumed, paid := some (1205, 1340) }] := by decide +kernel

/-- A pass handed back: a finding after 85 s in another carriage, none in the same one, none after 240 s (06). -/
theorem test_repeat_elsewhere :
    repeatElsewhere 120 1742502180 4 { rec501 with lastSeen := 1742502095, lastCarriage := 2 } = true ∧
    repeatElsewhere 120 1742502095 2 { rec501 with lastSeen := 1742502000, lastCarriage := 2 } = false ∧
    repeatElsewhere 120 1742502420 5 { rec501 with lastSeen := 1742502180, lastCarriage := 4 } = false := by decide

/-- The paid spans of the route-change example: 1205 to 1340 on A, replaced by 3105 to 3177 on B (06). -/
theorem test_paid_span : extendPaid routeA 1 5 none = (1205, 1340) ∧
    extendPaid routeB 1 3 (some (1205, 1340)) = (3105, 3177) := by decide

/-- The tear and the recovery of a write: 211 then 212 expected (06, a torn write). -/
theorem test_torn_write :
    (Record.endWrite false (Record.startWrite { rides := 6, sequence := 211 } rec501)).ride = .torn 212 ∧
    sequenceBefore 212 = 211 ∧ sequenceBefore 0 = 65535 ∧ nextSequence 65535 = 0 := by decide

/-- RELEASE ERROR is 13 01 04 E8: the bytes sum to 0 modulo 256 (R131, R189). -/
theorem test_release_error : (CardFrame.release .error).bytes = [0x13, 0x01, 0x04, 0xE8] := by decide

/-- The four frames of the front end, written out by hand, say what R132 has them say (R131, R189). -/
theorem test_card_frames :
    decodeCardFrame [0x01, 0x07, 0x04, 0x11, 0x22, 0x33, 0x44, 0x55, 0x66, 0x8F] =
      some (.cardUp [0x04, 0x11, 0x22, 0x33, 0x44, 0x55, 0x66]) ∧
    decodeCardFrame ([0x02, 0x11, 0x05] ++ List.replicate 16 0 ++ [0xE8]) = some (.block 5 (List.replicate 16 0)) ∧
    decodeCardFrame [0x03, 0x00, 0xFD] = some .cardDown ∧
    decodeCardFrame [0x04, 0x01, 0x01, 0xFA] = some (.written .done) ∧
    decodeCardFrame [0x04, 0x01, 0x02, 0xF9] = some (.written .lost) := by decide

/-- A wrong check byte, a result of 3, a body where none belongs, a frame the controller sends, a kind of 0x05 and a length
of 21 are malformed, each with the sum 0 but the first (R131, R132, R189). -/
theorem test_card_frames_malformed :
    decodeCardFrame [0x03, 0x00, 0xFC] = none ∧ decodeCardFrame [0x04, 0x01, 0x03, 0xF8] = none ∧
    decodeCardFrame [0x03, 0x01, 0x00, 0xFC] = none ∧ decodeCardFrame [0x13, 0x01, 0x04, 0xE8] = none ∧
    decodeCardFrame [0x05, 0x00, 0xFB] = none ∧
    decodeCardFrame ([0x01, 0x15] ++ List.replicate 21 0 ++ [0xEA]) = none := by decide

/-- After a FRAMING error bytes are discarded until the line has been idle (R132). -/
theorem test_framing_waits :
    exec (.cardDown false [0x03, 0x00, 0xFD]) (framingError (cardIn .settled State.reset)) =
      .next (framingError (cardIn .settled State.reset)) ∧
    (match exec (.cardDown true [0x03, 0x00, 0xFD]) (framingError (cardIn .settled State.reset)) with
      | .next t => some (t.ciu.state, t.ciu.awaitsGap)
      | _ => none) = some (.absent, false) := ⟨rfl, rfl⟩

/-- While INTAKE-HOLD pends, INTAKE-RESUME cancels it, though slots have emptied: neither passes the other (R160, R161). -/
theorem test_pending_first :
    let l := { (withOutbound 21 State.reset).lif with pendingNotices := [.intakeHold 12 12] }
    (produceSingleton (.intakeResume 4 4) l).outbound.length = 21 ∧
    (produceSingleton (.intakeResume 4 4) l).pendingNotices = [.intakeResume 4 4] := by decide

/-- The burst example: the pending notices take freed slots in the order LINK-FAULT, INTAKE-HOLD, CARD-EVENT,
JOURNAL-READY, whatever the order they were produced in (09). -/
theorem test_burst :
    (pendAll [.cardEvent { event := .check, session := none, identifier := none, count := some 1, state := .settled },
        .linkFault .crc none 1, .intakeHold 12 12, .linkFault .crc none 2,
        .cardEvent { event := .busy, session := none, identifier := none, count := none, state := .settled },
        .journalReady 3 4413] Lif.reset).pendingNotices =
      [.linkFault .crc none 2, .intakeHold 12 12,
        .cardEvent { event := .busy, session := none, identifier := none, count := none, state := .settled },
        .journalReady 3 4413] := by decide

/-- The batch example: the record stored at 0 is 4411 and starts both timers, due at 5 s and 60 s (10). -/
theorem test_batch :
    (Jnl.append 0 0 (.partReset 1 0) { Jnl.reset with lastSequence := 4410 }).1.quietTimer = some 5000 ∧
    (Jnl.append 0 0 (.partReset 1 0) { Jnl.reset with lastSequence := 4410 }).1.absoluteTimer = some 60000 ∧
    (Jnl.append 0 0 (.partReset 1 0) { Jnl.reset with lastSequence := 4410 }).1.lastSequence = 4411 := by decide

/-- STATUS right after a hard reset: 75 bytes, OK, ACTIVE, no journey, marks 12 and 4, free 2048 (R193). -/
theorem test_status_reset :
    (answerStatus [] State.reset).2.length = 75 ∧ (answerStatus [] State.reset).2.take 5 = [0, 1, 0, 0, 0] ∧
    fieldAt (answerStatus [] State.reset).2 25 2 = 12 * 256 + 4 ∧ fieldAt (answerStatus [] State.reset).2 47 2 = 2048 := by
  decide +kernel

/-- The CRC-16 of the ASCII digits 1 to 9 with these parameters is 0x29B1 (hand calculation from R153). -/
theorem test_crc : crc16 [0x31, 0x32, 0x33, 0x34, 0x35, 0x36, 0x37, 0x38, 0x39] = 0x29B1#16 := by decide +kernel

/-- A PRESENT taken in OPEN after a hard reset: OK, intake number 1, count 1, not in HOLD (R163). -/
theorem test_present :
    (answerPresent [2] (onRoute (.running 1))).2 = [0, 0, 1, 1, 0] := by decide +kernel

/-- STOP-DEPART at stop 1 of the split example: index 1, epoch 1, delay 8 (02). -/
theorem test_stop_depart :
    (answerStopDepart (u8 1)
      { onRoute (.atStop 1) with jcu := { journeyAt false (.atStop 1) with
          clock := { Jcu.reset.clock with isSet := true, seconds := 1742498640 } } }).2 = [0, 1, 0, 1, 0, 8] := by
  decide +kernel

/-- Tried at stop 1260, which route B lacks, route B is discarded: ROUTE-DISCARDED STOP-ABSENT, 4730 (02). -/
theorem test_route_discarded :
    (answerStopDepart (u8 2) (staged (.armed routeB) (onRoute (.atStop 2)))).1.lif.outbound =
      [.frame (.notice (.routeDiscarded .stopAbsent 4730))] := by decide +kernel

/-! ### Witnesses: the whole block and requests in general -/

/-- The part while RESET_N is low. -/
def heldLow : State := { State.reset with resetN := false }

theorem witness_StepRunsFrontCommand : State.reset.pending = [] := rfl

theorem witness_HardResetsStartAfresh :
    heldLow.resetN = false ∧ State.reset.resetN = true ∧ State.reset.lif.outbound = [] ∧
    (withOutbound 1 State.reset).lif.outbound = [wakeSlot] ∧ (withOutbound 1 State.reset).lif.power = .active ∧
    0 < ({ (asleep (withOutbound 1 State.reset)).lif with standbyToSend := 1 } : Lif).standbyToSend ∧
    ((asleep State.reset).lif.power = .standby ∧ (asleep State.reset).lif.standbyToSend = 0) ∧
    (∃ t, exec .powerOn State.reset = .next t) ∧ (∃ t, exec .resetNHigh heldLow = .next t) ∧
    (∃ t, exec .resetNLow State.reset = .next t) ∧ Instr.reset ≠ .powerOn ∧ Instr.reset ≠ .resetNHigh :=
  ⟨rfl, rfl, rfl, rfl, rfl, by decide, ⟨rfl, rfl⟩, ⟨_, rfl⟩, ⟨_, rfl⟩, ⟨_, rfl⟩, by decide, by decide⟩

theorem witness_SoftResetKeepsTables : Ready 0x03 7 [] [] (asked 0x03 [] (onRoute (.running 1))) :=
  asked_ready _ _ _ rfl

theorem witness_RequestsWaitTheirTurn :
    (0x01#8, Instr.status) ∈ requestKinds ∧ State.reset.lif.requests = [] ∧
    (asked 0x02 [] State.reset).lif.requests = [{ kind := 0x02, tag := 7, body := [] }] ∧ (0x02 : Byte) ≠ 0x01 ∧
    (asleep State.reset).lif.power = .standby ∧ freeSlots (withOutbound 24 State.reset).lif = 0 ∧
    ({ State.reset.lif with waiting := [.wake .link] } : Lif).waiting ≠ [] ∧
    (0x02#8, Instr.standby) ∈ requestKinds := by decide

theorem witness_MalformedRequestsRefused :
    ((0x01#8, 0, Instr.status) ∈ requestRows ∧ Ready 0x01 7 [0] [] (asked 0x01 [0] State.reset) ∧
      ([0] : List Byte).length ≠ 0) ∧
    (Ready 0x08 7 [] [] (asked 0x08 [] State.reset) ∧ ([] : List Byte).length = 0) ∧
    (Ready 0x08 7 (List.replicate 81 0) [] (asked 0x08 (List.replicate 81 0) State.reset) ∧
      80 < (List.replicate 81 (0 : Byte)).length) ∧
    (Ready 0x15 7 [0, 1, 0, 0, 0, 0, 0, 0, 0] [] (asked 0x15 [0, 1, 0, 0, 0, 0, 0, 0, 0] State.reset) ∧
      (List.replicate 7 (0 : Byte)).length ≠ 8 * (1 : Byte).toNat) ∧
    (Ready 0x15 7 [0] [] (asked 0x15 [0] State.reset) ∧ Ready 0x15 7 [] [] (asked 0x15 [] State.reset) ∧
      ([0] : List Byte).length < 2) ∧
    (Ready 0x7E 7 [] [] (asked 0x7E [] State.reset) ∧ ∀ c, (0x7E#8, c) ∉ requestKinds) := by
  refine ⟨⟨by decide, asked_ready _ _ _ rfl, by decide⟩, ⟨asked_ready _ _ _ rfl, rfl⟩, ⟨asked_ready _ _ _ rfl, by decide⟩,
    ⟨asked_ready _ _ _ rfl, by decide⟩, ⟨asked_ready _ _ _ rfl, asked_ready _ _ _ rfl, by decide⟩, asked_ready _ _ _ rfl,
    fun c h => ?_⟩
  simp [requestKinds, requestRows] at h

theorem witness_RefusalsChangeNothing :
    (0x30#8, Instr.caseResolve) ∈ requestKinds ∧ (0x30 : Byte) ≠ 0x03 ∧
    Ready 0x30 7 (u16 14 ++ u8 2) [] (asked 0x30 (u16 14 ++ u8 2) (withCase14 (onRoute (.running 1)))) :=
  ⟨by decide, by decide, asked_ready _ _ _ rfl⟩

/-! ### Witnesses: the link -/

/-- The request buffer holds this many frames. -/
def withRequests (n : Nat) (s : State) : State :=
  { s with lif := { s.lif with requests := List.replicate n { kind := 1, tag := 0, body := [] } } }

/-- The receiver is in a frame. -/
def inFrame (s : State) : State := { s with lif := { s.lif with receiver := .inFrame } }

theorem witness_GoodFrameIsBuffered :
    ((withRequests 3 State.reset).resetN = true ∧ (List.replicate 240 (0 : Byte)).length ≤ 240 ∧
      (withRequests 3 State.reset).lif.requests.length < 4 ∧ (withRequests 3 State.reset).lif.power = .active) ∧
    ((asleep (withOutbound 23 (withRequests 3 State.reset))).lif.requests.length < 4 ∧
      (asleep (withOutbound 23 (withRequests 3 State.reset))).lif.power = .standby ∧
      (asleep (withOutbound 23 (withRequests 3 State.reset))).lif.receiver = .hunting ∧
      0 < freeSlots (asleep (withOutbound 23 (withRequests 3 State.reset))).lif) ∧
    freeSlots (asleep (withOutbound 24 State.reset)).lif = 0 ∧
    (asleep (withOutbound 24 State.reset)).lif.receiver = .hunting ∧
    (State.reset.lif.receiver = .hunting ∧ State.reset.lif.power = .active) ∧
    ((inFrame State.reset).lif.receiver = .inFrame ∧ (inFrame (asleep State.reset)).lif.power = .standby) := by
  decide +kernel

theorem witness_LineFaultsReported :
    (State.reset.resetN = true ∧ State.reset.lif.power = .active ∧
      ({ State.reset.lif with faultCount := 255 } : Lif).faultCount ≤ 255) ∧
    ((asleep State.reset).lif.power = .standby ∧ (asleep State.reset).lif.receiver = .hunting ∧
      (inFrame (asleep State.reset)).lif.receiver = .inFrame) ∧
    ((0 : BitVec 16) ≠ crc16 (1 :: 2 :: u16 ([] : List Byte).length ++ []) ∧ ([] : List Byte).length ≤ 240) ∧
    (withRequests 4 State.reset).lif.requests.length = 4 ∧ 240 < (List.replicate 241 (0 : Byte)).length := by
  decide +kernel

theorem witness_SingletonsEnterOrReplace :
    (Notice.intakeHold 12 12).code ∈ [0x82, 0x83, 0x84, 0x90, 0x94, 0x95, 0x96] ∧
    (Notice.routeDiscarded .atEnd 4730).code ∈ [0x81, 0x8C, 0x8D] ∧ pendingOk [.linkFault .crc none 1, .intakeResume 4 4] ∧
    0 < freeSlots (withOutbound 23 State.reset).lif ∧ freeSlots (withOutbound 24 State.reset).lif = 0 ∧
    freeSlots ({ (withOutbound 22 State.reset).lif with
      pendingNotices := [.linkFault .crc none 1, .intakeResume 4 4] } : Lif) = 0 := by
  refine ⟨by decide, by decide, ⟨by decide, by decide, ?_⟩, by decide, by decide, by decide⟩
  simp [Notice.code]

theorem witness_OutboundQueueMoves :
    ((withOutbound 24 State.reset).lif.outbound = wakeSlot :: List.replicate 23 wakeSlot ∧
      (withOutbound 24 State.reset).lif.power = .active) ∧
    0 < ({ (asleep (withOutbound 1 State.reset)).lif with standbyToSend := 1 } : Lif).standbyToSend ∧
    (State.reset.lif.outbound = [] ∧ (asleep State.reset).lif.power = .standby ∧
      (asleep State.reset).lif.standbyToSend = 0) ∧
    ((Notice.routeDiscarded .atEnd 4730).joinsWaiting = true ∧ (withOutbound 23 State.reset).lif.outbound.length < 24 ∧
      ({ State.reset.lif with waiting := [.routeDiscarded .atEnd 4730] } : Lif).waiting = [.routeDiscarded .atEnd 4730]) ∧
    (({ State.reset.lif with pendingNotices := [.intakeHold 12 12] } : Lif).pendingNotices = [.intakeHold 12 12] ∧
      State.reset.lif.waiting = []) ∧
    (({ State.reset.lif with pendingNotices := [.intakeHold 12 12], waiting := [.wake .link] } : Lif).waiting ≠ [] ∧
      State.reset.lif.pendingNotices = []) ∧
    24 ≤ (withOutbound 24 State.reset).lif.outbound.length := by decide +kernel

/-- A LINK entry waits in the Intake Queue. -/
def entry (n : Nat) : Entry :=
  { intake := n, origin := .link, content := [2], carriage := 3, cls := .second, arrival := 1742498710 }

/-- The Intake Queue holds this many entries. -/
def withEntries (n : Nat) (hold : Bool) (s : State) : State :=
  { s with iq := { s.iq with entries := List.replicate n (entry 501), hold := hold } }

theorem witness_StatusReportsTheState :
    Ready 0x01 7 [] [] (asked 0x01 [] (onRoute (.running 1))) ∧
    (onRoute (.running 1)).jcu.journey.map (·.position) = some (.running 1) ∧
    (onRoute (.atStop 0)).jcu.journey.map (·.position) = some (.atStop 0) ∧ State.reset.jcu.journey = none ∧
    (withEntries 1 false State.reset).iq.entries = [entry 501] ∧ State.reset.iq.entries = [] ∧
    State.reset.rsu.pendingImage = none :=
  ⟨asked_ready _ _ _ rfl, by decide, by decide, rfl, rfl, rfl, rfl⟩

theorem witness_StandbyNeedsQuiet :
    Ready 0x02 7 [] [] (asked 0x02 [] State.reset) ∧
    (State.reset.iq.entries = [] ∧ State.reset.ven.engine = .idle ∧ State.reset.ven.parked = none ∧
      State.reset.ciu.state = .absent) ∧
    (withEntries 1 false State.reset).iq.entries ≠ [] ∧ (cardIn .settled State.reset).ciu.state ≠ .absent :=
  ⟨asked_ready _ _ _ rfl, ⟨rfl, rfl, rfl, rfl⟩, by decide, by decide⟩

theorem witness_IntakeMarksApplyAtOnce :
    Ready 0x04 7 (u8 1 ++ u8 0) [] (asked 0x04 (u8 1 ++ u8 0) State.reset) ∧ min 16 1 < 2 ∧ min 16 255 ≤ 16 ∧
    (Ready 0x04 7 (u8 16 ++ u8 15) [] (asked 0x04 (u8 16 ++ u8 15) (withEntries 16 true State.reset)) ∧
      15 < min 16 16 ∧ 15 < (withEntries 16 true State.reset).iq.entries.length) ∧
    (Ready 0x04 7 (u8 2 ++ u8 0) [] (asked 0x04 (u8 2 ++ u8 0) (withEntries 2 false State.reset)) ∧
      min 16 2 ≤ (withEntries 2 false State.reset).iq.entries.length) ∧
    (Ready 0x04 7 (u8 16 ++ u8 15) [] (asked 0x04 (u8 16 ++ u8 15) (withEntries 15 true State.reset)) ∧
      (withEntries 15 true State.reset).iq.entries.length ≤ 15) :=
  ⟨asked_ready _ _ _ rfl, by decide, by decide, ⟨asked_ready _ _ _ rfl, by decide, by decide⟩,
    ⟨asked_ready _ _ _ rfl, by decide⟩, asked_ready _ _ _ rfl, by decide⟩

theorem witness_PresentQueuesTheContent :
    (Ready 0x08 7 (List.replicate 80 2) [] (asked 0x08 (List.replicate 80 2) (onRoute (.running 1))) ∧
      (List.replicate 80 (2 : Byte)).length ≤ 80 ∧ 1 ≤ ([2] : List Byte).length) ∧
    (closingAt (.running 1)).jcu.journey.map (·.closing) = some true ∧ State.reset.jcu.journey = none ∧
    (onRoute (.running 1)).jcu.journey.map (·.closing) = some false ∧
    16 ≤ (withEntries 16 true (onRoute (.running 1))).iq.entries.length ∧
    (withEntries 15 true (onRoute (.running 1))).iq.entries.length < 16 ∧
    (withEntries 10 false (onRoute (.running 1))).iq.entries.length + 1 < State.reset.iq.high ∧
    State.reset.iq.high ≤ (withEntries 11 false (onRoute (.running 1))).iq.entries.length + 1 :=
  ⟨⟨asked_ready _ _ _ rfl, by decide, by decide⟩, rfl, rfl, rfl, by decide, by decide, by decide, by decide⟩

/-! ### Witnesses: the journey -/

theorem witness_ClockIsSetAndTrimmed :
    (Ready 0x10 7 (u32 0 ++ u16 1000) [] (asked 0x10 (u32 0 ++ u16 1000) State.reset) ∧ 999 < 1000) ∧
    (Ready 0x10 7 (u32 1742498830 ++ u16 1) [] (asked 0x10 (u32 1742498830 ++ u16 1) (onRoute (.running 1))) ∧
      (onRoute (.running 1)).jcu.journey.isSome = true ∧
      (120000 : Int) < (1742498830 * 1000 + 1) - (1742498710 * 1000 + 0)) ∧
    (Ready 0x10 7 (u32 1742498830 ++ u16 0) [] (asked 0x10 (u32 1742498830 ++ u16 0) (onRoute (.running 1))) ∧
      ((1742498830 * 1000 + 0 : Int) - (1742498710 * 1000 + 0)) ≤ 120000) ∧
    (Ready 0x10 7 (u32 4294967295 ++ u16 999) [] (asked 0x10 (u32 4294967295 ++ u16 999) State.reset) ∧
      State.reset.jcu.journey = none) ∧
    (({ case14 with deadline := 1742498830 } : Case).deadline ≤ 1742498830 ∧
      ¬ ({ case14 with deadline := 1742498831 } : Case).deadline ≤ 1742498830) ∧
    Ready 0x11 7 (i16 (-32768)) [] (asked 0x11 (i16 (-32768)) State.reset) ∧
    Ready 0x11 7 (i16 200) [] (asked 0x11 (i16 200) State.reset) :=
  ⟨⟨asked_ready _ _ _ rfl, by decide⟩, ⟨asked_ready _ _ _ rfl, rfl, by decide⟩, ⟨asked_ready _ _ _ rfl, by decide⟩,
    ⟨asked_ready _ _ _ rfl, rfl⟩, ⟨by decide, by decide⟩, asked_ready _ _ _ rfl, asked_ready _ _ _ rfl⟩

/-- A set clock with this trim, accumulator and withheld advance. -/
def trimmed (trim acc : Int) (withhold : Bool) : State :=
  { State.reset with jcu := { Jcu.reset with
      clock := { isSet := true, seconds := 5, millis := 999, trim := trim, trimAcc := acc, withhold := withhold } } }

theorem witness_ClockRunsWithTrim :
    (State.reset.resetN = true ∧ State.reset.jcu.clock.isSet = false) ∧
    ((trimmed 0 0 false).jcu.clock.isSet = true ∧ (trimmed 0 0 false).jcu.clock.withhold = false) ∧
    (trimmed 0 0 true).jcu.clock.withhold = true ∧
    ((trimmed 200 799 false).jcu.clock.trimAcc + (trimmed 200 799 false).jcu.clock.trim < 1000 ∧
      -1000 < (trimmed (-200) (-799) false).jcu.clock.trimAcc + (trimmed (-200) (-799) false).jcu.clock.trim) ∧
    1000 ≤ (trimmed 200 800 false).jcu.clock.trimAcc + (trimmed 200 800 false).jcu.clock.trim ∧
    (trimmed (-200) (-800) false).jcu.clock.trimAcc + (trimmed (-200) (-800) false).jcu.clock.trim ≤ -1000 := by decide

theorem witness_JourneysOpenAndClose :
    (Ready 0x12 7 (u8 0) [] (asked 0x12 (u8 0) (onRoute (.running 1))) ∧ (onRoute (.running 1)).jcu.journey.isSome = true) ∧
    (State.reset.jcu.clock.isSet = false ∧ ∀ r, clockSetState.jcu.staging ≠ .armed r) ∧
    (Ready 0x12 7 (u8 5) [] (asked 0x12 (u8 5) (staged (.armed routeA) clockSetState)) ∧
      (staged (.armed routeA) clockSetState).jcu.journey = none ∧
      (staged (.armed routeA) clockSetState).jcu.clock.isSet = true ∧
      (staged (.armed routeA) clockSetState).jcu.staging = .armed routeA ∧ routeA.stops.length < 5 + 2) ∧
    (Ready 0x12 7 (u8 4) [] (asked 0x12 (u8 4) (staged (.armed routeA) clockSetState)) ∧ 4 + 2 ≤ routeA.stops.length) ∧
    (Ready 0x13 7 (u8 1) [] (asked 0x13 (u8 1) (closingAt (.running 1))) ∧
      (closingAt (.running 1)).jcu.journey.map (·.closing) = some true) ∧
    (Ready 0x13 7 (u8 3) [] (asked 0x13 (u8 3) (onRoute (.running 1))) ∧ 3 ≠ 1 ∧ 3 ≠ 2 ∧
      (onRoute (.running 1)).jcu.journey.map (·.closing) = some false) ∧
    Ready 0x13 7 (u8 2) [] (asked 0x13 (u8 2) (onRoute (.running 1))) ∧
    (Ready 0x13 7 (u8 1) [] (asked 0x13 (u8 1) (staged (.armed routeB) (onRoute (.running 1)))) ∧
      (staged (.armed routeB) (onRoute (.running 1))).jcu.staging = .armed routeB) ∧
    (Ready 0x13 7 (u8 1) [] (asked 0x13 (u8 1) (onRoute (.running 1))) ∧
      ∀ r, (onRoute (.running 1)).jcu.staging ≠ .armed r) := by
  refine ⟨⟨asked_ready _ _ _ rfl, rfl⟩, ⟨rfl, (fun r h => by cases h)⟩, ⟨asked_ready _ _ _ rfl, rfl, rfl, rfl, by decide⟩,
    ⟨asked_ready _ _ _ rfl, by decide⟩, ⟨asked_ready _ _ _ rfl, rfl⟩, ⟨asked_ready _ _ _ rfl, by decide, by decide, rfl⟩,
    asked_ready _ _ _ rfl, ⟨asked_ready _ _ _ rfl, rfl⟩, asked_ready _ _ _ rfl, (fun r h => by cases h)⟩

/-- The engine holds #501 at ISSUE. -/
def judging (s : State) : State :=
  { s with ven := { s.ven with engine := .judging { eval501 with verdict := some .pass } } }

/-- A verdict is parked. -/
def parked (completed : Bool) (s : State) : State :=
  { s with ven := { s.ven with
      parked := some { ev := { eval501 with origin := .card { rides := 6, sequence := 211 } 305, verdict := some .pass },
                       completed := completed } } }

/-- A case waits with its CASE-CLOSED. -/
def closed14 : ClosedCase :=
  { serial := 14, journey := 58, intake := 501, key := single501.key, outcome := .refused, quote := none, epoch := 1,
    rideOutcome := .none, ridesRemaining := some 4 }

/-- The Case Table holds closed cases that wait. -/
def withWaiting (s : State) : State := { s with ctb := { s.ctb with closedWaiting := [closed14] } }

theorem witness_CloseCompletes :
    ((closingAt (.running 1)).jcu.journey = some ⟨true, routeA, 1, .running 1⟩ ∧ (closingAt (.running 1)).resetN = true) ∧
    (onRoute (.running 1)).jcu.journey = some ⟨false, routeA, 1, .running 1⟩ ∧
    (withEntries 1 false (closingAt (.running 1))).iq.entries ≠ [] ∧
    (judging (closingAt (.running 1))).ven.engine ≠ .idle ∧
    (cardIn .writing (closingAt (.running 1))).ciu.state = .writing ∧
    (parked true (closingAt (.running 1))).ven.parked ≠ none ∧
    (withWaiting (closingAt (.running 1))).ctb.closedWaiting ≠ [] ∧
    freeSlots (withOutbound 23 (withCase14 (closingAt (.running 1)))).lif <
      (withOutbound 23 (withCase14 (closingAt (.running 1)))).ctb.cases.length + 1 ∧
    ((withOutbound 22 (withCase14 (closingAt (.atStop 5)))).iq.entries = [] ∧
      (withOutbound 22 (withCase14 (closingAt (.atStop 5)))).ven.engine = .idle ∧
      (withOutbound 22 (withCase14 (closingAt (.atStop 5)))).ciu.state ≠ .writing ∧
      (withOutbound 22 (withCase14 (closingAt (.atStop 5)))).ven.parked = none ∧
      (withOutbound 22 (withCase14 (closingAt (.atStop 5)))).ctb.closedWaiting = [] ∧
      (withOutbound 22 (withCase14 (closingAt (.atStop 5)))).ctb.cases.length + 1 ≤
        freeSlots (withOutbound 22 (withCase14 (closingAt (.atStop 5)))).lif) :=
  ⟨⟨rfl, rfl⟩, rfl, by decide, by decide, rfl, by decide, by decide, by decide, rfl, rfl, by decide, rfl, rfl, by decide⟩

/-- The staging while route B's stops arrive: `n` of 4 received. -/
def fillingB (n : Nat) : Staging := .filling 4730 4 29041200 (routeB.stops.take n)

/-- The body of ROUTE-STOPS. -/
def stopsBody (first : Nat) (stops : List Stop) : List Byte :=
  u8 first ++ (u8 stops.length ++ stops.flatMap (fun st =>
    u16 st.code ++ (u16 st.post ++ (u8 st.area ++ (u8 st.zone ++ u16 st.planned)))))

theorem witness_RoutesAreStaged :
    (Ready 0x14 7 (u16 4730 ++ u8 64 ++ u32 29041200) [] (asked 0x14 (u16 4730 ++ u8 64 ++ u32 29041200)
        (onRoute (.running 1))) ∧ (∀ r, (onRoute (.running 1)).jcu.staging ≠ .armed r) ∧ (4730 : Nat) ≠ 0) ∧
    (Ready 0x14 7 (u16 0 ++ u8 2 ++ u32 0) [] (asked 0x14 (u16 0 ++ u8 2 ++ u32 0) State.reset) ∧ (0 : Nat) = 0 ∧
      State.reset.jcu.journey = none) ∧
    ((closingAt (.running 1)).jcu.journey.map (·.closing) = some true ∧
      (staged (.armed routeB) State.reset).jcu.staging = .armed routeB) ∧
    (Ready 0x15 7 (stopsBody 0 routeB.stops) [] (asked 0x15 (stopsBody 0 routeB.stops) (staged (fillingB 0) State.reset)) ∧
      (staged (fillingB 0) State.reset).jcu.staging = .filling 4730 4 29041200 [] ∧ routeB.stops ≠ [] ∧
      0 + routeB.stops.length ≤ 4 ∧ ∀ st ∈ routeB.stops, st.code ≠ 0 ∧ st.area ≤ 7 ∧ st.planned ≤ 2879) ∧
    (Ready 0x15 7 (stopsBody 1 routeB.stops) [] (asked 0x15 (stopsBody 1 routeB.stops) (staged (fillingB 0) State.reset)) ∧
      1 ≠ ([] : List Stop).length) ∧
    (∃ st ∈ [(⟨1180, 0, 8, 0, 0⟩ : Stop)], st.code = 0 ∨ 7 < st.area ∨ 2879 < st.planned) ∧
    (∀ a b c d, State.reset.jcu.staging ≠ .filling a b c d) ∧
    (Ready 0x16 7 [] [] (asked 0x16 [] (staged (fillingB 4) State.reset)) ∧
      (staged (fillingB 4) State.reset).jcu.staging = .filling 4730 4 29041200 routeB.stops ∧
      routeB.stops.Pairwise (fun p q => p.code ≠ q.code ∧ p.post ≤ q.post ∧ p.planned ≤ q.planned)) ∧
    (¬ (routeB.stops.take 1 ++ routeB.stops).Pairwise
      (fun p q => p.code ≠ q.code ∧ p.post ≤ q.post ∧ p.planned ≤ q.planned)) ∧
    ((routeB.stops.take 3).length < 4 ∧ (staged (fillingB 3) State.reset).jcu.staging =
      .filling 4730 4 29041200 (routeB.stops.take 3)) ∧
    Ready 0x17 7 [] [] (asked 0x17 [] (staged (.armed routeB) State.reset)) := by
  refine ⟨⟨asked_ready _ _ _ rfl, (fun r h => by cases h), by decide⟩, ⟨asked_ready _ _ _ rfl, rfl, rfl⟩, ⟨rfl, rfl⟩,
    ⟨asked_ready _ _ _ rfl, rfl, by decide, by decide, by decide⟩, ⟨asked_ready _ _ _ rfl, by decide⟩, by decide,
    (fun a b c d h => by cases h), ⟨asked_ready _ _ _ rfl, rfl, by decide⟩, by decide, ⟨by decide, rfl⟩,
    asked_ready _ _ _ rfl⟩

theorem witness_StopArriveReachesStop :
    (Ready 0x18 7 (u8 1) [] (asked 0x18 (u8 1) (onRoute (.atStop 0))) ∧
      (onRoute (.atStop 0)).jcu.journey = some ⟨false, routeA, 1, .atStop 0⟩) ∧
    (Ready 0x18 7 (u8 1) [] (asked 0x18 (u8 1) (onRoute (.running 1))) ∧
      (onRoute (.running 1)).jcu.journey = some ⟨false, routeA, 1, .running 1⟩ ∧ 1 < 1 + 1) ∧
    (Ready 0x18 7 (u8 6) [] (asked 0x18 (u8 6) (onRoute (.running 1))) ∧ routeA.stops.length < 6 + 1) ∧
    (Ready 0x18 7 (u8 4) [] (asked 0x18 (u8 4) (onRoute (.running 1))) ∧ 4 + 1 < routeA.stops.length ∧
      (onRoute (.running 1)).jcu.closeAtArrival = false) ∧
    (Ready 0x18 7 (u8 5) [] (asked 0x18 (u8 5) (staged (.armed routeB) (onRoute (.running 4)))) ∧
      5 + 1 = routeA.stops.length ∧ (staged (.armed routeB) (onRoute (.running 4))).jcu.staging = .armed routeB) ∧
    (Ready 0x18 7 (u8 5) [] (asked 0x18 (u8 5) (onRoute (.running 4))) ∧
      ∀ r, (onRoute (.running 4)).jcu.staging ≠ .armed r) := by
  refine ⟨⟨asked_ready _ _ _ rfl, rfl⟩, ⟨asked_ready _ _ _ rfl, rfl, by decide⟩, ⟨asked_ready _ _ _ rfl, by decide⟩,
    ⟨asked_ready _ _ _ rfl, by decide, rfl⟩, ⟨asked_ready _ _ _ rfl, rfl, rfl⟩, asked_ready _ _ _ rfl,
    (fun r h => by cases h)⟩

theorem witness_StopDepartRunsOrChangesRoute :
    (Ready 0x19 7 (u8 1) [] (asked 0x19 (u8 1) (onRoute (.running 1))) ∧
      (onRoute (.running 1)).jcu.journey = some ⟨false, routeA, 1, .running 1⟩) ∧
    (Ready 0x19 7 (u8 0) [] (asked 0x19 (u8 0) (onRoute (.atStop 1))) ∧
      (onRoute (.atStop 1)).jcu.journey = some ⟨false, routeA, 1, .atStop 1⟩ ∧ (0 : Nat) ≠ 1) ∧
    (Ready 0x19 7 (u8 4) [] (asked 0x19 (u8 4) (onRoute (.atStop 4))) ∧ 4 + 2 ≤ routeA.stops.length ∧
      ∀ r, (onRoute (.atStop 4)).jcu.staging ≠ .armed r) ∧
    (Ready 0x19 7 (u8 2) [] (asked 0x19 (u8 2) (staged (.armed routeB) (onRoute (.atStop 2)))) ∧
      ∀ st ∈ routeB.stops, st.code ≠ (routeA.stop 2).code) ∧
    (Ready 0x19 7 (u8 3) [] (asked 0x19 (u8 3) (staged (.armed routeB) (onRoute (.atStop 3)))) ∧
      routeB.indexOf? (routeA.stop 3).code = some 0 ∧ 0 + 2 ≤ routeB.stops.length) ∧
    (({ routeB with stops := [⟨1180, 0, 2, 10, 420⟩, ⟨2200, 655, 3, 20, 478⟩] } : Route).indexOf? (routeA.stop 3).code =
      some 1 ∧ 2 < 1 + 2) ∧
    (60 * (8 : Int) ≤ 1742498640 - (29041200 + 436) * 60 ∧ 1742498640 - (29041200 + 436) * 60 < 60 * ((8 : Int) + 1)) := by
  refine ⟨⟨asked_ready _ _ _ rfl, rfl⟩, ⟨asked_ready _ _ _ rfl, rfl, by decide⟩,
    ⟨asked_ready _ _ _ rfl, by decide, (fun r h => by cases h)⟩, ⟨asked_ready _ _ _ rfl, by decide⟩,
    ⟨asked_ready _ _ _ rfl, by decide, by decide⟩, ⟨by decide, by decide⟩, by decide, by decide⟩

theorem witness_CarriageAndDelayAreSet :
    (Ready 0x1A 7 (u8 16 ++ u8 1) [] (asked 0x1A (u8 16 ++ u8 1) (onRoute (.running 1))) ∧
      (onRoute (.running 1)).jcu.journey ≠ none) ∧
    Ready 0x1A 7 (u8 1 ++ u8 2) [] (asked 0x1A (u8 1 ++ u8 2) (onRoute (.running 1))) ∧
    (Ready 0x1A 7 (u8 17 ++ u8 1) [] (asked 0x1A (u8 17 ++ u8 1) (onRoute (.running 1))) ∧ 16 < 17) ∧
    (Ready 0x1A 7 (u8 1 ++ u8 2) [] (asked 0x1A (u8 1 ++ u8 2) State.reset) ∧ State.reset.jcu.journey = none) ∧
    Ready 0x1B 7 (i16 (-60)) [] (asked 0x1B (i16 (-60)) (onRoute (.running 1))) ∧
    Ready 0x1B 7 (i16 721) [] (asked 0x1B (i16 721) (onRoute (.running 1))) :=
  ⟨⟨asked_ready _ _ _ rfl, by decide⟩, asked_ready _ _ _ rfl, ⟨asked_ready _ _ _ rfl, by decide⟩,
    ⟨asked_ready _ _ _ rfl, rfl⟩, asked_ready _ _ _ rfl, asked_ready _ _ _ rfl⟩

/-! ### Witnesses: keys, credentials, screening and tables -/

theorem witness_KeyTableRequests :
    (Ready 0x20 7 (u8 41 ++ (u8 15 ++ List.replicate 16 1)) []
        (asked 0x20 (u8 41 ++ (u8 15 ++ List.replicate 16 1)) State.reset) ∧
      (List.replicate 16 (1 : Byte)).length = 16 ∧ State.reset.jcu.journey = none) ∧
    (Ready 0x20 7 (u8 41 ++ (u8 16 ++ List.replicate 16 1)) []
        (asked 0x20 (u8 41 ++ (u8 16 ++ List.replicate 16 1)) State.reset) ∧ 15 < 16) ∧
    (onRoute (.running 1)).jcu.journey ≠ none ∧
    (32 ≤ (withKeyEntries (List.replicate 32 (keyEntry 4 .active)) State.reset).dcu.keys.length ∧
      ∀ e ∈ (withKeyEntries (List.replicate 32 (keyEntry 4 .active)) State.reset).dcu.keys,
        ¬ (e.issuer = 41 ∧ e.version = 15)) ∧
    (withKeyEntries (List.replicate 31 (keyEntry 4 .active)) State.reset).dcu.keys.length < 32 ∧
    ((withKeyEntries [keyEntry 3 .active, keyEntry 15 .active, keyEntry 4 .active] State.reset).dcu.keys =
        [keyEntry 3 .active] ++ keyEntry 15 .active :: [keyEntry 4 .active] ∧
      ∀ d ∈ [keyEntry 3 .active] ++ [keyEntry 4 .active], ¬ (d.issuer = 41 ∧ d.version = 15)) ∧
    (Ready 0x21 7 (u8 41 ++ (u8 15 ++ u8 3)) [] (asked 0x21 (u8 41 ++ (u8 15 ++ u8 3)) State.reset) ∧
      KeyState.ofCode? 3 = some .withdrawn ∧ KeyState.ofCode? 1 = some .active) ∧
    (Ready 0x21 7 (u8 41 ++ (u8 15 ++ u8 4)) [] (asked 0x21 (u8 41 ++ (u8 15 ++ u8 4)) State.reset) ∧ 3 < 4) ∧
    (Ready 0x22 7 (u8 41 ++ u8 15) [] (asked 0x22 (u8 41 ++ u8 15) State.reset) ∧ State.reset.dcu.keys = []) ∧
    Ready 0x22 7 (u8 41 ++ u8 16) [] (asked 0x22 (u8 41 ++ u8 16) State.reset) :=
  ⟨⟨asked_ready _ _ _ rfl, rfl, rfl⟩, ⟨asked_ready _ _ _ rfl, by decide⟩, by decide, ⟨by decide, by decide⟩, by decide,
    ⟨rfl, by decide⟩, ⟨asked_ready _ _ _ rfl, rfl, rfl⟩, ⟨asked_ready _ _ _ rfl, by decide⟩,
    ⟨asked_ready _ _ _ rfl, rfl⟩, asked_ready _ _ _ rfl⟩

theorem witness_DecodedCredentialsAreInRange :
    (decodeBytes returnTicket).isSome = true ∧
    (10 ≤ returnTicket.length ∧ fieldAt returnTicket 9 1 = returnTicket.length) ∧
    ((List.replicate 21 (2 : Byte)).length < 22 ∧ fieldAt (returnTicket.set 9 21) 9 1 < 22) ∧
    (41 < 256 ∧ 0xA1B2C3D4E5 < 281474976710656 ∧ 15 ≤ 15 ∧ 4095 ≤ 4095 ∧ 1 ≤ 0 + 1 ∧ 9 + 0 ≤ 9 ∧ 7 ≤ 7 ∧
      4294967295 < 4294967296 ∧ 255 ≤ 255 ∧ 1 ≤ 65535 ∧ 65535 ≤ 65535 ∧ (List.replicate 8 (0 : Byte)).length = 8) ∧
    (1 ≤ 1 ∧ 65535 < 65536 ∧ (1 : Nat) ≠ 65535) ∧
    (7 ≤ 7 ∧ [0, 1, 2, 3, 4, 5, 6, 255].length ≤ 8 ∧ [0, 1, 2, 3, 4, 5, 6, 255].Nodup ∧
      ∀ z ∈ [0, 1, 2, 3, 4, 5, 6, 255], z ≤ 255) := by decide +kernel

/-- The ticket of the worked example with its word's flag bit 2 set, with kind code 0 or 5, with class code 0 or 3, or with
a length byte that is not the length of its parts, fails its decode (R5, R6, R187). -/
theorem test_decode_failures :
    (decodeBytes returnTicket).isSome = true ∧
    [returnTicket.set 13 0x8F, returnTicket.set 12 0x10, returnTicket.set 12 0xB0, returnTicket.set 12 0x40,
      returnTicket.set 12 0x58, returnTicket.set 9 36, returnTicket.set 9 38 ++ [0]].map (decodeContent .link) =
        List.replicate 7 none := by decide +kernel

/-- A pending image has received these segments. -/
def withPendingImage (received : List Nat) (s : State) : State :=
  { s with rsu := { s.rsu with
      pendingImage := some { image := { segments := ScreenImage.zeroSegments, generation := 701, offset := 1 },
                             received := received } } }

theorem witness_ScreenImageIsLoaded :
    (State.reset.rsu.ok ∧ Ready 0x24 7 (u32 701 ++ u8 3) [] (asked 0x24 (u32 701 ++ u8 3) State.reset)) ∧
    (Ready 0x24 7 (u32 701 ++ u8 4) [] (asked 0x24 (u32 701 ++ u8 4) State.reset) ∧ 3 < 4) ∧
    (Ready 0x25 7 (u8 31 ++ List.replicate 32 0xFF) []
        (asked 0x25 (u8 31 ++ List.replicate 32 0xFF) (withPendingImage [0, 31] State.reset)) ∧
      (withPendingImage [0, 31] State.reset).rsu.ok ∧ 31 ≤ 31) ∧
    (Ready 0x25 7 (u8 32 ++ List.replicate 32 0xFF) []
        (asked 0x25 (u8 32 ++ List.replicate 32 0xFF) (withPendingImage [0, 31] State.reset)) ∧ 31 < 32) ∧
    State.reset.rsu.pendingImage = none ∧
    (Ready 0x26 7 [] [] (asked 0x26 [] (withPendingImage (List.range 31) State.reset)) ∧
      (withPendingImage (List.range 31) State.reset).rsu.ok ∧ (List.range 31).length < 32) ∧
    (Ready 0x26 7 [] [] (asked 0x26 [] (withPendingImage (List.range 32) State.reset)) ∧
      (withPendingImage (List.range 32) State.reset).rsu.ok ∧ (List.range 32).length = 32) := by
  have ok : ∀ l : List Nat, l.Pairwise (fun i j => i < j) → (∀ i ∈ l, i ≤ 31) →
      (withPendingImage l State.reset).rsu.ok := fun l h1 h2 =>
    ⟨Nat.zero_le _, (fun p h => by cases h; exact ⟨Nat.le_of_ble_eq_true rfl, h1, h2⟩), Nat.zero_le _, List.Pairwise.nil,
      fun e h => by cases h⟩
  exact ⟨⟨⟨by decide, (fun p h => by cases h), by decide, by decide, by decide⟩, asked_ready _ _ _ rfl⟩,
    ⟨asked_ready _ _ _ rfl, by decide⟩, ⟨asked_ready _ _ _ rfl, ok _ (by decide) (by decide), by decide⟩,
    ⟨asked_ready _ _ _ rfl, by decide⟩, rfl, ⟨asked_ready _ _ _ rfl, ok _ (by decide) (by decide), by decide⟩,
    asked_ready _ _ _ rfl, ok _ (by decide) (by decide), by decide⟩

theorem witness_ExactListRequests :
    (Ready 0x27 7 (u8 41 ++ (u48 0xA1B2C3D4E5 ++ (u8 2 ++ u8 15))) []
        (asked 0x27 (u8 41 ++ (u48 0xA1B2C3D4E5 ++ (u8 2 ++ u8 15))) State.reset) ∧
      ListAction.ofCode? 2 = some .clear ∧ ListAction.ofCode? 1 = some .revoke) ∧
    (Ready 0x27 7 (u8 41 ++ (u48 0xA1B2C3D4E5 ++ (u8 3 ++ u8 16))) []
        (asked 0x27 (u8 41 ++ (u48 0xA1B2C3D4E5 ++ (u8 3 ++ u8 16))) State.reset) ∧ 2 < 3 ∧ 15 < 16) ∧
    ((withListEntries (List.replicate 63 (listEntry 9 .revoke)) State.reset).rsu.list.length < 64 ∧
      ∀ e ∈ List.replicate 63 (listEntry 9 .revoke), e.key ≠ { issuer := 41, serial := 0xA1B2C3D4E5 }) ∧
    64 ≤ (withListEntries (listEntry 9 .revoke :: List.replicate 63 (listEntry 9 .clear)) State.reset).rsu.list.length ∧
    ((withListEntries [listEntry 9 .revoke, listEntry 41 .revoke, listEntry 17 .clear] State.reset).rsu.list =
        [listEntry 9 .revoke] ++ listEntry 41 .revoke :: [listEntry 17 .clear] ∧
      (listEntry 41 .revoke).key = { issuer := 41, serial := 0xA1B2C3D4E5 } ∧
      ∀ d ∈ [listEntry 9 .revoke] ++ [listEntry 17 .clear], d.key ≠ { issuer := 41, serial := 0xA1B2C3D4E5 }) ∧
    Ready 0x28 7 (u8 41 ++ u48 0xA1B2C3D4E5) [] (asked 0x28 (u8 41 ++ u48 0xA1B2C3D4E5) State.reset) ∧
    Ready 0x29 7 [] [] (asked 0x29 [] (withListEntries [listEntry 41 .revoke] State.reset)) :=
  ⟨⟨asked_ready _ _ _ rfl, rfl, rfl⟩, ⟨asked_ready _ _ _ rfl, by decide, by decide⟩, ⟨by decide, by decide⟩, by decide,
    ⟨rfl, rfl, by decide⟩, asked_ready _ _ _ rfl, asked_ready _ _ _ rfl⟩

theorem witness_ScreeningLookup :
    [listEntry 9 .revoke, listEntry 17 .clear].Pairwise (fun a b => a.key ≠ b.key) ∧
    (listEntry 9 .revoke ∈ [listEntry 9 .revoke, listEntry 17 .clear] ∧ (listEntry 9 .revoke).action = .revoke) ∧
    (listEntry 17 .clear ∈ [listEntry 9 .revoke, listEntry 17 .clear] ∧ (listEntry 17 .clear).action = .clear) ∧
    (∀ e ∈ [listEntry 9 .revoke, listEntry 17 .clear], e.key ≠ { issuer := 41, serial := 0xA1B2C3D4E5 }) := by decide

/-- The body of AREA-SET. -/
def areaBody (area step cap child tol : Nat) : List Byte :=
  u8 area ++ (u16 1240 ++ (u8 5 ++ (u8 step ++ (u32 cap ++ (u16 250 ++ (u8 child ++ u8 tol))))))

theorem witness_AreaTableRequests :
    (Ready 0x2C 7 (areaBody 7 100 1000001 101 241) [] (asked 0x2C (areaBody 7 100 1000001 101 241) State.reset) ∧
      7 < 8 ∧ 100 ∈ [1, 2, 5, 10, 20, 50, 100]) ∧
    (Ready 0x2C 7 (areaBody 8 3 0 0 0) [] (asked 0x2C (areaBody 8 3 0 0 0) State.reset) ∧ 7 < 8 ∧
      3 ∉ [1, 2, 5, 10, 20, 50, 100]) ∧
    (Ready 0x2D 7 (u8 7 ++ (u8 7 ++ List.replicate 64 0xFF)) []
        (asked 0x2D (u8 7 ++ (u8 7 ++ List.replicate 64 0xFF)) State.reset) ∧
      (List.replicate 64 (0xFF : Byte)).length = 64) ∧
    (Ready 0x2D 7 (u8 0 ++ (u8 8 ++ List.replicate 64 0xFF)) []
        (asked 0x2D (u8 0 ++ (u8 8 ++ List.replicate 64 0xFF)) State.reset) ∧ 7 < 8) :=
  ⟨⟨asked_ready _ _ _ rfl, by decide, by decide⟩, ⟨asked_ready _ _ _ rfl, by decide, by decide⟩,
    ⟨asked_ready _ _ _ rfl, by decide⟩, asked_ready _ _ _ rfl, by decide⟩

theorem witness_PolicySetKeepsFixed :
    (Ready 0x2F 7 (u8 20 ++ u8 1) [] (asked 0x2F (u8 20 ++ u8 1) State.reset) ∧ 19 < 20) ∧
    (Ready 0x2F 7 (u8 1 ++ u8 4) [] (asked 0x2F (u8 1 ++ u8 4) State.reset) ∧ 3 < 4) ∧
    (Ready 0x2F 7 (u8 19 ++ u8 3) [] (asked 0x2F (u8 19 ++ u8 3) State.reset) ∧ Finding.registerFull.code = 19 ∧
      Policy.ignored.code = 3 ∧ Finding.registerFull ∈
        [Finding.checkMismatch, .issuerUnknown, .keyWithdrawn, .revoked, .areaUnconfigured, .registerFull]) ∧
    (Ready 0x2F 7 (u8 17 ++ u8 1) [] (asked 0x2F (u8 17 ++ u8 1) State.reset) ∧ Finding.rideTorn.code = 17 ∧
      Policy.blocking.code = 1 ∧ Finding.rideTorn ∉
        [Finding.checkMismatch, .issuerUnknown, .keyWithdrawn, .revoked, .areaUnconfigured, .registerFull]) :=
  ⟨⟨asked_ready _ _ _ rfl, by decide⟩, ⟨asked_ready _ _ _ rfl, by decide⟩,
    ⟨asked_ready _ _ _ rfl, rfl, rfl, by decide⟩, asked_ready _ _ _ rfl, rfl, rfl, by decide⟩

theorem witness_SettingsAreClamped :
    Ready 0x2E 7 (u8 99) [] (asked 0x2E (u8 99) State.reset) ∧ Ready 0x2E 7 (u8 251) [] (asked 0x2E (u8 251) State.reset) ∧
    Ready 0x32 7 (u8 0) [] (asked 0x32 (u8 0) State.reset) ∧ Ready 0x32 7 (u8 61) [] (asked 0x32 (u8 61) State.reset) ∧
    Ready 0x33 7 (u16 601) [] (asked 0x33 (u16 601) State.reset) ∧
    (Ready 0x34 7 (u8 1) [] (asked 0x34 (u8 1) State.reset) ∧ Ready 0x34 7 (u8 2) [] (asked 0x34 (u8 2) State.reset)) ∧
    Ready 0x3A 7 (u16 256 ++ (u16 3601 ++ u8 0)) [] (asked 0x3A (u16 256 ++ (u16 3601 ++ u8 0)) State.reset) ∧
    Ready 0x3A 7 (u16 0 ++ (u16 0 ++ u8 4)) [] (asked 0x3A (u16 0 ++ (u16 0 ++ u8 4)) State.reset) :=
  ⟨asked_ready _ _ _ rfl, asked_ready _ _ _ rfl, asked_ready _ _ _ rfl, asked_ready _ _ _ rfl, asked_ready _ _ _ rfl,
    ⟨asked_ready _ _ _ rfl, asked_ready _ _ _ rfl⟩, asked_ready _ _ _ rfl, asked_ready _ _ _ rfl⟩

/-! ### Witnesses: evaluation, quotes and the register -/

theorem witness_QuoteArithmetic : 0 < 1 ∧ 100 ≤ 100 ∧ 0 < (1 : Nat) ∧ 0 < 4000 := by decide

theorem witness_QuoteStaysWithinCap :
    (quote14 5).route.ok ∧ (quote14 5).a < (quote14 5).x ∧ (quote14 5).x < (quote14 5).route.stops.length ∧
    (quote14 5).entry.ok ∧ 100 ≤ ({ quote14 5 with m1 := 100 } : QuoteInput).m1 ∧
    ({ quote14 5 with m1 := 250 } : QuoteInput).m1 ≤ 250 ∧ 1 ≤ (quote14 5).adults + (quote14 5).children ∧
    ({ quote14 5 with children := 8 } : QuoteInput).adults + 8 ≤ 9 :=
  ⟨⟨by decide, by decide, by decide, by decide, by decide, by simp [quote14, routeA, Stop.ok], by decide⟩, by decide,
    by decide, ⟨by decide, by decide, by decide, by decide, by decide, by decide, by decide⟩, by decide, by decide,
    by decide, by decide⟩

theorem witness_CoverageAndTimeJudgements :
    routeA.stops.Pairwise (fun p q => p.code ≠ q.code) ∧
    ((∃ st, routeA.stops[0]? = some st ∧ st.code = 1180) ∧ ∃ st, routeA.stops[5]? = some st ∧ st.code = 1340) ∧
    (∀ st ∈ routeA.stops, st.code ≠ 3105) ∧
    (∀ st ∈ routeA.stops, st.area ≠ 7) ∧ offRoute (.single 1340 1180) routeA = true ∧
    (routeA.stops[4]? = some ⟨1322, 820, 3, 21, 494⟩ ∧ routeA.stops[4 + 1]? = some ⟨1340, 1011, 3, 22, 512⟩) ∧
    (single501.validFrom ≤ single501.validUntil ∧ AreaEntry.unconfigured.configured = false ∧ (0 : Int) ≤ 0) ∧
    (areaTwo.configured = true ∧ (720 : Int) = (720 : Nat)) ∧
    (29041579 < single501.validFrom ∧ single501.validFrom ≤ 29041580 ∧ 29041642 ≤ single501.validUntil ∧
      single501.validUntil < 29041643 ∧ 29041647 ≤ single501.validUntil + 5 ∧ single501.validUntil + 5 < 29041648) :=
  ⟨by decide, ⟨⟨_, rfl, rfl⟩, _, rfl, rfl⟩, by decide, by decide, by decide, ⟨rfl, rfl⟩, ⟨by decide, rfl, by decide⟩, ⟨rfl, rfl⟩, by decide,
    by decide, by decide, by decide, by decide, by decide⟩

/-- A record that eviction passes over, and one that it may take. -/
def keptRecord : Record := { rec501 with key := { issuer := 12, serial := 0x31 }, ride := .consumed }

/-- See `keptRecord`. -/
def looseRecord : Record := { rec501 with key := { issuer := 41, serial := 0x7710 } }

theorem witness_RegisterLookupEvictsOldest :
    (∃ r ∈ [rec501], r.key = single501.key) ∧
    ((List.replicate 1023 keptRecord).length < 1024 ∧ ∀ r ∈ List.replicate 1023 keptRecord, r.key ≠ single501.key) ∧
    (1024 ≤ (List.replicate 1023 keptRecord ++ looseRecord :: []).length ∧
      (∀ d ∈ List.replicate 1023 keptRecord ++ looseRecord :: [], d.key ≠ single501.key) ∧
      (∀ d ∈ List.replicate 1023 keptRecord, d.ride ≠ .none ∨ d.caseLink ≠ none) ∧
      ¬ (looseRecord.ride ≠ .none ∨ looseRecord.caseLink ≠ none)) ∧
    (1024 ≤ (List.replicate 1024 keptRecord).length ∧
      ∀ r ∈ List.replicate 1024 keptRecord, r.ride ≠ .none ∨ r.caseLink ≠ none) := by
  have key : keptRecord.key ≠ single501.key := by decide
  have loose : looseRecord.key ≠ single501.key := by decide
  have kept : keptRecord.ride ≠ .none ∨ keptRecord.caseLink ≠ none := by decide
  refine ⟨⟨rec501, List.mem_singleton.2 rfl, rfl⟩,
    ⟨by rw [List.length_replicate]; omega, fun r h => ?_⟩,
    ⟨by rw [List.length_append, List.length_replicate]; simp only [List.length_cons, List.length_nil]; omega,
      fun d h => ?_, fun d h => ?_, by decide⟩,
    Nat.le_of_eq List.length_replicate.symm, fun r h => ?_⟩
  · rw [List.eq_of_mem_replicate h]; exact key
  · rcases List.mem_append.1 h with h | h
    · rw [List.eq_of_mem_replicate h]; exact key
    · rw [List.mem_singleton.1 h]; exact loose
  · rw [List.eq_of_mem_replicate h]; exact kept
  · rw [List.eq_of_mem_replicate h]; exact kept

/-- The RETURN ticket waits first in the Intake Queue. -/
def withTicket (s : State) : State :=
  { s with iq := { s.iq with entries := [{ entry 501 with content := returnTicket }] } }

/-- A card's entry. -/
def cardEntry : Entry := { entry 502 with origin := .card { rides := 6, sequence := 211 } 305 }

theorem witness_EngineTakesTheHeadEntry :
    (State.reset.iq.entries = [] ∧ (withTicket State.reset).jcu.journey = none ∧
      (judging (onRoute (.running 1))).ven.engine ≠ .idle ∧ (asleep (onRoute (.running 1))).lif.power = .standby ∧
      freeSlots (withOutbound 23 (onRoute (.running 1))).lif < 2 ∧ (parked false (onRoute (.running 1))).ven.parked ≠ none ∧
      cardEntry.origin ≠ .link) ∧
    ((withTicket (withOutbound 22 (onRoute (.running 1)))).resetN = true ∧
      (withTicket (withOutbound 22 (onRoute (.running 1)))).iq.entries = [{ entry 501 with content := returnTicket }] ∧
      (withTicket (withOutbound 22 (onRoute (.running 1)))).jcu.journey = some ⟨false, routeA, 1, .running 1⟩ ∧
      (withTicket (withOutbound 22 (onRoute (.running 1)))).ven.engine = .idle ∧
      (withTicket (withOutbound 22 (onRoute (.running 1)))).lif.power = .active ∧
      2 ≤ freeSlots (withTicket (withOutbound 22 (onRoute (.running 1)))).lif ∧ (entry 501).origin = .link) ∧
    decodeContent .link (entry 501).content = none ∧ (decodeContent .link returnTicket).isSome = true ∧
    ((withKeyEntries [keyEntry 3 .active] State.reset).dcu.keys = [] ++ keyEntry 3 .active :: [] ∧
      (keyEntry 3 .active).issuer = 41 ∧ (keyEntry 3 .active).version = 3 ∧ (keyEntry 3 .retiring).state = .retiring ∧
      (keyEntry 3 .withdrawn).state = .withdrawn) ∧
    (∀ d ∈ State.reset.dcu.keys, ¬ (d.issuer = 41 ∧ d.version = 3)) := by decide +kernel

/-- The engine is CHECKING #501, whose check gives this value. -/
def checkingWith (value : BitVec 64) (s : State) : State :=
  { s with ven := { s.ven with
      engine := .checking eval501 { material := [], keyState := .active, input := [], value := value } } }

/-- The engine's tables of a hard reset are in order. -/
theorem reset_tables_ok : Ven.reset.tablesOk := by
  refine ⟨?_, by decide, by decide, ?_⟩
  · simp only [AreaEntry.ok]; decide
  · intro f; cases f <;> decide

theorem witness_CheckMismatchIsUntrusted :
    (∀ ev k, State.reset.ven.engine ≠ .checking ev k) ∧
    ((checkingWith (Config.keyedCheck [] [] + 1) (onRoute (.running 1))).resetN = true ∧
      (checkingWith (Config.keyedCheck [] [] + 1) (onRoute (.running 1))).ven.engine = .checking eval501
        { material := [], keyState := .active, input := [], value := Config.keyedCheck [] [] + 1 } ∧
      eval501.credential = some single501 ∧ (∀ f, eval501.has f = true → f = .keyRetiring) ∧
      Config.keyedCheck [] [] ≠ Config.keyedCheck [] [] + 1) ∧
    (checkingWith (Config.keyedCheck [] [] + 1) (onRoute (.running 1))).ven.tablesOk := by
  refine ⟨(fun ev k h => by cases h), ⟨rfl, rfl, rfl, (fun f h => by cases h), fun h => ?_⟩, reset_tables_ok⟩
  generalize Config.keyedCheck [] [] = x at h
  bv_omega

theorem witness_TrustedFindingsAreThoseRaised :
    (checkingWith (Config.keyedCheck [] []) (withAreaTwo (onRoute (.running 1)))).ven.engine = .checking eval501
      { material := [], keyState := .active, input := [], value := Config.keyedCheck [] [] } ∧
    eval501.credential = some single501 ∧ (∀ f, eval501.has f = true → f = .keyRetiring) ∧
    Config.keyedCheck [] [] = Config.keyedCheck [] [] :=
  ⟨rfl, rfl, (fun f h => by cases h), rfl⟩

/-- The register holds these records. -/
def withRecords (rs : List Record) (s : State) : State := { s with irg := { s.irg with records := rs } }

theorem witness_SightingsAreRecorded :
    (checkingWith (Config.keyedCheck [] []) (withRecords [rec501] (withAreaTwo (onRoute (.running 1))))).ven.engine =
      .checking eval501 { material := [], keyState := .active, input := [], value := Config.keyedCheck [] [] } ∧
    (eval501.quote = none ∧ eval501.inspCount = 0) ∧ eval501.credential = some single501 ∧
    (findRecord single501.key [rec501]).isSome = true ∧
    ((withRecords (List.replicate 1023 keptRecord) State.reset).irg.records.length < 1024 ∧
      findRecord single501.key (List.replicate 1023 keptRecord) = none) ∧
    ((withRecords (List.replicate 1023 keptRecord ++ [looseRecord]) State.reset).irg.records =
        List.replicate 1023 keptRecord ++ looseRecord :: [] ∧ findRecord single501.key [looseRecord] = none ∧
      ¬ (looseRecord.ride ≠ .none ∨ looseRecord.caseLink ≠ none)) ∧
    (1024 ≤ (withRecords (List.replicate 1024 keptRecord) State.reset).irg.records.length ∧
      ∀ r ∈ List.replicate 1024 keptRecord, r.ride ≠ .none ∨ r.caseLink ≠ none) := by
  refine ⟨rfl, ⟨rfl, rfl⟩, rfl, rfl, ⟨?_, ?_⟩, ⟨rfl, by decide, by decide⟩, ?_, fun r h => ?_⟩
  · show (List.replicate 1023 keptRecord).length < 1024
    rw [List.length_replicate]; omega
  · refine List.find?_eq_none.2 fun r h => ?_
    rw [List.eq_of_mem_replicate h]; decide
  · exact Nat.le_of_eq List.length_replicate.symm
  · rw [List.eq_of_mem_replicate h]; decide

/-- A presentation of a card with 6 rides and sequence 211, on the session 305. -/
def cardEval : Evaluation :=
  { eval501 with origin := .card { rides := 6, sequence := 211 } 305, hasRecord := true, verdict := some .pass }

theorem witness_ConsumeTakesTheRide :
    ({ single501 with rides := none } : Credential).rides = none ∧ single501.rides = some 4 ∧ eval501.hasRecord = false ∧
    (cardEval.hasRecord = true ∧ findRecord single501.key (withRecords [rec501] State.reset).irg.records = some rec501) ∧
    (({ rec501 with ride := .consumed } : Record).ride = .consumed ∧ rec501.ride = .none) ∧
    (cardEval.verdict ≠ some .action ∧ 0 < 6 ∧ cardEval.origin = .card { rides := 6, sequence := 211 } 305) ∧
    ((cardIn .queued State.reset).ciu.held = true ∧ (cardIn .queued State.reset).ciu.tag = 305 ∧
      (cardIn .queued State.reset).ciu.state = .queued) ∧
    (({ rec501 with ride := .torn 212 } : Record).ride = .torn 212 ∧ (211 + 1) % 65536 = 212 ∧ (211 + 1) % 65536 ≠ 230 ∧
      (65535 + 1) % 65536 = 0) := by decide

theorem witness_IssueReportsTheVerdict :
    (freeSlots (withOutbound 24 State.reset).lif = 0 ∧ (∀ ev, State.reset.ven.engine ≠ .judging ev) ∧
      ∀ p, (parked false State.reset).ven.parked = some p → p.completed = false) ∧
    (0 < freeSlots (withOutbound 23 (judging State.reset)).lif ∧
      (judging State.reset).ven.engine = .judging { eval501 with verdict := some .pass } ∧ Verdict.pass ≠ .action) ∧
    ((parked true State.reset).ven.parked = some { ev := { cardEval with hasRecord := false }, completed := true } ∧
      cardEval.verdict = some .pass) ∧
    4 ≤ ([case14, case14, case14, case14] : List Case).length ∧
    (State.reset.ctb.cases.length + State.reset.ctb.closedWaiting.length < 4 ∧ eval501.credential = some single501 ∧
      ({ eval501 with verdict := some .action } : Evaluation).verdict = some .action) ∧
    (1 ≤ ({ State.reset.ctb with nextSerial := 65535 } : Ctb).nextSerial ∧
      ({ State.reset.ctb with nextSerial := 65535 } : Ctb).nextSerial ≤ 65535 ∧ (65535 - 1 + 1) % 65535 + 1 = 1) ∧
    (eval501.origin = .link ∧ cardEval.origin = .card { rides := 6, sequence := 211 } 305 ∧
      ({ eval501 with trust := .trusted } : Evaluation).trust = .trusted ∧ single501.rides = some 4 ∧
      ({ single501 with rides := none } : Credential).rides = none) := by
  refine ⟨⟨by decide, (fun ev h => by cases h), fun p h => by cases h; rfl⟩, ⟨by decide, rfl, by decide⟩, ⟨rfl, rfl⟩,
    by decide, ⟨by decide, rfl, rfl⟩, by decide, by decide⟩

/-! ### Witnesses: cases -/

theorem witness_CaseResolveDecides :
    (Ready 0x30 7 (u16 15 ++ u8 1) [] (asked 0x30 (u16 15 ++ u8 1) (withCase14 (onRoute (.running 1)))) ∧
      ∀ c ∈ (withCase14 (onRoute (.running 1))).ctb.cases, c.serial ≠ 15) ∧
    (Ready 0x30 7 (u16 14 ++ u8 0) [] (asked 0x30 (u16 14 ++ u8 0) (withCase14 (onRoute (.running 1)))) ∧
      (withCase14 (onRoute (.running 1))).ctb.cases = [] ++ case14 :: [] ∧ case14.serial = 14 ∧ 0 < 1) ∧
    (Ready 0x30 7 (u16 14 ++ u8 4) [] (asked 0x30 (u16 14 ++ u8 4) (withCase14 (onRoute (.running 1)))) ∧ 3 < 4) ∧
    (Ready 0x30 7 (u16 14 ++ u8 3) [] (asked 0x30 (u16 14 ++ u8 3) (withCase14 (onRoute (.running 1)))) ∧
      case14.linked = true ∧ case14.quote.map Quote.brief = some (1330, 1340) ∧
      case14.route.indexOf? 1340 = some 5) ∧
    (({ case14 with linked := false } : Case).linked = false ∧ ({ case14 with quote := none } : Case).quote = none) ∧
    Ready 0x30 7 (u16 14 ++ u8 1) [] (asked 0x30 (u16 14 ++ u8 1) (withCase14 (onRoute (.running 1)))) ∧
    Ready 0x30 7 (u16 14 ++ u8 2) [] (asked 0x30 (u16 14 ++ u8 2) (withCase14 (onRoute (.running 1)))) :=
  ⟨⟨asked_ready _ _ _ rfl, by decide⟩, ⟨asked_ready _ _ _ rfl, rfl, rfl, by decide⟩, ⟨asked_ready _ _ _ rfl, by decide⟩,
    ⟨asked_ready _ _ _ rfl, rfl, rfl, by decide⟩, ⟨rfl, rfl⟩, asked_ready _ _ _ rfl, asked_ready _ _ _ rfl⟩

/-- Case 20 of the card upgrade example: a card's case, session 305 here, with 3 rides and sequence 40. -/
def case20 : Case :=
  { case14 with serial := 20, origin := .card 305 (some { rides := 3, sequence := 40 }), rides := some 3 }

theorem witness_CaseRideAndPaidSpan :
    ({ case14 with rides := none } : Case).rides = none ∧ case14.rides = some 4 ∧
    ({ case14 with linked := false } : Case).linked = false ∧
    (case14.linked = true ∧ findRecord case14.key (withRecords [rec501] State.reset).irg.records = some rec501 ∧
      rec501.ride = .none ∧ 0 < 4 ∧ case14.origin = .link) ∧
    (({ rec501 with ride := .consumed } : Record).ride = .consumed ∧ ({ rec501 with ride := .torn 212 } : Record).ride =
      .torn 212 ∧ ({ case14 with rides := some 0 } : Case).rides = some 0) ∧
    (case20.origin = .card 305 (some { rides := 3, sequence := 40 }) ∧ (cardIn .settled State.reset).ciu.held = true ∧
      (cardIn .settled State.reset).ciu.tag = 305 ∧ (cardIn .settled State.reset).ciu.state = .settled) ∧
    (routeA.stops.Pairwise (fun m n => m.code ≠ n.code) ∧ routeA.stops[1]? = some ⟨1205, 184, 2, 11, 436⟩ ∧
      routeA.stops[2]? = some ⟨1260, 402, 2, 12, 455⟩ ∧ 1 < 2) ∧
    ((2 : Nat) ≤ 2 ∧ 1 ≤ 3 ∧ 2 < 3 ∧ 0 < 1) ∧ (∀ st ∈ routeA.stops, st.code ≠ 3105) := by decide

/-- Cases 14 and 20 are open and due. -/
def withDueCases (s : State) : State :=
  { s with ctb := { s.ctb with cases := [{ case14 with deadline := 1742498710 }, { case20 with deadline := 1742498700 }] } }

theorem witness_CasesCloseAndTimeOut :
    (State.reset.ctb.closedWaiting = [] ∧ 0 < freeSlots (journal (caseEndRecord (closedOf .refused .none none case14))
      (detachCase case14 (withOutbound 23 (withCase14 (onRoute (.running 1)))))).lif) ∧
    freeSlots (journal (caseEndRecord (closedOf .refused .none none case14))
      (detachCase case14 (withOutbound 24 (withCase14 (onRoute (.running 1)))))).lif = 0 ∧
    (withWaiting State.reset).ctb.closedWaiting ≠ [] ∧
    ((withDueCases (onRoute (.running 1))).resetN = true ∧
      (withDueCases (onRoute (.running 1))).ctb.cases.map (fun c => decide
        (c.deadline ≤ (withDueCases (onRoute (.running 1))).jcu.clock.seconds)) = [true, true] ∧
      (onRoute (.running 1)).jcu.clock.isSet = true) ∧
    (State.reset.jcu.clock.isSet = false ∧
      ∀ c ∈ (withCase14 (onRoute (.running 1))).ctb.cases, (onRoute (.running 1)).jcu.clock.seconds < c.deadline) ∧
    ((withWaiting State.reset).ctb.closedWaiting = [closed14] ∧ (withWaiting State.reset).resetN = true ∧
      0 < freeSlots (withWaiting (withOutbound 23 State.reset)).lif ∧
      freeSlots (withWaiting (withOutbound 24 State.reset)).lif = 0) := by
  decide +kernel

/-- Two cases that are due together time out together, in the order they opened, and the second, for which a slot is free
again, waits behind the first (R127; log 19). -/
theorem test_due_cases_close_in_order :
    (match exec .caseDeadlineReached (withOutbound 24 (withDueCases (onRoute (.running 1)))) with
      | .next s => (s.ctb.cases, s.ctb.closedWaiting.map (fun c => c.serial))
      | _ => ([], [])) = ([], [14, 20]) ∧
    (match exec .caseDeadlineReached (withWaiting (withOutbound 23 (withDueCases (onRoute (.running 1))))) with
      | .next s => (s.lif.outbound.length, s.ctb.closedWaiting.map (fun c => c.serial))
      | _ => (0, [])) = (23, [14, 14, 20]) := by decide +kernel

theorem witness_CaseQuoteRequotes :
    (Ready 0x31 7 (u16 15 ++ u16 1322) [] (asked 0x31 (u16 15 ++ u16 1322) (withCase14 (onRoute (.running 1)))) ∧
      ∀ c ∈ (withCase14 (onRoute (.running 1))).ctb.cases, c.serial ≠ 15) ∧
    (Ready 0x31 7 (u16 14 ++ u16 3105) [] (asked 0x31 (u16 14 ++ u16 3105) (withCase14 (onRoute (.running 1)))) ∧
      ∀ st ∈ case14.route.stops, st.code ≠ 3105) ∧
    (Ready 0x31 7 (u16 14 ++ u16 1205) [] (asked 0x31 (u16 14 ++ u16 1205) (withCase14 (onRoute (.running 1)))) ∧
      case14.route.indexOf? 1205 = some 1 ∧ 1 ≤ case14.a) ∧
    (Ready 0x31 7 (u16 14 ++ u16 1260) [] (asked 0x31 (u16 14 ++ u16 1260) (withAreaTwo (withCase14 (onRoute (.running 1))))) ∧
      case14.route.indexOf? 1260 = some 2 ∧ case14.a < 2 ∧ case14.basis.isSome = true ∧
      ((withAreaTwo (withCase14 (onRoute (.running 1)))).ven.areaOf (case14.route.stop case14.a).area).configured = true ∧
      (withAreaTwo (withCase14 (onRoute (.running 1)))).ctb.cases = [] ++ case14 :: []) ∧
    (((withCase14 (onRoute (.running 1))).ven.areaOf (case14.route.stop case14.a).area).configured = false ∧
      ({ case14 with basis := none } : Case).basis = none) :=
  ⟨⟨asked_ready _ _ _ rfl, by decide⟩, ⟨asked_ready _ _ _ rfl, by decide⟩, ⟨asked_ready _ _ _ rfl, by decide, by decide⟩,
    ⟨asked_ready _ _ _ rfl, by decide, by decide, rfl, by decide, rfl⟩, by decide, rfl⟩

/-! ### Witnesses: the card line -/

/-- Quiet errors are set. -/
def quiet (s : State) : State := { s with ciu := { s.ciu with quiet := true } }

theorem cardIn_settled_ok (s : State) (h : s.ciu = Ciu.reset) : (cardIn .settled s).ciu.ok := by
  simp only [cardIn, h]
  refine ⟨by decide, by decide, by decide, by decide, by decide, by decide, by decide, ?_⟩
  decide

theorem witness_CardUpStartsARead :
    (State.reset.resetN = true ∧ State.reset.ciu.awaitsGap = false ∧ (List.replicate 7 (1 : Byte)).length = 7) ∧
    ((withEntries 15 true (onRoute (.running 1))).ciu.state = .absent ∧
      (withEntries 15 true (onRoute (.running 1))).jcu.journey = some ⟨false, routeA, 1, .running 1⟩ ∧
      (withEntries 15 true (onRoute (.running 1))).iq.entries.length < 16) ∧
    (16 ≤ (withEntries 16 true (onRoute (.running 1))).iq.entries.length ∧ State.reset.jcu.journey = none ∧
      State.reset.lif.power = .active) ∧
    ((quiet (asleep State.reset)).lif.power = .standby ∧ (quiet (asleep State.reset)).ciu.quiet = true) ∧
    ((asleep State.reset).lif.power = .standby ∧ (asleep State.reset).ciu.quiet = false) ∧
    ((cardIn .settled State.reset).ciu.ok ∧ (cardIn .settled State.reset).ciu.state ≠ .absent ∧
      ∃ t, exec (.cardDown true (cardFrameBytes 0x03 [])) (cardIn .settled State.reset) = .next t) :=
  ⟨⟨rfl, rfl, by decide⟩, ⟨rfl, rfl, by decide⟩, ⟨by decide, rfl, rfl⟩, ⟨rfl, rfl⟩, ⟨rfl, rfl⟩, cardIn_settled_ok _ rfl, by decide,
    _, rfl⟩

/-- A read that has stored this many blocks, of a content whose length byte is `len`. -/
def readingAt (n len : Nat) (s : State) : State :=
  { cardIn .reading s with
    ciu := { (cardIn .reading s).ciu with
      image := List.replicate 1 (List.replicate 9 0 ++ u8 len ++ List.replicate 6 0) ++
        List.replicate (n - 1) (List.replicate 16 0) } }

/-- The counter block of that card: 6 rides, sequence 211, serial 0. -/
def block5 : List Byte := counterBlock { rides := 6, sequence := 211 } (u48 0)

/-- The content of that card. -/
def contentOf (len : Nat) : List Byte := ((readingAt 5 len State.reset).ciu.image.take 5).flatten

theorem witness_BlocksMakeAnEntry :
    ((onRoute (.running 1)).resetN = true ∧ (onRoute (.running 1)).ciu.awaitsGap = false ∧ block5.length = 16) ∧ (onRoute (.running 1)).ciu.state ≠ .reading ∧
    ((readingAt 4 80 State.reset).ciu.state = .reading ∧
      (4 : Byte).toNat = (readingAt 4 80 State.reset).ciu.image.length ∧ (4 : Byte).toNat < 5) ∧
    ((5 : Byte).toNat ≠ (readingAt 4 80 State.reset).ciu.image.length ∧ 5 < (6 : Byte).toNat) ∧
    ((5 : Byte).toNat = 5 ∧ (readingAt 5 80 State.reset).ciu.image.length = 5 ∧
      (crc16 (block5.take 3 ++ ((contentOf 80).drop 3).take 6)).toNat = fieldAt block5 3 2 ∧
      fieldAt (contentOf 80) 9 1 ≤ 80) ∧
    ((crc16 ((List.replicate 16 (0 : Byte)).take 3 ++ ((contentOf 80).drop 3).take 6)).toNat ≠
        fieldAt (List.replicate 16 0) 3 2 ∧ 80 < fieldAt (contentOf 81) 9 1) ∧
    (16 ≤ (withEntries 16 true (onRoute (.running 1))).iq.entries.length ∧
      (withEntries 15 true (onRoute (.running 1))).iq.entries.length < 16 ∧
      (onRoute (.running 1)).jcu.journey = some ⟨false, routeA, 1, .running 1⟩) := by decide +kernel

theorem witness_CardLeavesOrFallsSilent :
    (State.reset.resetN = true ∧ State.reset.ciu.awaitsGap = false) ∧ State.reset.ciu.state = .absent ∧ (cardIn .queued State.reset).ciu.state = .queued ∧
    (cardIn .settled State.reset).ciu.state = .settled ∧
    ((readingAt 1 35 State.reset).ciu.state = .reading ∧ (readingAt 1 35 State.reset).lif.power = .active) ∧
    ((quiet (asleep (readingAt 1 35 State.reset))).lif.power = .standby ∧
      (quiet (asleep (readingAt 1 35 State.reset))).ciu.quiet = true ∧
      (asleep (readingAt 1 35 State.reset)).ciu.quiet = false) ∧
    ((readingAt 1 35 State.reset).ciu.readTimer = none ∧ State.reset.timebase < 1) ∧
    ({ (readingAt 1 35 State.reset).ciu with readTimer := some 0 } : Ciu).readTimer = some 0 ∧ 0 ≤ State.reset.timebase := by
  decide +kernel

theorem witness_CardErrorsAreCounted :
    (∀ k body, [0x03, 0x00, 0xFC] ≠ cardFrameBytes k body) ∧ [0x03, 0x00, 0xFD] = cardFrameBytes 0x03 [] ∧
    ((0x03, Instr.cardDown true [0x03, 0x00, 0xFC]) ∈ [(0x03, Instr.cardDown true [0x03, 0x00, 0xFC])] ∧
      (0x03 : Nat) ≠ 0x00) ∧
    (State.reset.ciu.awaitsGap = false ∧ (framingError State.reset).ciu.awaitsGap = true ∧ State.reset.resetN = true) ∧
    State.reset.lif.power = .active ∧ ((asleep State.reset).lif.power = .standby ∧ (asleep State.reset).ciu.quiet = false) ∧
    ((quiet (asleep State.reset)).lif.power = .standby ∧ (quiet (asleep State.reset)).ciu.quiet = true) := by
  refine ⟨fun k body h => ?_, by decide⟩
  have sum := byteSum_cardFrameBytes k body
  rw [← h] at sum
  exact absurd sum (by decide)

/-- RIDE-TORN as NOTED leaves the quote of a noted SHORT-COVERAGE; as BLOCKING it makes the verdict ACTION, and that has no
quote (R83, R96; log 42). -/
theorem test_torn_action_has_no_quote :
    let ev : Evaluation := { cardEval with findings := [{ finding := .shortCoverage, policy := some .noted }],
                                           quote := case14.quote, verdict := some .passNoted }
    ((addRideTorn .noted ev).quote = case14.quote ∧ (addRideTorn .noted ev).verdict = some .passNoted) ∧
    (addRideTorn .blocking ev).quote = none ∧ (addRideTorn .blocking ev).verdict = some .action := by decide

theorem witness_WritesEnd :
    (State.reset.ciu.awaitsGap = false ∧ 0x02#8 ∈ [0x01#8, 0x02#8]) ∧ State.reset.ciu.state ≠ .writing ∧
    ((writingFor .parkedVerdict none State.reset).ciu.write = some ⟨.parkedVerdict, [], none⟩ ∧
      (writingFor .parkedVerdict (some 1) State.reset).timebase < 1) ∧
    (({ (writingFor .parkedVerdict (some 0) (parked false State.reset)).ciu with awaitsGap := true } : Ciu).state = .writing ∧
      ({ (writingFor .parkedVerdict (some 0) (parked false State.reset)).ciu with awaitsGap := true } : Ciu).awaitsGap =
        true) ∧
    ((writingFor .parkedVerdict (some 0) (parked false State.reset)).resetN = true ∧
      (writingFor .parkedVerdict (some 0) (parked false State.reset)).ciu.state = .writing ∧
      (writingFor .parkedVerdict (some 0) (parked false State.reset)).ciu.write = some ⟨.parkedVerdict, [], some 0⟩ ∧
      0 ≤ (writingFor .parkedVerdict (some 0) (parked false State.reset)).timebase ∧
      (parked false State.reset).ven.parked = some { ev := { cardEval with hasRecord := false }, completed := false } ∧
      cardEval.credential = some single501 ∧ cardEval.origin = .card { rides := 6, sequence := 211 } 305 ∧
      cardEval.verdict = some .pass ∧ State.reset.ven.policyOf .rideTorn = .noted) ∧
    (({ State.reset.ctb with resolution := some ⟨20, 58, single501.key, 3⟩ } : Ctb).resolution =
      some ⟨20, 58, single501.key, 3⟩ ∧ (writingFor .resolutionWrite none State.reset).ciu.write.map (·.owner) =
      some .resolutionWrite) :=
  ⟨⟨rfl, by decide⟩, by decide, ⟨rfl, by decide⟩, ⟨rfl, rfl⟩, ⟨rfl, rfl, rfl, by decide, rfl, rfl, rfl, rfl, by decide⟩, rfl, rfl⟩

/-- A card-line frame waits to be sent. -/
def withSending (f : CardFrame) (s : State) : State := { s with ciu := { s.ciu with sending := [f] } }

theorem witness_CardFramesStartTimers :
    State.reset.ciu.sending = [] ∧
    ((withSending (.release .pass) State.reset).ciu.sending = .release .pass :: [] ∧ State.reset.resetN = true) ∧
    ((withSending (.readImage 305) (cardIn .reading State.reset)).ciu.state = .reading ∧
      (withSending (.readImage 305) (cardIn .reading State.reset)).ciu.tag = 305 ∧
      (withSending (.readImage 305) (cardIn .reading State.reset)).ciu.image = []) ∧
    (withSending (.readImage 304) (cardIn .reading State.reset)).ciu.tag ≠ 304 ∧
    ((withSending (.writeCounter 305 []) (writingFor .parkedVerdict none State.reset)).ciu.state = .writing ∧
      (withSending (.writeCounter 305 []) (writingFor .parkedVerdict none State.reset)).ciu.tag = 305 ∧
      (withSending (.writeCounter 305 []) (writingFor .parkedVerdict none State.reset)).ciu.write =
        some ⟨.parkedVerdict, [], none⟩) ∧
    (withSending (.writeCounter 305 []) (cardIn .settled State.reset)).ciu.state ≠ .writing := by decide

/-! ### Witnesses: the journal -/

/-- A stored record. -/
def stored (n : Nat) : JournalRecord := { sequence := n, time := 0, body := .partReset 58 0 }

/-- A ring that holds the records 1 to `n`, the last of which has been numbered `last`. -/
def ring (n last : Nat) : Jnl := { Jnl.reset with records := (List.range' 1 n).map stored, lastSequence := last }

theorem ring_ok (n last : Nat) (h : n ≤ 2048) (h1 : n ≤ last) (h2 : last ≤ 4294967295) : (ring n last).ok := by
  refine ⟨?_, ?_, fun r hr => ?_, h2, Nat.zero_le _, Nat.zero_le _, .inr (.inl rfl), Nat.le_of_ble_eq_true rfl,
    Nat.le_of_ble_eq_true rfl⟩
  · simpa [ring] using h
  · simpa [ring, List.pairwise_map, stored] using List.pairwise_lt_range' (s := 1) (n := n)
  · simp only [ring, List.mem_map, List.mem_range'_1] at hr
    obtain ⟨m, hm, rfl⟩ := hr
    simp only [stored, ring]
    omega

theorem witness_JournalAppendStoresOrDrops :
    ((ring 0 4294967295).ok ∧ (ring 0 4294967295).lastSequence = 4294967295) ∧
    ((ring 2048 4294967294).ok ∧ (ring 2048 4294967294).lastSequence < 4294967295 ∧
      (ring 2048 4294967294).records.length = 2048) ∧
    ((ring 2047 2047).ok ∧ (ring 2047 2047).records.length < 2048 ∧ 0 < (ring 2047 2047).quietSetting) ∧
    ({ ring 0 0 with quietSetting := 0 } : Jnl).quietSetting = 0 :=
  ⟨⟨ring_ok _ _ (by omega) (by omega) (by omega), rfl⟩,
    ⟨ring_ok _ _ (by omega) (by omega) (by omega), Nat.le_of_ble_eq_true rfl, by simp [ring]⟩,
    ⟨ring_ok _ _ (by omega) (by omega) (by omega), by simp [ring], Nat.zero_lt_succ 4⟩, rfl⟩

/-- The journal is this. -/
def withRing (j : Jnl) (s : State) : State := { s with jnl := j }

theorem witness_JournalReadReleaseReport :
    (Ready 0x38 7 (u32 2) [] (asked 0x38 (u32 2) (withRing (ring 8 8) State.reset)) ∧ (ring 8 8).ok ∧
      (ring 8 8).records = [stored 1] ++ ((ring 8 8).records.drop 1 ++ []) ∧ ((ring 8 8).records.drop 1).length = 7) ∧
    (Ready 0x38 7 (u32 1) [] (asked 0x38 (u32 1) (withRing (ring 8 8) State.reset)) ∧
      (ring 8 8).records = [] ++ ((ring 8 8).records.take 7 ++ [stored 8])) ∧
    (Ready 0x38 7 (u32 4294967295) [] (asked 0x38 (u32 4294967295) (withRing (ring 0 0) State.reset)) ∧ (ring 0 0).ok ∧
      (ring 0 0).records = []) ∧
    (Ready 0x39 7 (u32 4) [] (asked 0x39 (u32 4) (withRing (ring 8 8) State.reset)) ∧
      (ring 8 8).records = (ring 8 8).records.take 4 ++ (ring 8 8).records.drop 4 ∧
      (∀ r ∈ (ring 8 8).records.take 4, r.sequence ≤ 4) ∧ ∀ r ∈ (ring 8 8).records.drop 4, 4 < r.sequence) ∧
    Ready 0x39 7 (u32 0) [] (asked 0x39 (u32 0) (withRing (ring 8 8) State.reset)) ∧
    (({ Jnl.reset with quietTimer := some 0 } : Jnl).quietTimer = some 0 ∧ 0 ≤ State.reset.timebase ∧
      State.reset.jnl.absoluteTimer = none ∧ State.reset.timebase < 1) :=
  ⟨⟨asked_ready _ _ _ rfl, ring_ok _ _ (by omega) (by omega) (by omega), by decide, by decide⟩,
    ⟨asked_ready _ _ _ rfl, by decide⟩,
    ⟨asked_ready _ _ _ rfl, ring_ok _ _ (by omega) (by omega) (by omega), rfl⟩,
    ⟨asked_ready _ _ _ rfl, by decide, by decide, by decide⟩, asked_ready _ _ _ rfl, rfl, by decide, rfl, by decide⟩

/-! ### Witnesses: what every step keeps -/

/-- One command waits. -/
def queued (c : Instr) (s : State) : State := { s with pending := [c] }

theorem witness_LinkAndIntakeStayInOrder :
    (∃ t, step (queued .present (asked 0x08 [2] (onRoute (.running 1)))) = .next t) ∧
    (asked 0x08 [2] (onRoute (.running 1))).lif.ok ∧ (onRoute (.running 1)).iq.ok := by
  refine ⟨⟨_, rfl⟩, ⟨by decide, by decide, by simp [asked, noneReserved, Lif.reset], ⟨by decide, by decide, ?_⟩, by decide,
    by decide, by decide, by decide⟩, by decide, by decide, by decide, by decide, by decide, by decide, by decide⟩
  simp [asked, Lif.reset]

theorem witness_JourneyAndJournalStayInOrder :
    (∃ t, step (queued .stopArrive (asked 0x18 (u8 5) (onRoute (.running 4)))) = .next t) ∧
    (onRoute (.running 4)).jcu.ok ∧ (ring 8 8).ok := by
  refine ⟨⟨_, rfl⟩, ⟨fun r h => ?_, (fun h => by cases h), by decide, trivial, by decide, by decide, by decide, by decide,
    by decide, by decide, by decide, by decide, by decide, by decide, by decide⟩,
    ring_ok _ _ (by omega) (by omega) (by omega)⟩
  cases h
  exact ⟨⟨witness_QuoteStaysWithinCap.1, by decide, by decide, (by decide : 4 + 2 ≤ routeA.stops.length)⟩, rfl, fun h => by cases h⟩

theorem witness_TablesAndVerdictsStayInOrder :
    (∃ t, step (queued (.issue false) (judging (onRoute (.running 1)))) = .next t) ∧
    (withKeyEntries [keyEntry 3 .active, keyEntry 4 .retiring] State.reset).dcu.ok ∧
    (withListEntries [listEntry 9 .revoke, listEntry 17 .clear] State.reset).rsu.ok ∧
    (withAreaTwo State.reset).ven.tablesOk ∧ (judging (parked true State.reset)).ven.verdictsOk ∧
    (checkingWith 0 State.reset).ven.verdictsOk := by
  refine ⟨⟨_, rfl⟩, ⟨by decide, by decide, by decide⟩,
    ⟨by decide, (fun p h => by cases h), by decide, by decide, by decide⟩, ⟨?_, by decide, by decide, ?_⟩,
    ⟨?_, ?_, fun ev k h => by cases h⟩, fun ev h => (by cases h), fun p h => (by cases h), fun ev k h => ?_⟩
  · simp only [AreaEntry.ok]; decide
  · intro f; cases f <;> decide
  · intro ev h; cases h
    exact .inr ⟨rfl, by decide, by simp [eval501]⟩
  · intro p h; cases h
    exact ⟨.inr ⟨rfl, by decide, by simp [eval501]⟩, rfl⟩
  · cases h
    exact ⟨rfl, (fun f h => by cases h), rfl, rfl⟩

theorem witness_RegisterAndCasesStayInOrder :
    (∃ t, step (queued .caseDeadlineReached (withCase14 (onRoute (.running 1)))) = .next t) ∧
    (withCase14 (onRoute (.running 1))).irg.ok ∧ (withCase14 (onRoute (.running 1))).ctb.ok ∧
    linksOk (withCase14 (onRoute (.running 1))).irg.records (withCase14 (onRoute (.running 1))).ctb.cases := by
  refine ⟨⟨_, rfl⟩, ⟨by decide, by decide, by decide, by decide⟩, ⟨by decide, by decide, by decide, by decide, by decide,
    by decide, by decide⟩, ?_, ?_⟩
  · intro c hc _
    rw [List.mem_singleton.1 hc]
    exact ⟨_, List.mem_singleton.2 rfl, rfl, rfl⟩
  · intro r hr n hn
    rw [List.mem_singleton.1 hr] at hn ⊢
    cases hn
    exact ⟨case14, List.mem_singleton.2 rfl, rfl, rfl, rfl⟩

theorem witness_CardAndWritesStayInOrder :
    (∃ t, step (queued (.cardDown true (cardFrameBytes 0x03 [])) (writingFor .parkedVerdict (some 0) (parked false State.reset))) = .next t) ∧
    (writingFor .parkedVerdict (some 0) (parked false State.reset)).ciu.ok ∧
    writesOk (writingFor .parkedVerdict (some 0) (parked false State.reset)).ciu (parked false State.reset).ven
      State.reset.ctb := by
  refine ⟨⟨_, rfl⟩, ?_, ⟨fun _ => ⟨_, rfl, rfl⟩, fun _ => ⟨_, rfl, rfl⟩⟩, ⟨?_, fun h => by cases h⟩, ?_⟩
  · unfold Ciu.ok; decide
  · rintro ⟨w, hw, ho⟩; cases hw; cases ho
  · rintro ev (h | ⟨k, h⟩) _ <;> cases h

theorem witness_UnitsChangeByTheirCommands :
    (∃ t, exec .status (asked 0x01 [] State.reset) = .next t) ∧ reachesIntake .status = false ∧
    reachesKeys .status = false ∧ reachesJourney .status = false ∧ reachesScreen .status = false ∧
    reachesEngine .status = false ∧ reachesRegister .status = false ∧ reachesCases .status = false ∧
    reachesCard .status = false ∧ reachesJournal .status = false ∧ hardResets .status = false ∧
    Instr.status ≠ .clockMillisecond ∧ Instr.status ≠ .frameSent ∧ Instr.status ≠ .resetNLow ∧
    Instr.status ≠ .cardFrameSent :=
  ⟨⟨_, rfl⟩, by decide⟩

theorem witness_RideStatesMoveAsAllowed :
    (∃ t, exec (.cardDown true (cardFrameBytes 0x03 [])) (writingFor .parkedVerdict none
      (parked false (withRecords [{ rec501 with ride := .pending 212 }] State.reset))) = .next t) ∧
    [{ rec501 with ride := .pending 212 }].Pairwise (fun a b : Record => a.key ≠ b.key) ∧
    Instr.cardDown true (cardFrameBytes 0x03 []) ≠ .closeCompletion ∧
    Instr.cardDown true (cardFrameBytes 0x03 []) ≠ .reset ∧
    hardResets (.cardDown true (cardFrameBytes 0x03 [])) = false ∧
    ({ rec501 with ride := .pending 212 } : Record).ride ≠ .none :=
  ⟨⟨_, rfl⟩, by decide, by decide, by decide, rfl, by decide⟩

end Sys2Proof.Tests
end

section
/-! The take of a request in three parts, each with the rule that says what it leaves: the slot reserved for the reply, the
handling, and the reply placed before every notice the handling queued (R157). -/

namespace Sys2Proof.Machine

/-! ### The state a handling starts from, and the reply it ends with -/

/-- The state in which a request is handled (R157): its frame has left the buffer and a slot is reserved. -/
def reserveSlot (rest : List RequestFrame) (s : State) : State :=
  withLif { s.lif with requests := rest, outbound := s.lif.outbound ++ [.reserved] } s

/-- The reply goes into the reserved slot of the block's link (R157). -/
def fillReply (r : OutFrame) (s : State) : State := withLif (fill r s.lif) s

/-- A notice of the waiting list is produced by a unit (R160). -/
def sendWaiting (n : Notice) (s : State) : State := withLif (produceWaiting n s.lif) s

theorem discardNotice_eq_sendWaiting (cause : DiscardCause) (r : Route) (s : State) :
    discardNotice cause r s = sendWaiting (.routeDiscarded cause r.service) s := rfl

/-- Between two commands no slot is reserved (R157). -/
theorem Ready.noReservedSlot {k tag : Byte} {body : List Byte} {rest : List RequestFrame} {s : State}
    (h : Ready k tag body rest s) : noneReserved s.lif.outbound := by
  obtain ⟨-, -, -, -, -, hnone⟩ := h
  exact hnone

theorem reserved_mem_reserveSlot (rest : List RequestFrame) (s : State) :
    .reserved ∈ (reserveSlot rest s).lif.outbound := by
  simp [reserveSlot]

theorem reserved_mem_produceWaiting {n : Notice} {l : Lif} (h : .reserved ∈ l.outbound) :
    .reserved ∈ (produceWaiting n l).outbound := by
  rcases produceWaiting_cases n l with ⟨-, he⟩ | ⟨-, he⟩ <;> simp [he, h]

/-- A reply is placed before a waiting-list notice that the handling queued (R157, R160). -/
theorem fillReply_sendWaiting {r : OutFrame} {n : Notice} {s : State} (h : .reserved ∈ s.lif.outbound) :
    fillReply r (sendWaiting n s) = sendWaiting n (fillReply r s) :=
  congrArg (withLif · s) (fill_produceWaiting h)

/-- A reply is placed before the notices of a record that the handling appended (R157, R175). -/
theorem fillReply_journal {r : OutFrame} {b : JournalBody} {s : State} (h : .reserved ∈ s.lif.outbound) :
    fillReply r (journal b s) = journal b (fillReply r s) :=
  congrArg (withLif · (journal b s)) (fill_produceAll h)

theorem fillReply_reserveSlot {k tag : Byte} {reply : List Byte} {rest : List RequestFrame} {s : State}
    (h : noneReserved s.lif.outbound) :
    fillReply (.reply k tag reply) (reserveSlot rest s) = s.answered k tag reply rest := by
  simp [fillReply, reserveSlot, withLif, fill, State.answered, Lif.answered, placeReply_reserved h]

/-- An append reads of the journey context only the clock (R173). -/
theorem withJcu_journal {b : JournalBody} {c : Jcu} {s : State} (h : c.clock = s.jcu.clock) :
    withJcu c (journal b s) = journal b (withJcu c s) := by
  simp [journal, journalWith, withJcu, tariffTime, h]

/-! ### Refusals, and requests that queue notices -/

section
variable {kind : Nat} {k tag : Byte} {body : List Byte} {rest : List RequestFrame} {h : List Byte → State → Answer}
  {s t : State} {fields : List Byte} {n : Notice} {b : JournalBody}

/-- A ready request that its handling refuses is answered with the status alone, and nothing else changes (R158). -/
theorem takeRequest_refuse {status : Status} (hr : Ready k tag body rest s) (hk : k.toNat = kind)
    (hs : sizeOk kind body = true) (ha : h body (reserveSlot rest s) = refuse status (reserveSlot rest s)) :
    takeRequest kind h s = s.answered (BitVec.ofNat 8 (kind + 0x40)) tag (u8 status.code) rest :=
  takeRequest_quiet hr hk hs ha rfl

/-- A ready request that its handling takes: the handling's state, with the OK reply in the reserved slot (R157). -/
theorem takeRequest_okReply (hr : Ready k tag body rest s) (hk : k.toNat = kind) (hs : sizeOk kind body = true)
    (ha : h body (reserveSlot rest s) = okReply fields t) :
    takeRequest kind h s = fillReply (.reply (BitVec.ofNat 8 (kind + 0x40)) tag (0 :: fields)) t := by
  have he : takeRequest kind h s =
      fillReply (.reply (BitVec.ofNat 8 (kind + 0x40)) tag (h body (reserveSlot rest s)).2)
        (h body (reserveSlot rest s)).1 := takeRequest_ready hr hk hs
  rw [he, ha]
  rfl

/-- A ready request whose handling leaves the link but sends a notice of the waiting list: the notice stands after the
reply (R157, R160). -/
theorem takeRequest_sendWaiting (hr : Ready k tag body rest s) (hk : k.toNat = kind) (hs : sizeOk kind body = true)
    (hl : t.lif = s.lif) (ha : h body (reserveSlot rest s) = okReply fields (sendWaiting n (reserveSlot rest t))) :
    takeRequest kind h s = sendWaiting n (t.answered (BitVec.ofNat 8 (kind + 0x40)) tag (0 :: fields) rest) := by
  rw [takeRequest_okReply hr hk hs ha, fillReply_sendWaiting (reserved_mem_reserveSlot rest t),
    fillReply_reserveSlot (hl ▸ hr.noReservedSlot)]

/-- A ready request whose handling leaves the link but appends a record: the journal's notices stand after the reply (R157,
R175). -/
theorem takeRequest_journal (hr : Ready k tag body rest s) (hk : k.toNat = kind) (hs : sizeOk kind body = true)
    (hl : t.lif = s.lif) (ha : h body (reserveSlot rest s) = okReply fields (journal b (reserveSlot rest t))) :
    takeRequest kind h s = journal b (t.answered (BitVec.ofNat 8 (kind + 0x40)) tag (0 :: fields) rest) := by
  rw [takeRequest_okReply hr hk hs ha, fillReply_journal (reserved_mem_reserveSlot rest t),
    fillReply_reserveSlot (hl ▸ hr.noReservedSlot)]

/-- A ready request whose handling leaves the link but sends a notice of the waiting list and appends a record: after the
reply first that notice, then the journal's (R157, R160, R175). -/
theorem takeRequest_journal_sendWaiting (hr : Ready k tag body rest s) (hk : k.toNat = kind)
    (hs : sizeOk kind body = true) (hl : t.lif = s.lif)
    (ha : h body (reserveSlot rest s) = okReply fields (journal b (sendWaiting n (reserveSlot rest t)))) :
    takeRequest kind h s =
      journal b (sendWaiting n (t.answered (BitVec.ofNat 8 (kind + 0x40)) tag (0 :: fields) rest)) := by
  have hmem := reserved_mem_reserveSlot rest t
  have hsent : .reserved ∈ (sendWaiting n (reserveSlot rest t)).lif.outbound := reserved_mem_produceWaiting hmem
  rw [takeRequest_okReply hr hk hs ha, fillReply_journal hsent, fillReply_sendWaiting hmem,
    fillReply_reserveSlot (hl ▸ hr.noReservedSlot)]

end

/-- A one-byte body reads as the number it was made from. -/
theorem fieldAt_u8 {n : Nat} (h : n < 256) : fieldAt (u8 n) 0 1 = n := by
  rw [fieldAt_all (u8_length n), beNat_u8, Nat.mod_eq_of_lt h]

end Sys2Proof.Machine
end

section
/-! JOURNEY-OPEN and JOURNEY-CLOSE (R24, R37, R38). -/

namespace Sys2Proof.Machine

/-! ### JOURNEY-OPEN -/

/-- The journey context that JOURNEY-OPEN leaves: OPEN on the staged route, at the start stop (R24). -/
def openedJcu (start : Nat) (route : Route) (c : Jcu) : Jcu :=
  { c with
    journey := some { closing := false, route := route, epoch := 1, position := .atStop start }
    number := (c.number + 1) % 65536
    staging := .empty, delay := 0, carriage := 1, cls := .second, closeAtArrival := false }

theorem answerJourneyOpen_wrongState {body : List Byte} {s : State}
    (h : s.jcu.journey.isSome = true ∨ s.jcu.clock.isSet = false ∨ ∀ r, s.jcu.staging ≠ .armed r) :
    answerJourneyOpen body s = refuse .wrongState s := by
  rcases h with hj | hc | hst
  · simp [answerJourneyOpen, hj]
  · simp [answerJourneyOpen, hc]
  · cases hs : s.jcu.staging with
    | armed r => exact absurd hs (hst r)
    | empty => simp [answerJourneyOpen, hs]
    | filling => simp [answerJourneyOpen, hs]

theorem answerJourneyOpen_badField {body : List Byte} {s : State} {r : Route} {start : Nat}
    (hf : fieldAt body 0 1 = start) (hj : s.jcu.journey = none) (hc : s.jcu.clock.isSet = true)
    (hst : s.jcu.staging = .armed r) (hl : r.stops.length < start + 2) :
    answerJourneyOpen body s = refuse .badField s := by
  simp [answerJourneyOpen, hf, hj, hc, hst, hl]

/-- JOURNEY-OPEN taken by the unit: the journey on the staged route, and its JOURNEY-START record (R24). -/
theorem answerJourneyOpen_opens {body : List Byte} {s : State} {r : Route} {start : Nat}
    (hf : fieldAt body 0 1 = start) (hj : s.jcu.journey = none) (hc : s.jcu.clock.isSet = true)
    (hst : s.jcu.staging = .armed r) (hl : start + 2 ≤ r.stops.length) :
    answerJourneyOpen body s = okReply (u16 ((s.jcu.number + 1) % 65536))
      (journal (.journeyStart ((s.jcu.number + 1) % 65536) r.service r.dayStart r.stops.length (r.stop start).code)
        (withJcu (openedJcu start r s.jcu) s)) := by
  simp [answerJourneyOpen, hf, hj, hc, hst, Nat.not_lt.2 hl, openedJcu]

/-! ### JOURNEY-CLOSE -/

theorem journeyOpen_eq_false {s : State} (h : ∀ j, s.jcu.journey = some j → j.closing = true) :
    journeyOpen s = false := by
  cases hj : s.jcu.journey with
  | none => simp [journeyOpen, hj]
  | some j => simp [journeyOpen, hj, h j hj]

theorem journeyOpen_eq_true {s : State} {j : Running} (hj : s.jcu.journey = some j) (ho : j.closing = false) :
    journeyOpen s = true := by
  simp [journeyOpen, hj, ho]

/-- The journey context in CLOSING, an armed staged route aside (R38). -/
def closingJcu (j : Running) (c : Jcu) : Jcu :=
  { c with journey := some { j with closing := true }, closeAtArrival := false }

/-- Entering CLOSING with no armed staged route (R38). -/
theorem enterClosing_unarmed {s : State} {j : Running} (hj : s.jcu.journey = some j)
    (hst : ∀ r, s.jcu.staging ≠ .armed r) : enterClosing s = withJcu (closingJcu j s.jcu) s := by
  cases hs : s.jcu.staging with
  | armed r => exact absurd hs (hst r)
  | empty => simp [enterClosing, hj, hs, closingJcu]
  | filling => simp [enterClosing, hj, hs, closingJcu]

/-- Entering CLOSING discards an armed staged route (R38). -/
theorem enterClosing_armed {s : State} {j : Running} {r : Route} (hj : s.jcu.journey = some j)
    (hst : s.jcu.staging = .armed r) :
    enterClosing s = sendWaiting (.routeDiscarded .closing r.service)
      (withJcu (closingJcu j { s.jcu with staging := .empty }) s) := by
  simp [enterClosing, hj, hst, closingJcu, discardNotice_eq_sendWaiting]

theorem answerJourneyClose_wrongState {body : List Byte} {s : State} (h : journeyOpen s = false) :
    answerJourneyClose body s = refuse .wrongState s := by
  simp [answerJourneyClose, h]

theorem answerJourneyClose_now {body : List Byte} {s : State} (h : journeyOpen s = true) (hm : fieldAt body 0 1 = 1) :
    answerJourneyClose body s = okReply [] (enterClosing s) := by
  simp [answerJourneyClose, h, hm]

theorem answerJourneyClose_atArrival {body : List Byte} {s : State} (h : journeyOpen s = true)
    (hm : fieldAt body 0 1 = 2) :
    answerJourneyClose body s = okReply [] (withJcu { s.jcu with closeAtArrival := true } s) := by
  simp [answerJourneyClose, h, hm]

/-- A mode other than NOW and AT-ARRIVAL is refused (R37). -/
theorem answerJourneyClose_badField {body : List Byte} {s : State} (h : journeyOpen s = true)
    (h1 : fieldAt body 0 1 ≠ 1) (h2 : fieldAt body 0 1 ≠ 2) : answerJourneyClose body s = refuse .badField s := by
  simp [answerJourneyClose, h]

/-! ### The statement -/

/-- Settles O18: by the branches of the two requests, tested in the order of R24 and R37; the order of the reply and the
notices is that of `takeRequest_journal` and `takeRequest_sendWaiting`. -/
theorem journeysOpenAndClose : Obligations.JourneysOpenAndClose := by
  refine ⟨fun tag rest start s hlt hr => ⟨fun h => ?_, fun r hj hc hst => ⟨fun hl => ?_, fun hl => ?_⟩⟩,
    fun tag rest mode s hlt hr => ⟨fun h => ?_, fun j hj ho => ?_⟩⟩
  · exact congrArg Host.Outcome.next (takeRequest_refuse hr rfl rfl (answerJourneyOpen_wrongState h))
  · have ha := answerJourneyOpen_badField (s := reserveSlot rest s) (fieldAt_u8 hlt) hj hc hst hl
    exact congrArg Host.Outcome.next (takeRequest_refuse hr rfl rfl ha)
  · have ha := answerJourneyOpen_opens (s := reserveSlot rest s) (fieldAt_u8 hlt) hj hc hst hl
    exact congrArg Host.Outcome.next (takeRequest_journal (t := withJcu (openedJcu start r s.jcu) s) hr rfl rfl rfl ha)
  · have hclosed : journeyOpen (reserveSlot rest s) = false := journeyOpen_eq_false h
    exact congrArg Host.Outcome.next (takeRequest_refuse hr rfl rfl (answerJourneyClose_wrongState hclosed))
  have hf := fieldAt_u8 hlt
  have hopen : journeyOpen (reserveSlot rest s) = true := journeyOpen_eq_true hj ho
  have hnow (hm : mode = 1) := answerJourneyClose_now hopen (hf.trans hm)
  refine ⟨fun h1 h2 => ?_, fun h2 => ?_, fun h1 hst => ?_, fun h1 r hst => ?_⟩
  · have ha := answerJourneyClose_badField hopen (by rwa [hf]) (by rwa [hf])
    exact congrArg Host.Outcome.next (takeRequest_refuse hr rfl rfl ha)
  · have ha := answerJourneyClose_atArrival hopen (hf.trans h2)
    exact congrArg Host.Outcome.next (takeRequest_quiet (t := withJcu _ s) hr rfl rfl ha rfl)
  · have ha := (hnow h1).trans (congrArg (okReply []) (enterClosing_unarmed hj hst))
    exact congrArg Host.Outcome.next (takeRequest_quiet (t := withJcu _ s) hr rfl rfl ha rfl)
  · have ha := (hnow h1).trans (congrArg (okReply []) (enterClosing_armed hj hst))
    have ht := takeRequest_sendWaiting (t := withJcu (closingJcu j { s.jcu with staging := .empty }) s) hr rfl rfl rfl ha
    exact congrArg Host.Outcome.next ht

end Sys2Proof.Machine
end

section
/-! STOP-DEPART (R26 to R28). -/

namespace Sys2Proof.Machine

/-! ### Departure and the staged route -/

/-- The journey context after the departure from stop `k` of the active route: RUNNING(k), with the delay of R28. -/
def departedJcu (j : Running) (k : Nat) (c : Jcu) : Jcu :=
  { c with
    journey := some { j with position := .running k }
    delay := departureDelay c.clock.seconds j.route.dayStart (j.route.stop k).planned }

theorem depart_eq {s : State} {j : Running} (hj : s.jcu.journey = some j) (k : Nat) :
    depart k s = withJcu (departedJcu j k s.jcu) s := by
  simp [depart, hj, departedJcu]

theorem departFields_departed (j : Running) (k : Nat) (s : State) :
    departFields (withJcu (departedJcu j k s.jcu) s) =
      u8 k ++ (u16 j.epoch ++ i16 (departureDelay s.jcu.clock.seconds j.route.dayStart (j.route.stop k).planned)) := by
  simp [departFields, departedJcu, Position.index]

/-- Without an armed staged route the departure is from the active route as it is (R26). -/
theorem tryStaged_unarmed {s : State} (hst : ∀ r, s.jcu.staging ≠ .armed r) (j : Running) (k : Nat) :
    tryStaged j k s = (s, k) := by
  cases hs : s.jcu.staging with
  | armed r => exact absurd hs (hst r)
  | empty => simp [tryStaged, hs]
  | filling => simp [tryStaged, hs]

theorem Route.indexOf?_eq_none {r : Route} {code : Nat} (h : ∀ st ∈ r.stops, st.code ≠ code) :
    r.indexOf? code = none := by
  simpa [Route.indexOf?] using h

section
variable {s : State} {j : Running} {r : Route} {k k' : Nat}

/-- A staged route without the stop is discarded, STOP-ABSENT (R27). -/
theorem tryStaged_absent (hst : s.jcu.staging = .armed r) (hi : r.indexOf? (j.route.stop k).code = none) :
    tryStaged j k s =
      (sendWaiting (.routeDiscarded .stopAbsent r.service) (withJcu { s.jcu with staging := .empty } s), k) := by
  simp [tryStaged, hst, hi, discardNotice_eq_sendWaiting]

/-- A staged route that has the stop last is discarded, AT-END (R27). -/
theorem tryStaged_atEnd (hst : s.jcu.staging = .armed r) (hi : r.indexOf? (j.route.stop k).code = some k')
    (hl : r.stops.length < k' + 2) :
    tryStaged j k s =
      (sendWaiting (.routeDiscarded .atEnd r.service) (withJcu { s.jcu with staging := .empty } s), k) := by
  simp [tryStaged, hst, hi, Nat.not_le.2 hl, discardNotice_eq_sendWaiting]

/-- The journey context with the staged route applied (R27). -/
def appliedJcu (j : Running) (r : Route) (c : Jcu) : Jcu :=
  { c with staging := .empty, journey := some { j with route := r, epoch := nextEpoch j.epoch } }

/-- A staged route that has a section after the stop is applied, and the departure is from its index there (R27). -/
theorem tryStaged_applies (hst : s.jcu.staging = .armed r) (hi : r.indexOf? (j.route.stop k).code = some k')
    (hl : k' + 2 ≤ r.stops.length) :
    tryStaged j k s =
      (journal (.routeChange s.jcu.number j.epoch (nextEpoch j.epoch) j.route.service r.service (j.route.stop k).code)
        (sendWaiting (.routeApplied (nextEpoch j.epoch) r.service (j.route.stop k).code k k')
          (withJcu (appliedJcu j r s.jcu) s)), k') := by
  simp [tryStaged, hst, hi, hl, applyRoute, appliedJcu, sendWaiting, withLif]

end

/-! ### The request -/

section
variable {body : List Byte} {s : State} {j : Running} {k : Nat}

theorem answerStopDepart_wrongState
    (h : ∀ j, s.jcu.journey = some j → j.closing = true ∨ ∃ i, j.position = .running i) :
    answerStopDepart body s = refuse .wrongState s := by
  cases hj : s.jcu.journey with
  | none => simp [answerStopDepart, hj]
  | some j =>
    rcases h j hj with hc | ⟨i, hp⟩
    · simp [answerStopDepart, hj, hc]
    · simp [answerStopDepart, hj, hp]

theorem answerStopDepart_badField {i : Nat} (hf : fieldAt body 0 1 = k) (hj : s.jcu.journey = some j)
    (ho : j.closing = false) (hp : j.position = .atStop i) (hb : k ≠ i ∨ j.route.stops.length < k + 2) :
    answerStopDepart body s = refuse .badField s := by
  simp [answerStopDepart, hf, hj, ho, hp, hb]

/-- STOP-DEPART taken: the departure from the stop on the route that the trial of the staged one leaves active (R26). -/
theorem answerStopDepart_departs {t : State} {j' : Running} {k' : Nat} (hf : fieldAt body 0 1 = k)
    (hj : s.jcu.journey = some j) (ho : j.closing = false) (hp : j.position = .atStop k)
    (hl : k + 2 ≤ j.route.stops.length) (ht : tryStaged j k s = (t, k')) (hj' : t.jcu.journey = some j') :
    answerStopDepart body s =
      okReply (u8 k' ++ (u16 j'.epoch ++
          i16 (departureDelay t.jcu.clock.seconds j'.route.dayStart (j'.route.stop k').planned)))
        (withJcu (departedJcu j' k' t.jcu) t) := by
  simp [answerStopDepart, hf, hj, ho, hp, Nat.not_lt.2 hl, ht, depart_eq hj', departFields_departed]

end

/-! ### The delay -/

/-- The delay is the floor in minutes of the clock less the planned departure, held to -60 to 720 (R28). -/
theorem departureDelay_eq_clamp {seconds dayStart planned : Nat} {minutes : Int}
    (hlow : 60 * minutes ≤ (seconds : Int) - ((dayStart : Int) + planned) * 60)
    (hhigh : (seconds : Int) - ((dayStart : Int) + planned) * 60 < 60 * (minutes + 1)) :
    departureDelay seconds dayStart planned = clampInt (-60) 720 minutes := by
  have hfloor : ((seconds : Int) - ((dayStart : Int) + planned) * 60) / 60 = minutes := by omega
  rw [departureDelay, hfloor]

/-! ### The statement -/

section
variable {tag : Byte} {rest : List RequestFrame} {k : Nat} {s : State} {j : Running}

/-- A departure on the active route: the reply alone (R26). -/
theorem exec_stopDepart_unarmed (hr : Ready 0x19 tag (u8 k) rest s) (hlt : k < 256) (hj : s.jcu.journey = some j)
    (ho : j.closing = false) (hp : j.position = .atStop k) (hl : k + 2 ≤ j.route.stops.length)
    (hst : ∀ r, s.jcu.staging ≠ .armed r) :
    exec .stopDepart s = .next ((withJcu (departedJcu j k s.jcu) s).answered 0x59 tag
      (0 :: (u8 k ++ (u16 j.epoch ++
        i16 (departureDelay s.jcu.clock.seconds j.route.dayStart (j.route.stop k).planned)))) rest) := by
  have ht := tryStaged_unarmed (s := reserveSlot rest s) hst j k
  have ha := answerStopDepart_departs (s := reserveSlot rest s) (fieldAt_u8 hlt) hj ho hp hl ht hj
  exact congrArg Host.Outcome.next (takeRequest_quiet (t := withJcu (departedJcu j k s.jcu) s) hr rfl rfl ha rfl)

/-- A departure that discards the armed staged route: ROUTE-DISCARDED after the reply (R26, R27). -/
theorem exec_stopDepart_discards {cause : DiscardCause} {r : Route} (hr : Ready 0x19 tag (u8 k) rest s) (hlt : k < 256)
    (hj : s.jcu.journey = some j) (ho : j.closing = false) (hp : j.position = .atStop k)
    (hl : k + 2 ≤ j.route.stops.length)
    (ht : tryStaged j k (reserveSlot rest s) = (sendWaiting (.routeDiscarded cause r.service)
      (withJcu { s.jcu with staging := .empty } (reserveSlot rest s)), k)) :
    exec .stopDepart s = .next (sendWaiting (.routeDiscarded cause r.service)
      ((withJcu (departedJcu j k { s.jcu with staging := .empty }) s).answered 0x59 tag
        (0 :: (u8 k ++ (u16 j.epoch ++
          i16 (departureDelay s.jcu.clock.seconds j.route.dayStart (j.route.stop k).planned)))) rest)) := by
  have ha := answerStopDepart_departs (s := reserveSlot rest s) (fieldAt_u8 hlt) hj ho hp hl ht hj
  exact congrArg Host.Outcome.next (takeRequest_sendWaiting
    (t := withJcu (departedJcu j k { s.jcu with staging := .empty }) s) hr rfl rfl rfl ha)

/-- A departure that applies the armed staged route: after the reply ROUTE-APPLIED, then the notices of the ROUTE-CHANGE
record (R26, R27). -/
theorem exec_stopDepart_applies {r : Route} {k' : Nat} (hr : Ready 0x19 tag (u8 k) rest s) (hlt : k < 256)
    (hj : s.jcu.journey = some j) (ho : j.closing = false) (hp : j.position = .atStop k)
    (hl : k + 2 ≤ j.route.stops.length) (hst : s.jcu.staging = .armed r)
    (hi : r.indexOf? (j.route.stop k).code = some k') (hl' : k' + 2 ≤ r.stops.length) :
    exec .stopDepart s = .next
      (journal (.routeChange s.jcu.number j.epoch (nextEpoch j.epoch) j.route.service r.service (j.route.stop k).code)
        (sendWaiting (.routeApplied (nextEpoch j.epoch) r.service (j.route.stop k).code k k')
          ((withJcu (departedJcu { j with route := r, epoch := nextEpoch j.epoch } k' (appliedJcu j r s.jcu)) s).answered
            0x59 tag (0 :: (u8 k' ++ (u16 (nextEpoch j.epoch) ++
              i16 (departureDelay s.jcu.clock.seconds r.dayStart (r.stop k').planned)))) rest))) := by
  have ht := tryStaged_applies (s := reserveSlot rest s) hst hi hl'
  have ha := answerStopDepart_departs (s := reserveSlot rest s) (fieldAt_u8 hlt) hj ho hp hl ht rfl
  rw [withJcu_journal] at ha
  · exact congrArg Host.Outcome.next (takeRequest_journal_sendWaiting
      (t := withJcu (departedJcu { j with route := r, epoch := nextEpoch j.epoch } k' (appliedJcu j r s.jcu)) s)
      hr rfl rfl rfl ha)
  · rfl

end

/-- Settles O22: the refusals and the departures by the branches of R26 and of the trial of the staged route (R27), and the
delay by the bounds of the floor (R28). -/
theorem stopDepartRunsOrChangesRoute : Obligations.StopDepartRunsOrChangesRoute := by
  refine ⟨fun tag rest k s hlt hr => ⟨fun h => ?_, fun j i hj ho hp => ⟨fun hb => ?_, ?_⟩⟩,
    fun seconds dayStart planned minutes hlow hhigh => ?_⟩
  · exact congrArg Host.Outcome.next (takeRequest_refuse hr rfl rfl (answerStopDepart_wrongState h))
  · have ha := answerStopDepart_badField (s := reserveSlot rest s) (fieldAt_u8 hlt) hj ho hp hb
    exact congrArg Host.Outcome.next (takeRequest_refuse hr rfl rfl ha)
  · rintro rfl hl
    refine ⟨fun hst => ?_, fun r hst habsent => ?_, fun r k' hst hi => ⟨fun hl' => ?_, fun hl' => ?_⟩⟩
    · exact exec_stopDepart_unarmed hr hlt hj ho hp hl hst
    · exact exec_stopDepart_discards hr hlt hj ho hp hl (tryStaged_absent hst (Route.indexOf?_eq_none habsent))
    · exact exec_stopDepart_discards hr hlt hj ho hp hl (tryStaged_atEnd hst hi hl')
    · exact exec_stopDepart_applies hr hlt hj ho hp hl hst hi hl'
  · rw [departureDelay_eq_clamp hlow hhigh]
    unfold clampInt
    omega

end Sys2Proof.Machine
end

section
/-! The screening lookup (R44, R53). -/

namespace Sys2Proof.Machine

/-! ### The exact list, searched by the whole key -/

theorem findListed_eq_none {key : CredKey} {l : List ListEntry} (h : ∀ e ∈ l, e.key ≠ key) :
    findListed key l = none := by
  simpa [findListed] using h

/-- Where the list holds an entry of the key, that entry is found: none before it has its key (R49, R53). -/
theorem findListed_eq_some {l : List ListEntry} (hd : l.Pairwise (fun a b => a.key ≠ b.key)) {e : ListEntry}
    (he : e ∈ l) : findListed e.key l = some e := by
  unfold findListed
  induction l with
  | nil => cases he
  | cons d ds ih =>
    obtain ⟨hfirst, hds⟩ := List.pairwise_cons.1 hd
    rcases List.mem_cons.1 he with rfl | hmem
    · exact List.find?_cons_of_pos (beq_self_eq_true _)
    · rw [List.find?_cons_of_neg (by simpa only [beq_iff_eq] using hfirst e hmem)]
      exact ih hds hmem

/-! ### The screen -/

/-- The screen hits exactly when both probed bits are set (R44). -/
theorem ScreenImage.hits_iff {img : ScreenImage} {serial : Nat} :
    img.hits serial = true ↔
      img.imageBit (probe1 img.offset serial) = true ∧ img.imageBit (probe2 img.offset serial) = true :=
  Bool.and_eq_true_iff

/-! ### The lookup -/

theorem screenFinding_revoke {key : CredKey} {r : Rsu} {e : ListEntry} (h : findListed key r.list = some e)
    (ha : e.action = .revoke) : screenFinding key r = some .revoked := by
  simp [screenFinding, h, ha]

theorem screenFinding_clear {key : CredKey} {r : Rsu} {e : ListEntry} (h : findListed key r.list = some e)
    (ha : e.action = .clear) : screenFinding key r = none := by
  simp [screenFinding, h, ha]

theorem screenFinding_unlisted {key : CredKey} {r : Rsu} (h : findListed key r.list = none) :
    screenFinding key r = if r.active.hits key.serial = true then some .screenHit else none := by
  simp [screenFinding, h]

/-- Settles O28: the entry of a key is the only one of that key, so it is the one found and its action decides; where none
is found, the screen decides by the two probed bits. -/
theorem screeningLookup : Obligations.ScreeningLookup := by
  refine fun key r hd => ⟨fun e he hk ha => ?_, fun e he hk ha => ?_, fun hnone => ?_⟩
  · exact screenFinding_revoke (hk ▸ findListed_eq_some hd he) ha
  · exact screenFinding_clear (hk ▸ findListed_eq_some hd he) ha
  · rw [screenFinding_unlisted (findListed_eq_none hnone)]
    exact ite_congr (propext ScreenImage.hits_iff) (fun _ => rfl) (fun _ => rfl)

end Sys2Proof.Machine
end

section
/-! FILTER-BEGIN, FILTER-SEGMENT and FILTER-COMMIT (R46 to R48). -/

namespace Sys2Proof.Machine

/-! ### The set of received segments -/

theorem mem_insertIndex {i k : Nat} {l : List Nat} : k ∈ insertIndex i l ↔ k = i ∨ k ∈ l := by
  induction l with
  | nil => simp [insertIndex]
  | cons j js ih =>
    unfold insertIndex
    split
    · exact List.mem_cons
    split
    next hij => simp [hij]
    · rw [List.mem_cons, ih, List.mem_cons]
      exact or_left_comm

/-- An index that a rising list does not hold makes it one longer; one that it holds leaves its length. -/
theorem length_insertIndex {i : Nat} {l : List Nat} (h : l.Pairwise (fun a b => a < b)) :
    (insertIndex i l).length = if i ∈ l then l.length else l.length + 1 := by
  induction l with
  | nil => simp [insertIndex]
  | cons j js ih =>
    obtain ⟨hj, hjs⟩ := List.pairwise_cons.1 h
    unfold insertIndex
    split
    next hlt =>
      have hnot : i ∉ j :: js := by
        intro hmem
        rcases List.mem_cons.1 hmem with rfl | hmem
        · omega
        · have := hj i hmem
          omega
      simp [hnot]
    split
    next hij => simp [hij]
    next hne =>
      rw [List.length_cons, ih hjs]
      simp only [List.mem_cons, hne, false_or, List.length_cons]
      split <;> rfl

theorem receivedCount_eq (p : Option PendingImage) :
    receivedCount p = (p.map (fun p => p.received.length)).getD 0 := by
  cases p <;> rfl

/-! ### The bits of an image (R43) -/

theorem bitAt_replicate_zero (n i : Nat) : bitAt (List.replicate n 0) i = false := by
  have hbyte : (List.replicate n (0 : Byte)).getD (i / 8) 0 = 0 := by
    rw [List.getD_eq_getElem?_getD, List.getElem?_replicate]
    split <;> rfl
  rw [bitAt, hbyte]
  exact BitVec.getMsbD_zero

/-- Every bit of an image with no bit set is clear. -/
theorem imageBit_zeroSegments {img : ScreenImage} {b : Nat} (h : img.segments = ScreenImage.zeroSegments)
    (hb : b < 8192) : img.imageBit b = false := by
  have hseg : (ScreenImage.zeroSegments[b / 256]?).getD [] = List.replicate 32 0 := by
    rw [ScreenImage.zeroSegments, Vector.getElem?_replicate, if_pos (by omega), Option.getD_some]
  rw [ScreenImage.imageBit, h, hseg, bitAt_replicate_zero]

/-- A stored segment gives the bits of its index; the others keep theirs (R47). -/
theorem imageBit_store {p : PendingImage} {index b : Nat} {bits : List Byte} (hi : index ≤ 31) :
    (p.store index bits).image.imageBit b =
      if b / 256 = index then bitAt bits (b % 256) else p.image.imageBit b := by
  unfold ScreenImage.imageBit PendingImage.store
  split
  next heq => simp [heq, show index < 32 by omega]
  next hne => simp [Vector.getElem?_setIfInBounds_ne (Ne.symm hne)]

/-! ### The three handlings -/

/-- The first byte of a body reads as the number it was made from. -/
theorem fieldAt_u8_append {n : Nat} (y : List Byte) (h : n < 256) : fieldAt (u8 n ++ y) 0 1 = n := by
  rw [fieldAt_first y (u8_length n), beNat_u8, Nat.mod_eq_of_lt h]

/-- The pending image as it is begun: no bit set and no segment received (R46). -/
def begunImage (generation offset : Nat) : PendingImage :=
  { image := { segments := ScreenImage.zeroSegments, generation := generation, offset := offset }, received := [] }

section
variable {body bits : List Byte} {s : State} {generation offset index : Nat} {p : PendingImage}

theorem answerFilterBegin_badField (ho : fieldAt body 4 1 = offset) (h : 3 < offset) :
    answerFilterBegin body s = refuse .badField s := by
  simp [answerFilterBegin, ho, h]

theorem answerFilterBegin_begins (hg : fieldAt body 0 4 = generation) (ho : fieldAt body 4 1 = offset)
    (h : offset ≤ 3) :
    answerFilterBegin body s = okReply (u8 (receivedCount s.rsu.pendingImage))
      (withRsu { s.rsu with pendingImage := some (begunImage generation offset) } s) := by
  simp [answerFilterBegin, hg, ho, Nat.not_lt.2 h, begunImage]

theorem answerFilterSegment_wrongState (hp : s.rsu.pendingImage = none) :
    answerFilterSegment body s = refuse .wrongState s := by
  simp [answerFilterSegment, hp]

theorem answerFilterSegment_badField (hi : fieldAt body 0 1 = index) (hp : s.rsu.pendingImage = some p)
    (h : 31 < index) : answerFilterSegment body s = refuse .badField s := by
  simp [answerFilterSegment, hi, hp, h]

theorem answerFilterSegment_stores (hi : fieldAt body 0 1 = index) (hb : body.drop 1 = bits)
    (hp : s.rsu.pendingImage = some p) (h : index ≤ 31) :
    answerFilterSegment body s = okReply (u8 (p.store index bits).received.length)
      (withRsu { s.rsu with pendingImage := some (p.store index bits) } s) := by
  simp [answerFilterSegment, hi, hb, hp, Nat.not_lt.2 h]

/-- With no pending image, or one that has not received all its segments, there is nothing to commit (R48). -/
theorem answerFilterCommit_wrongState (h : ∀ p, s.rsu.pendingImage = some p → p.received.length < 32) :
    answerFilterCommit body s = refuse .wrongState s := by
  cases hp : s.rsu.pendingImage with
  | none => simp [answerFilterCommit, hp]
  | some p => simp [answerFilterCommit, hp, h p hp]

theorem answerFilterCommit_commits (hp : s.rsu.pendingImage = some p) (h : p.received.length = 32) :
    answerFilterCommit body s = okReply (u32 s.rsu.active.generation ++ u32 p.image.generation)
      (withRsu { s.rsu with active := p.image, pendingImage := none } s) := by
  simp [answerFilterCommit, hp, h]

end

/-! ### The statement -/

/-- A ready request whose handling changes the screening unit alone: the unit as it is left, and the OK reply (R157). -/
theorem takeRequest_withRsu {kind : Nat} {k tag : Byte} {body fields : List Byte} {rest : List RequestFrame}
    {h : List Byte → State → Answer} {s : State} {r : Rsu} (hr : Ready k tag body rest s) (hk : k.toNat = kind)
    (hs : sizeOk kind body = true)
    (ha : h body (reserveSlot rest s) = okReply fields (withRsu r (reserveSlot rest s))) :
    takeRequest kind h s =
      ({ s with rsu := r } : State).answered (BitVec.ofNat 8 (kind + 0x40)) tag (0 :: fields) rest :=
  takeRequest_quiet (t := withRsu r s) hr hk hs ha rfl

section
variable {tag : Byte} {rest : List RequestFrame} {s : State}

/-- FILTER-BEGIN on every offset (R46). -/
theorem exec_filterBegin {generation offset : Nat} (hg : generation < 4294967296) (ho : offset < 256)
    (hr : Ready 0x24 tag (u32 generation ++ u8 offset) rest s) :
    exec .filterBegin s = .next
      (if 3 < offset then s.answered 0x64 tag [3] rest
      else ({ s with rsu := { s.rsu with pendingImage := some (begunImage generation offset) } } : State).answered
        0x64 tag (0 :: u8 (receivedCount s.rsu.pendingImage)) rest) := by
  have hfg : fieldAt (u32 generation ++ u8 offset) 0 4 = generation := by
    rw [fieldAt_first _ (u32_length _), beNat_u32, Nat.mod_eq_of_lt hg]
  have hfo : fieldAt (u32 generation ++ u8 offset) 4 1 = offset :=
    (fieldAt_after (Nat.le_of_eq (u32_length _))).trans (fieldAt_u8 ho)
  split
  next h => exact congrArg Host.Outcome.next (takeRequest_refuse hr rfl rfl (answerFilterBegin_badField hfo h))
  next h =>
    have ha := answerFilterBegin_begins (s := reserveSlot rest s) hfg hfo (Nat.not_lt.1 h)
    exact congrArg Host.Outcome.next (takeRequest_withRsu hr rfl rfl ha)

theorem sizeOk_filterSegment {index : Nat} {bits : List Byte} (hb : bits.length = 32) :
    sizeOk 0x25 (u8 index ++ bits) = true := by
  have hl : (u8 index ++ bits).length = 33 := by simp [hb]
  rw [sizeOk, hl]
  rfl

theorem exec_filterCommit_wrongState (hr : Ready 0x26 tag [] rest s)
    (h : ∀ p, s.rsu.pendingImage = some p → p.received.length < 32) :
    exec .filterCommit s = .next (s.answered 0x66 tag [2] rest) :=
  congrArg Host.Outcome.next
    (takeRequest_refuse hr rfl rfl (answerFilterCommit_wrongState (s := reserveSlot rest s) h))

end

/-- Settles O26: by the branches of the three requests, tested in the order of R46 to R48. The count of received segments
needs the pending image in order (`Rsu.ok`): its received indices rise, so an index is counted once. -/
theorem screenImageIsLoaded : Obligations.ScreenImageIsLoaded := by
  rintro tag rest s ⟨-, hpending, -⟩
  refine ⟨fun generation offset hg ho hr => ⟨fun h => ?_, fun h => ⟨begunImage generation offset, ?_, rfl, rfl, rfl, ?_⟩⟩,
    fun index bits hlt hlen hr => ⟨fun hp => ?_, fun p hp h => ?_, fun p hp h => ?_⟩,
    fun hr => ⟨fun hp => ?_, fun p hp h => ?_, fun p hp h => ?_⟩⟩
  · rw [exec_filterBegin hg ho hr, if_pos h]
  · rw [exec_filterBegin hg ho hr, if_neg (Nat.not_lt.2 h), receivedCount_eq]
  · exact fun b hb => imageBit_zeroSegments rfl hb
  · have ha := answerFilterSegment_wrongState (body := u8 index ++ bits) (s := reserveSlot rest s) hp
    exact congrArg Host.Outcome.next (takeRequest_refuse hr rfl (sizeOk_filterSegment hlen) ha)
  · have hi := fieldAt_u8_append bits hlt
    have ha := answerFilterSegment_badField (s := reserveSlot rest s) hi hp h
    exact congrArg Host.Outcome.next (takeRequest_refuse hr rfl (sizeOk_filterSegment hlen) ha)
  · have hi := fieldAt_u8_append bits hlt
    have ha := answerFilterSegment_stores (bits := bits) (s := reserveSlot rest s) hi rfl hp h
    obtain ⟨-, hrising, -⟩ := hpending p hp
    exact ⟨p.store index bits,
      congrArg Host.Outcome.next (takeRequest_withRsu hr rfl (sizeOk_filterSegment hlen) ha),
      rfl, rfl, fun i => mem_insertIndex, length_insertIndex hrising, fun b _ => imageBit_store h⟩
  · exact exec_filterCommit_wrongState hr (by simp [hp])
  · exact exec_filterCommit_wrongState hr (by rintro q hq; cases hp.symm.trans hq; exact h)
  · have ha := answerFilterCommit_commits (body := []) (s := reserveSlot rest s) hp h
    exact congrArg Host.Outcome.next (takeRequest_withRsu hr rfl rfl ha)

end Sys2Proof.Machine
end

section
/-! Coverage and time judgements (R65 to R69): where a code stands on a route, what each kind of credential and a paid span
cover, and the findings of COVERAGE and TIME. -/

namespace Sys2Proof.Machine

/-! ### Stops and their codes -/

theorem Route.stop_eq_of_getElem? {r : Route} {k : Nat} {st : Stop} (h : r.stops[k]? = some st) : r.stop k = st := by
  simp [Route.stop, List.getD_eq_getElem?_getD, h]

/-- Codes are distinct (R22), so no stop before index k has the code of stop k, and the search ends there. -/
theorem Route.indexOf?_eq_some {r : Route} {k : Nat} {st : Stop} (hr : r.stops.Pairwise (fun p q => p.code ≠ q.code))
    (h : r.stops[k]? = some st) : r.indexOf? st.code = some k := by
  obtain ⟨hk, rfl⟩ := List.getElem?_eq_some_iff.1 h
  refine List.findIdx?_eq_some_iff_getElem.2 ⟨hk, beq_self_eq_true _, fun j hj => ?_⟩
  have hne := List.pairwise_iff_getElem.1 hr j k (Nat.lt_trans hj hk) hk hj
  simpa using hne

theorem Route.hasArea_eq_false_iff {r : Route} {area : Nat} :
    r.hasArea area = false ↔ ∀ st ∈ r.stops, st.area ≠ area := by
  simp [Route.hasArea]

theorem Route.hasArea_of_getElem? {r : Route} {i : Nat} {st : Stop} (h : r.stops[i]? = some st) :
    r.hasArea st.area = true :=
  List.any_eq_true.2 ⟨st, List.mem_of_getElem? h, beq_self_eq_true _⟩

/-! ### Placing and coverage by kind (R66, R67) -/

@[simp] theorem sectionWithin_iff {lo hi i : Nat} : sectionWithin lo hi i = true ↔ lo ≤ i ∧ i + 1 ≤ hi := by
  simp [sectionWithin]

/-- A credential off the route covers no section by kind (R67). -/
theorem coveredByKind_of_offRoute {k : KindPart} {r : Route} (h : offRoute k r = true) (i : Nat) :
    coveredByKind k r i = false := by
  simp [coveredByKind, h]

@[simp] theorem coveredByPaid_none (r : Route) (i : Nat) : coveredByPaid none r i = false := rfl

theorem covered_iff {k : KindPart} {paid : Option (Nat × Nat)} {r : Route} {i : Nat} :
    covered k paid r i = true ↔ coveredByKind k r i = true ∨ coveredByPaid paid r i = true :=
  Bool.or_eq_true_iff

section
variable {r : Route} {o d io id : Nat} (ho : r.indexOf? o = some io) (hd : r.indexOf? d = some id)
include ho hd

theorem offRoute_single_iff : offRoute (.single o d) r = true ↔ id < io := by
  simp [offRoute, ho, hd]

theorem offRoute_returnTrip : offRoute (.returnTrip o d) r = false := by
  simp [offRoute, ho, hd]

/-- A section inside the stops io to id leaves io below id, so the credential is placed. -/
theorem coveredByKind_single_iff {i : Nat} : coveredByKind (.single o d) r i = true ↔ io ≤ i ∧ i + 1 ≤ id := by
  simp only [coveredByKind, offRoute, ho, hd, Bool.and_eq_true, Bool.not_eq_true', decide_eq_false_iff_not,
    sectionWithin_iff]
  omega

theorem coveredByKind_returnTrip_iff {i : Nat} :
    coveredByKind (.returnTrip o d) r i = true ↔ min io id ≤ i ∧ i + 1 ≤ max io id := by
  simp only [coveredByKind, offRoute_returnTrip ho hd, ho, hd, Bool.not_false, Bool.true_and, sectionWithin_iff]

theorem coveredByPaid_some_iff {i : Nat} : coveredByPaid (some (o, d)) r i = true ↔ io ≤ i ∧ i + 1 ≤ id := by
  simp only [coveredByPaid, ho, hd, sectionWithin_iff]

end

section
variable {r : Route} {o d : Nat} (h : r.indexOf? o = none ∨ r.indexOf? d = none)
include h

theorem offRoute_single_absent : offRoute (.single o d) r = true := by
  rcases h with h | h <;> simp [offRoute, h]

theorem offRoute_returnTrip_absent : offRoute (.returnTrip o d) r = true := by
  rcases h with h | h <;> simp [offRoute, h]

theorem coveredByPaid_absent (i : Nat) : coveredByPaid (some (o, d)) r i = false := by
  rcases h with h | h <;> simp [coveredByPaid, h]

end

theorem offRoute_area_iff {r : Route} {area : Nat} :
    offRoute (.area area) r = true ↔ ∀ st ∈ r.stops, st.area ≠ area := by
  simp [offRoute, Route.hasArea_eq_false_iff]

theorem offRoute_zones_iff {r : Route} {area : Nat} {zones : List Nat} :
    offRoute (.zones area zones) r = true ↔ ∀ st ∈ r.stops, st.area ≠ area :=
  offRoute_area_iff

section
variable {r : Route} {area i : Nat} {p q : Stop} (hp : r.stops[i]? = some p) (hq : r.stops[i + 1]? = some q)
include hp hq

/-- The stops of a section in the area place the credential themselves (R66). -/
theorem coveredByKind_area_iff : coveredByKind (.area area) r i = true ↔ p.area = area ∧ q.area = area := by
  simp only [coveredByKind, offRoute, Route.stop_eq_of_getElem? hp, Route.stop_eq_of_getElem? hq, Bool.not_not,
    Bool.and_eq_true, beq_iff_eq, and_iff_right_iff_imp]
  rintro ⟨rfl, -⟩
  exact Route.hasArea_of_getElem? hp

theorem coveredByKind_zones_iff {zones : List Nat} :
    coveredByKind (.zones area zones) r i = true ↔
      p.area = area ∧ q.area = area ∧ p.zone ∈ zones ∧ q.zone ∈ zones := by
  simp only [coveredByKind, offRoute, Route.stop_eq_of_getElem? hp, Route.stop_eq_of_getElem? hq, Bool.not_not,
    Bool.and_eq_true, beq_iff_eq, List.contains_iff_mem, and_assoc, and_iff_right_iff_imp]
  rintro ⟨rfl, -⟩
  exact Route.hasArea_of_getElem? hp

end

/-! ### The coverage finding (R68) and the time finding (R69) -/

/-- Past the paid span's branch, coverage is coverage by kind. -/
theorem coverageFinding_eq (k : KindPart) (paid : Option (Nat × Nat)) (r : Route) (a : Nat) :
    coverageFinding k paid r a =
      if coveredByPaid paid r a = true then none else if offRoute k r = true then some .offRoute
      else if covered k paid r a = true then none else some .shortCoverage := by
  unfold coverageFinding
  split
  next => rfl
  next hpaid => simp [covered_iff, hpaid]

theorem tolerance_eq_zero {e : AreaEntry} {delay : Int} (h : e.configured = false ∨ delay ≤ 0) :
    tolerance delay e = 0 := by
  rcases h with h | h
  · simp [tolerance, h]
  · simp [tolerance, Int.toNat_of_nonpos h]

theorem tolerance_of_late {e : AreaEntry} (h : e.configured = true) (d : Nat) :
    tolerance d e = min d e.toleranceCap := by
  simp [tolerance, h]

section
variable {validFrom validUntil minute tau : Nat}

theorem timeFinding_notYetValid (h : minute < validFrom) :
    timeFinding validFrom validUntil minute tau = some .notYetValid := by
  rw [timeFinding, if_pos h]

theorem timeFinding_none (hf : validFrom ≤ minute) (hu : minute ≤ validUntil) :
    timeFinding validFrom validUntil minute tau = none := by
  rw [timeFinding, if_neg (Nat.not_lt.2 hf), if_pos hu]

theorem timeFinding_delayGrace (hf : validFrom ≤ minute) (hu : validUntil < minute) (ht : minute ≤ validUntil + tau) :
    timeFinding validFrom validUntil minute tau = some .delayGrace := by
  rw [timeFinding, if_neg (Nat.not_lt.2 hf), if_neg (Nat.not_le.2 hu), if_pos ht]

theorem timeFinding_expired (hf : validFrom ≤ minute) (ht : validUntil + tau < minute) :
    timeFinding validFrom validUntil minute tau = some .expired := by
  have hu : validUntil < minute := Nat.lt_of_le_of_lt (Nat.le_add_right _ _) ht
  rw [timeFinding, if_neg (Nat.not_lt.2 hf), if_neg (Nat.not_le.2 hu), if_neg (Nat.not_le.2 ht)]

end

/-! ### The statement -/

/-- Settles O34: distinct codes turn each premise on stops into an index of `Route.indexOf?`, and with that every clause is
one rule above. -/
theorem coverageAndTimeJudgements : Obligations.CoverageAndTimeJudgements := by
  refine ⟨fun r k code st => ⟨Route.stop_eq_of_getElem?, Route.indexOf?_eq_some, Route.indexOf?_eq_none⟩, ?placed, ?absent,
    fun r area zones => ⟨offRoute_area_iff, offRoute_zones_iff⟩,
    fun k paid r i => ⟨coveredByPaid_none r i, fun h => coveredByKind_of_offRoute h i, covered_iff⟩,
    fun r area zones i p q hp hq => ⟨coveredByKind_area_iff hp hq, coveredByKind_zones_iff hp hq⟩, coverageFinding_eq,
    ?time⟩
  case placed =>
    rintro r _ _ io id i hr ⟨so, hso, rfl⟩ ⟨sd, hsd, rfl⟩
    have ho := Route.indexOf?_eq_some hr hso
    have hd := Route.indexOf?_eq_some hr hsd
    exact ⟨offRoute_single_iff ho hd, offRoute_returnTrip ho hd, coveredByKind_single_iff ho hd,
      coveredByKind_returnTrip_iff ho hd, coveredByPaid_some_iff ho hd⟩
  case absent =>
    intro r o d i h
    have hnone : r.indexOf? o = none ∨ r.indexOf? d = none := h.imp Route.indexOf?_eq_none Route.indexOf?_eq_none
    have hsingle := offRoute_single_absent hnone
    have hreturn := offRoute_returnTrip_absent hnone
    exact ⟨hsingle, hreturn, coveredByKind_of_offRoute hsingle i, coveredByKind_of_offRoute hreturn i,
      coveredByPaid_absent hnone i⟩
  case time =>
    intro validFrom validUntil minute delay e hvalid
    exact ⟨tolerance_eq_zero, fun d hc hd => hd ▸ tolerance_of_late hc d, fun tau => ⟨timeFinding_notYetValid,
      timeFinding_none, fun hu => timeFinding_delayGrace (Nat.le_trans hvalid (Nat.le_of_lt hu)) hu,
      fun ht => timeFinding_expired (by omega) ht⟩⟩

end Sys2Proof.Machine
end

section
/-! The quote's arithmetic, factor by factor (R89, R90, R92, R94, R95). Both upward roundings of the model, to whole
kilometres and to whole steps, are one division rounded upward, so their bounds are proved once, for it. -/

namespace Sys2Proof.Machine

/-! ### Division rounded upward -/

/-- The upward rounding in the manual's form (R89, R94): the quotient, and one more when there is a remainder. -/
def divUpward (p g : Nat) : Nat := if p % g > 0 then p / g + 1 else p / g

theorem le_mul_divUpward {g : Nat} (hg : 0 < g) (p : Nat) : p ≤ g * divUpward p g := by
  have hdivision := Nat.div_add_mod p g
  have hrem := Nat.mod_lt p hg
  unfold divUpward
  split
  case isTrue => rw [Nat.mul_add_one]; omega
  case isFalse => omega

theorem mul_divUpward_lt {g : Nat} (hg : 0 < g) (p : Nat) : g * divUpward p g < p + g := by
  have hdivision := Nat.div_add_mod p g
  unfold divUpward
  split
  case isTrue => rw [Nat.mul_add_one]; omega
  case isFalse => omega

/-! ### Charged kilometres (R89) -/

theorem kmUpward_eq_divUpward (d : Nat) : kmUpward d = divUpward d 10 := rfl

/-- A distance of 0 rounds to 0 by itself, so the upgrade's charged kilometres are the rounded ones. -/
theorem chargedUp_eq_kmUpward (d : Nat) : chargedUp d = kmUpward d := by
  unfold chargedUp
  split
  case isTrue hd => rw [hd]; rfl
  case isFalse => rfl

@[simp] theorem chargedUp_zero : chargedUp 0 = 0 := rfl

@[simp] theorem chargedShort_zero (kmin : Nat) : chargedShort kmin 0 = 0 := rfl

theorem le_mul_chargedUp (d : Nat) : d ≤ 10 * chargedUp d := by
  rw [chargedUp_eq_kmUpward, kmUpward_eq_divUpward]
  exact le_mul_divUpward (Nat.succ_pos 9) d

theorem mul_chargedUp_lt (d : Nat) : 10 * chargedUp d < d + 10 := by
  rw [chargedUp_eq_kmUpward, kmUpward_eq_divUpward]
  exact mul_divUpward_lt (Nat.succ_pos 9) d

/-- The minimum is on shortfall alone: above 0 it is the one difference between the two charged distances. -/
theorem chargedShort_of_pos {d : Nat} (hd : 0 < d) (kmin : Nat) : chargedShort kmin d = max kmin (chargedUp d) := by
  rw [chargedUp_eq_kmUpward, chargedShort, if_neg (Nat.ne_of_gt hd)]

/-! ### Class multipliers (R90) -/

@[simp] theorem classMultiplier_first (m1 : Nat) : classMultiplier m1 .first = m1 := rfl

@[simp] theorem classMultiplier_second (m1 : Nat) : classMultiplier m1 .second = 100 := rfl

@[simp] theorem upgradeFactor_self (m1 : Nat) (c : TravelClass) : upgradeFactor m1 c c = 0 := Nat.sub_self _

@[simp] theorem upgradeFactor_first_second (m1 : Nat) : upgradeFactor m1 .first .second = m1 - 100 := rfl

/-- M1 is at least 100, so a class-1 credential in a class-2 carriage is due no upgrade. -/
theorem upgradeFactor_second_first {m1 : Nat} (h : 100 ≤ m1) : upgradeFactor m1 .second .first = 0 :=
  Nat.sub_eq_zero_of_le h

/-! ### The one rounding and the surcharge (R94, R95) -/

theorem roundToStep_eq_divUpward_mul (step product : Nat) :
    roundToStep step product = divUpward product (1000000 * step) * step := by
  by_cases hrem : product % (1000000 * step) > 0
  case pos => simp only [roundToStep, divUpward, if_pos hrem]
  case neg => simp only [roundToStep, divUpward, if_neg hrem]

/-- The amount in the product's units, as whole multiples of the step in those units. -/
theorem roundToStep_mul_million (step product : Nat) :
    roundToStep step product * 1000000 = 1000000 * step * divUpward product (1000000 * step) := by
  rw [roundToStep_eq_divUpward_mul, Nat.mul_assoc, Nat.mul_comm step, Nat.mul_comm]

@[simp] theorem roundToStep_zero (step : Nat) : roundToStep step 0 = 0 := by
  rw [roundToStep_eq_divUpward_mul, divUpward, Nat.zero_mod, Nat.zero_div, if_neg (Nat.lt_irrefl 0), Nat.zero_mul]

theorem dvd_roundToStep (step product : Nat) : step ∣ roundToStep step product := by
  rw [roundToStep_eq_divUpward_mul]
  exact Nat.dvd_mul_left step (divUpward product (1000000 * step))

section
variable {step : Nat} (hstep : 0 < step) (product : Nat)
include hstep

theorem le_roundToStep_mul : product ≤ roundToStep step product * 1000000 := by
  rw [roundToStep_mul_million]
  exact le_mul_divUpward (Nat.mul_pos (Nat.succ_pos 999999) hstep) product

theorem roundToStep_mul_lt : roundToStep step product * 1000000 < product + step * 1000000 := by
  rw [roundToStep_mul_million, Nat.mul_comm step]
  exact mul_divUpward_lt (Nat.mul_pos (Nat.succ_pos 999999) hstep) product

/-- Rounding upward makes no amount of a product above 0 vanish. -/
theorem roundToStep_eq_zero_iff : roundToStep step product = 0 ↔ product = 0 := by
  constructor
  case mp =>
    intro h
    have hle := le_roundToStep_mul hstep product
    omega
  case mpr =>
    rintro rfl
    exact roundToStep_zero step

end

@[simp] theorem withSurcharge_zero (surcharge : Nat) : withSurcharge surcharge 0 = 0 := rfl

theorem withSurcharge_of_pos {amount : Nat} (h : 0 < amount) (surcharge : Nat) :
    withSurcharge surcharge amount = amount + surcharge :=
  if_pos h

/-! ### The statement -/

/-- Settles O32: each factor's clause is its rules above; the traveller weight is its definition (R92). -/
theorem quoteArithmetic : Obligations.QuoteArithmetic := by
  refine ⟨?kilometres, ?classes, fun _ _ _ => rfl, ?rounding, ?surcharge⟩
  case kilometres =>
    intro d kmin
    exact ⟨chargedUp_zero, chargedShort_zero kmin, le_mul_chargedUp d, mul_chargedUp_lt d,
      fun hd => chargedShort_of_pos hd kmin⟩
  case classes =>
    intro m1 hm1
    exact ⟨classMultiplier_first m1, classMultiplier_second m1, upgradeFactor_self m1 .first,
      upgradeFactor_second_first hm1, upgradeFactor_first_second m1, upgradeFactor_self m1 .second⟩
  case rounding =>
    intro step product hstep
    exact ⟨dvd_roundToStep step product, le_roundToStep_mul hstep product, roundToStep_mul_lt hstep product,
      roundToStep_eq_zero_iff hstep product⟩
  case surcharge =>
    intro surcharge amount
    exact ⟨withSurcharge_zero surcharge, fun h => withSurcharge_of_pos h surcharge⟩

end Sys2Proof.Machine
end

section
/-! What a command does, whichever it is: every command leaves a next state (`effect`), a request command takes the frame
at the head of the buffer and hands it to its unit, and a unit either refuses or takes the request (R157, R158). -/

namespace Sys2Proof.Machine

/-! ### The effect of a command -/

/-- The state a command leaves; no command ends in a fault or a refusal. -/
def effect (c : Instr) (s : State) : State :=
  match exec c s with
  | .next t => t
  | .fault _ => s
  | .refused _ => s

theorem exec_eq_effect (c : Instr) (s : State) : exec c s = .next (effect c s) := by
  cases c <;> rfl

theorem eq_effect_of_exec {c : Instr} {s t : State} (h : exec c s = .next t) : t = effect c s := by
  rw [exec_eq_effect] at h
  cases h
  rfl

/-- A step is the effect of the front command on the block without it, or nothing. -/
theorem step_cases {s t : State} (h : step s = .next t) :
    t = s ∨ ∃ c rest, s.pending = c :: rest ∧ t = effect c { s with pending := rest } := by
  unfold step at h
  split at h
  · cases h
    exact .inl rfl
  case h_2 c rest hp => exact .inr ⟨c, rest, hp, eq_effect_of_exec h⟩

/-- What every command's effect keeps every step keeps, where it is not about the waiting commands. -/
theorem step_keeps {Q : State → Prop} (hq : ∀ c s, Q s → Q (effect c s))
    (hp : ∀ s rest, Q s → Q { s with pending := rest }) {s t : State} (h : step s = .next t) (hs : Q s) : Q t := by
  rcases step_cases h with rfl | ⟨c, rest, -, rfl⟩
  · exact hs
  · exact hq c _ (hp s rest hs)

/-! ### The handling of a request -/

/-- How a unit answers a request on the block `s`: it refuses, and leaves the block as it is, or it takes the request, and
leaves a block of which `P` holds (R158). -/
inductive Answers (P : State → Prop) (s : State) : Answer → Prop
  | refused (status : Byte) (more : List Byte) (h : status ≠ 0) : Answers P s (s, status :: more)
  | taken (fields : List Byte) (t : State) (h : P t) : Answers P s (okReply fields t)

theorem Answers.refuse {P : State → Prop} {s : State} {status : Status} (h : status ≠ .ok) :
    Answers P s (refuse status s) :=
  .refused _ [] (by revert h; cases status <;> decide)

/-- A handling refuses a body of the right size, or takes it and leaves a block of which `P` holds. -/
def Handles (kind : Nat) (P : State → State → Prop) (h : List Byte → State → Answer) : Prop :=
  ∀ body s, sizeOk kind body = true → Answers (P s) s (h body s)

theorem Handles.imp {kind : Nat} {P Q : State → State → Prop} {h : List Byte → State → Answer} (hh : Handles kind P h)
    (hpq : ∀ s t, P s t → Q s t) : Handles kind Q h := by
  intro body s hs
  have hans := hh body s hs
  generalize h body s = a at hans ⊢
  cases hans with
  | refused status more hne => exact .refused status more hne
  | taken fields t ht => exact .taken fields t (hpq s t ht)

/-! ### The take of a frame -/

/-- The take of a frame changes nothing, or hands the head frame over with a slot reserved and places the reply there. -/
theorem takeFrame_cases (wanted : RequestFrame → Bool) (handle : RequestFrame → State → State × OutFrame) (s : State) :
    takeFrame wanted handle s = s ∨ ∃ frame rest, s.lif.requests = frame :: rest ∧ wanted frame = true ∧
      canTakeRequest s.lif = true ∧ takeFrame wanted handle s =
        fillReply (handle frame (reserveSlot rest s)).2 (handle frame (reserveSlot rest s)).1 := by
  unfold takeFrame
  split
  · exact .inl rfl
  case h_2 frame rest hq =>
    split
    next hw =>
      obtain ⟨hw, hc⟩ := Bool.and_eq_true_iff.1 hw
      exact .inr ⟨frame, rest, hq, hw, hc, rfl⟩
    next => exact .inl rfl

/-- What the take of a request can do (R157, R158): nothing; or, the frame being taken and a slot reserved, its unit leaves
a block `t`, which is the one it was given where the body has the wrong size or the unit refuses, and the reply is placed in
the slot. -/
theorem takeRequest_cases {kind : Nat} {P : State → State → Prop} {h : List Byte → State → Answer}
    (hh : Handles kind P h) (s : State) :
    takeRequest kind h s = s ∨ ∃ frame rest reply t, s.lif.requests = frame :: rest ∧ canTakeRequest s.lif = true ∧
      (t = reserveSlot rest s ∨ P (reserveSlot rest s) t) ∧ takeRequest kind h s = fillReply reply t := by
  unfold takeRequest whenRunning
  split
  case isFalse => exact .inl rfl
  rcases takeFrame_cases (fun frame => frame.kind.toNat == kind) (answerRequest kind h) s with he | ⟨frame, rest, hq, -, hc, he⟩
  · exact .inl he
  refine .inr ⟨frame, rest, _, _, hq, hc, ?_, he⟩
  unfold answerRequest
  split
  next hs =>
    have hans := hh frame.body (reserveSlot rest s) hs
    generalize h frame.body (reserveSlot rest s) = a at hans ⊢
    cases hans with
    | refused => exact .inl rfl
    | taken fields t ht => exact .inr ht
  next => exact .inl rfl

/-- What no change of the link touches is kept by the take of a request, when it is kept where the unit takes it. -/
theorem takeRequest_preserves {kind : Nat} {P : State → State → Prop} {h : List Byte → State → Answer} {Q : State → Prop}
    (hh : Handles kind P h) (hl : ∀ s l, Q s → Q (withLif l s)) (hp : ∀ s t, P s t → Q s → Q t) {s : State} (hs : Q s) :
    Q (takeRequest kind h s) := by
  rcases takeRequest_cases hh s with he | ⟨frame, rest, reply, t, -, -, ht, he⟩ <;> rw [he]
  · exact hs
  · have hreserved : Q (reserveSlot rest s) := hl _ _ hs
    rcases ht with rfl | ht
    · exact hl _ _ hreserved
    · exact hl _ _ (hp _ _ ht hreserved)

/-- The kind and the handling of the request that a command takes. -/
def requestOf : Instr → Option (Nat × (List Byte → State → Answer))
  | .status => some (0x01, answerStatus)
  | .standby => some (0x02, answerStandby)
  | .reset => some (0x03, answerReset)
  | .intakeMarks => some (0x04, answerIntakeMarks)
  | .present => some (0x08, answerPresent)
  | .clockSet => some (0x10, answerClockSet)
  | .clockTrim => some (0x11, answerClockTrim)
  | .journeyOpen => some (0x12, answerJourneyOpen)
  | .journeyClose => some (0x13, answerJourneyClose)
  | .routeBegin => some (0x14, answerRouteBegin)
  | .routeStops => some (0x15, answerRouteStops)
  | .routeArm => some (0x16, answerRouteArm)
  | .routeCancel => some (0x17, answerRouteCancel)
  | .stopArrive => some (0x18, answerStopArrive)
  | .stopDepart => some (0x19, answerStopDepart)
  | .carriageSet => some (0x1A, answerCarriageSet)
  | .delaySet => some (0x1B, answerDelaySet)
  | .keyLoad => some (0x20, answerKeyLoad)
  | .keyState => some (0x21, answerKeyState)
  | .keyDrop => some (0x22, answerKeyDrop)
  | .filterBegin => some (0x24, answerFilterBegin)
  | .filterSegment => some (0x25, answerFilterSegment)
  | .filterCommit => some (0x26, answerFilterCommit)
  | .listAdd => some (0x27, answerListAdd)
  | .listRemove => some (0x28, answerListRemove)
  | .listFlush => some (0x29, answerListFlush)
  | .areaSet => some (0x2C, answerAreaSet)
  | .acceptMap => some (0x2D, answerAcceptMap)
  | .classSet => some (0x2E, answerClassSet)
  | .policySet => some (0x2F, answerPolicySet)
  | .caseResolve => some (0x30, answerCaseResolve)
  | .caseQuote => some (0x31, answerCaseQuote)
  | .caseTimeout => some (0x32, answerCaseTimeout)
  | .passbackSet => some (0x33, answerPassbackSet)
  | .cardOptions => some (0x34, answerCardOptions)
  | .journalRead => some (0x38, answerJournalRead)
  | .journalRelease => some (0x39, answerJournalRelease)
  | .journalTimers => some (0x3A, answerJournalTimers)
  | _ => none

/-- A request command is the take of its request. -/
theorem effect_request {c : Instr} {kind : Nat} {h : List Byte → State → Answer} (hc : requestOf c = some (kind, h))
    (s : State) : effect c s = takeRequest kind h s := by
  cases c <;> cases hc <;> rfl

/-- Every row of the request kinds has its handling, under that kind. -/
theorem requestOf_of_mem_requestKinds {k : Byte} {c : Instr} (h : (k, c) ∈ requestKinds) :
    ∃ handle, requestOf c = some (k.toNat, handle) := by
  have hall : ∀ p ∈ requestKinds, (requestOf p.2).map Prod.fst = some p.1.toNat := by decide
  obtain ⟨⟨kind, handle⟩, hreq, rfl⟩ := Option.map_eq_some_iff.1 (hall _ h)
  exact ⟨handle, hreq⟩

end Sys2Proof.Machine
end

section
/-! What each request can do, said once: where its unit takes it, the ranges of what it took from the body and the block it
leaves (R158, and the rule each lemma names). -/

namespace Sys2Proof.Machine

/-! ### The link and the Intake Queue -/

theorem handles_status : Handles 0x01 (fun s t => t = s) answerStatus :=
  fun _ _ _ => .taken _ _ rfl

/-- STANDBY (R167). -/
theorem handles_standby :
    Handles 0x02
      (fun s t => canStandby s = true ∧
        t = withLif { s.lif with power := .standby, standbyToSend := s.lif.outbound.length } s)
      answerStandby := by
  intro body s _
  unfold answerStandby
  split
  next h => exact .taken _ _ ⟨h, rfl⟩
  next => exact .refuse (by decide)

/-- RESET (R169). -/
theorem handles_reset : Handles 0x03 (fun s t => t = (answerReset [] s).1) answerReset :=
  fun _ _ _ => .taken [] _ rfl

/-- The Intake Queue's marks are replaced (R164). -/
def withMarks (high low : Nat) (s : State) : State := { s with iq := { s.iq with high := high, low := low } }

/-- INTAKE-MARKS (R164). -/
theorem handles_intakeMarks :
    Handles 0x04
      (fun s t => ∃ high low, 2 ≤ high ∧ high ≤ 16 ∧ low < high ∧
        t = if s.iq.hold then resumeAfterTake (withMarks high low s) else holdAfterAdd (withMarks high low s))
      answerIntakeMarks := by
  intro body s _
  by_cases h : min 16 (fieldAt body 0 1) < 2 ∨ min 16 (fieldAt body 0 1) ≤ fieldAt body 1 1
  · simp only [answerIntakeMarks, if_pos h]
    exact .refuse (by decide)
  · simp only [answerIntakeMarks, if_neg h]
    exact .taken _ _ ⟨min 16 (fieldAt body 0 1), fieldAt body 1 1, by omega, by omega, by omega, rfl⟩

/-- PRESENT (R163). -/
theorem handles_present :
    Handles 0x08 (fun s t => s.iq.entries.length < 16 ∧ ∃ content, t = addEntry .link content s) answerPresent := by
  intro body s _
  simp only [answerPresent]
  split
  · exact .refuse (by decide)
  split
  · exact .refuse (by decide)
  next h => exact .taken _ _ ⟨by omega, body, rfl⟩

/-! ### The journey context -/

/-- The clock as CLOCK-SET leaves it (R36). -/
def Clock.setTo (seconds millis : Nat) (c : Clock) : Clock :=
  { c with isSet := true, seconds := seconds, millis := millis, trimAcc := 0 }

/-- CLOCK-SET (R36, R127). -/
theorem handles_clockSet :
    Handles 0x10
      (fun s t => ∃ seconds millis, seconds ≤ 4294967295 ∧ millis ≤ 999 ∧
        t = timeOutCases (withJcu { s.jcu with clock := s.jcu.clock.setTo seconds millis } s))
      answerClockSet := by
  intro body s _
  simp only [answerClockSet]
  split
  · exact .refuse (by decide)
  split
  · exact .refuse (by decide)
  next h _ =>
    have hs := fieldAt_lt body 0 4
    exact .taken _ _ ⟨fieldAt body 0 4, fieldAt body 4 2, by omega, by omega, rfl⟩

theorem clampInt_bounds {lo hi : Int} (h : lo ≤ hi) (z : Int) : lo ≤ clampInt lo hi z ∧ clampInt lo hi z ≤ hi := by
  unfold clampInt
  omega

theorem clampNat_bounds {lo hi : Nat} (h : lo ≤ hi) (n : Nat) : lo ≤ clampNat lo hi n ∧ clampNat lo hi n ≤ hi := by
  unfold clampNat
  omega

/-- CLOCK-TRIM (R35). -/
theorem handles_clockTrim :
    Handles 0x11
      (fun s t => ∃ trim, -200 ≤ trim ∧ trim ≤ 200 ∧
        t = withJcu { s.jcu with clock := { s.jcu.clock with trim := trim } } s)
      answerClockTrim := by
  intro body s _
  obtain ⟨hlow, hhigh⟩ := clampInt_bounds (lo := -200) (hi := 200) (by decide) (signed16 (fieldAt body 0 2))
  exact .taken _ _ ⟨_, hlow, hhigh, rfl⟩

/-- JOURNEY-OPEN (R24). -/
theorem handles_journeyOpen :
    Handles 0x12
      (fun s t => ∃ start r b, s.jcu.journey = none ∧ s.jcu.clock.isSet = true ∧ s.jcu.staging = .armed r ∧
        start + 2 ≤ r.stops.length ∧ t = journal b (withJcu (openedJcu start r s.jcu) s))
      answerJourneyOpen := by
  intro body s _
  simp only [answerJourneyOpen]
  split
  · exact .refuse (by decide)
  split
  · exact .refuse (by decide)
  next hj hc =>
    split
    next r hst =>
      split
      · exact .refuse (by decide)
      next hl => exact .taken _ _ ⟨fieldAt body 0 1, r, _, by simpa using hj, by simpa using hc, hst, by omega, rfl⟩
    next => exact .refuse (by decide)

/-- JOURNEY-CLOSE (R37). -/
theorem handles_journeyClose :
    Handles 0x13
      (fun s t => journeyOpen s = true ∧ (t = enterClosing s ∨ t = withJcu { s.jcu with closeAtArrival := true } s))
      answerJourneyClose := by
  intro body s _
  unfold answerJourneyClose
  split
  · exact .refuse (by decide)
  next h =>
    have ho : journeyOpen s = true := by simpa using h
    split
    · exact .taken _ _ ⟨ho, .inl rfl⟩
    · exact .taken _ _ ⟨ho, .inr rfl⟩
    · exact .refuse (by decide)

/-- ROUTE-BEGIN (R20). -/
theorem handles_routeBegin :
    Handles 0x14
      (fun s t => ∃ service count dayStart, 1 ≤ service ∧ service < 65536 ∧ 2 ≤ count ∧ count ≤ 64 ∧
        dayStart < 4294967296 ∧ t = withJcu { s.jcu with staging := .filling service count dayStart [] } s)
      answerRouteBegin := by
  intro body s _
  simp only [answerRouteBegin]
  have hservice := fieldAt_lt body 0 2
  have hday := fieldAt_lt body 3 4
  split
  · exact .refuse (by decide)
  split
  · exact .refuse (by decide)
  split
  · exact .refuse (by decide)
  next h => exact .taken _ _ ⟨fieldAt body 0 2, fieldAt body 2 1, fieldAt body 3 4, by omega, by omega, by omega, by omega,
      by omega, rfl⟩

/-- A stop record that passes the check of R21 has all its fields in range: the others are as wide as their ranges. -/
theorem stopAt_ok {body : List Byte} {off : Nat} (h : stopOk (stopAt body off) = true) : (stopAt body off).ok := by
  have hcode := fieldAt_lt body off 2
  have hpost := fieldAt_lt body (off + 2) 2
  have hzone := fieldAt_lt body (off + 5) 1
  obtain ⟨⟨hne, harea⟩, hplanned⟩ : ((stopAt body off).code ≠ 0 ∧ (stopAt body off).area ≤ 7) ∧
    (stopAt body off).planned ≤ 2879 := by simpa [stopOk] using h
  exact ⟨Nat.pos_of_ne_zero hne, hcode, hpost, harea, hzone, hplanned⟩

theorem stopRecords_length (body : List Byte) (n : Nat) : (stopRecords body n).length = n := by
  simp [stopRecords]

theorem stopRecords_ok {body : List Byte} {n : Nat} (h : (stopRecords body n).all stopOk = true) :
    ∀ st ∈ stopRecords body n, st.ok := by
  intro st hst
  have hok := List.all_eq_true.1 h st hst
  obtain ⟨i, -, rfl⟩ := List.mem_map.1 hst
  exact stopAt_ok hok

/-- ROUTE-STOPS (R21). -/
theorem handles_routeStops :
    Handles 0x15
      (fun s t => ∃ service count dayStart received stops, s.jcu.staging = .filling service count dayStart received ∧
        (∀ st ∈ stops, st.ok) ∧ received.length + stops.length ≤ count ∧
        t = withJcu { s.jcu with staging := .filling service count dayStart (received ++ stops) } s)
      answerRouteStops := by
  intro body s _
  simp only [answerRouteStops]
  split
  · exact .refuse (by decide)
  split
  next service count dayStart received hst =>
    split
    · exact .refuse (by decide)
    split
    · exact .refuse (by decide)
    split
    · exact .refuse (by decide)
    next hfirst hn hall =>
      exact .taken _ _ ⟨service, count, dayStart, received, stopRecords body (fieldAt body 1 1), hst,
        stopRecords_ok (by simpa using hall), by rw [stopRecords_length]; omega, rfl⟩
  next => exact .refuse (by decide)

/-- ROUTE-ARM (R22). -/
theorem handles_routeArm :
    Handles 0x16
      (fun s t => ∃ service count dayStart stops, s.jcu.staging = .filling service count dayStart stops ∧
        count ≤ stops.length ∧ firstRouteFault stops = none ∧
        t = withJcu { s.jcu with staging := .armed { service := service, dayStart := dayStart, stops := stops } } s)
      answerRouteArm := by
  intro body s _
  unfold answerRouteArm
  split
  · exact .refuse (by decide)
  split
  next service count dayStart stops hst =>
    split
    · exact .refuse (by decide)
    next hl =>
      split
      next i _ => exact .refused _ (u8 i) (by decide)
      next hf => exact .taken _ _ ⟨service, count, dayStart, stops, hst, by omega, hf, rfl⟩
  next => exact .refuse (by decide)

/-- ROUTE-CANCEL (R23). -/
theorem handles_routeCancel :
    Handles 0x17 (fun s t => t = withJcu { s.jcu with staging := .empty } s) answerRouteCancel :=
  fun _ _ _ => .taken _ _ rfl

/-- The journey stands at stop `k` (R29). -/
def arrivedAt (j : Running) (k : Nat) (s : State) : State :=
  withJcu { s.jcu with journey := some { j with position := .atStop k } } s

/-- STOP-ARRIVE (R29). -/
theorem handles_stopArrive :
    Handles 0x18
      (fun s t => ∃ j i k, s.jcu.journey = some j ∧ j.closing = false ∧ j.position = .running i ∧ i + 1 ≤ k ∧
        k + 1 ≤ j.route.stops.length ∧
        t = if k + 1 = j.route.stops.length ∨ s.jcu.closeAtArrival then enterClosing (arrivedAt j k s)
          else arrivedAt j k s)
      answerStopArrive := by
  intro body s _
  simp only [answerStopArrive]
  split
  · exact .refuse (by decide)
  next j hj =>
    split
    · exact .refuse (by decide)
    next hc =>
      split
      · exact .refuse (by decide)
      next i hp =>
        split
        · exact .refuse (by decide)
        next hk => exact .taken _ _ ⟨j, i, fieldAt body 0 1, hj, by simpa using hc, hp, by omega, by omega, rfl⟩

/-- STOP-DEPART (R26). -/
theorem handles_stopDepart :
    Handles 0x19
      (fun s t => ∃ j k, s.jcu.journey = some j ∧ j.closing = false ∧ j.position = .atStop k ∧
        k + 2 ≤ j.route.stops.length ∧ t = depart (tryStaged j k s).2 (tryStaged j k s).1)
      answerStopDepart := by
  intro body s _
  simp only [answerStopDepart]
  split
  · exact .refuse (by decide)
  next j hj =>
    split
    · exact .refuse (by decide)
    next hc =>
      split
      · exact .refuse (by decide)
      next i hp =>
        split
        · exact .refuse (by decide)
        next hk =>
          obtain ⟨hat, hl⟩ := not_or.1 hk
          exact .taken _ _ ⟨j, fieldAt body 0 1, hj, by simpa using hc, by rw [hp, Decidable.not_not.1 hat], by omega, rfl⟩

/-- CARRIAGE-SET (R32). -/
theorem handles_carriageSet :
    Handles 0x1A
      (fun s t => ∃ carriage cls, 1 ≤ carriage ∧ carriage ≤ 16 ∧
        t = withJcu { s.jcu with carriage := carriage, cls := cls } s)
      answerCarriageSet := by
  intro body s _
  simp only [answerCarriageSet]
  split
  · exact .refuse (by decide)
  split
  · exact .refuse (by decide)
  next hc =>
    split
    · exact .refuse (by decide)
    next cls _ => exact .taken _ _ ⟨fieldAt body 0 1, cls, by omega, by omega, rfl⟩

/-- DELAY-SET (R31). -/
theorem handles_delaySet :
    Handles 0x1B
      (fun s t => s.jcu.journey ≠ none ∧ ∃ delay, -60 ≤ delay ∧ delay ≤ 720 ∧ t = withJcu { s.jcu with delay := delay } s)
      answerDelaySet := by
  intro body s _
  simp only [answerDelaySet]
  split
  · exact .refuse (by decide)
  next hj =>
    obtain ⟨hlow, hhigh⟩ := clampInt_bounds (lo := -60) (hi := 720) (by decide) (signed16 (fieldAt body 0 2))
    exact .taken _ _ ⟨by simpa using hj, _, hlow, hhigh, rfl⟩

/-! ### Keys and screening -/

/-- A Issuer Key Table entry has its fields in range (R10). -/
def KeyEntry.ok (e : KeyEntry) : Prop := e.issuer < 256 ∧ e.version ≤ 15 ∧ e.material.length = 16

/-- KEY-LOAD (R11). -/
theorem handles_keyLoad :
    Handles 0x20
      (fun s t => ∃ entry : KeyEntry, entry.ok ∧
        ((findKey entry.issuer entry.version s.dcu.keys = none ∧ s.dcu.keys.length < 32 ∧
            t = withKeys (s.dcu.keys ++ [entry]) s) ∨
          t = withKeys (setKey entry s.dcu.keys) s))
      answerKeyLoad := by
  intro body s hs
  simp only [answerKeyLoad]
  have hsize : (some 18 == some body.length) = true := hs
  have hmaterial : (body.drop 2).length = 16 := by simp at hsize; simp [← hsize]
  have hissuer := fieldAt_lt body 0 1
  split
  · exact .refuse (by decide)
  split
  · exact .refuse (by decide)
  next hversion =>
    split
    · exact .refuse (by decide)
    next hfull =>
      refine .taken _ _ ⟨⟨fieldAt body 0 1, fieldAt body 1 1, .active, body.drop 2⟩,
        ⟨hissuer, Nat.not_lt.1 hversion, hmaterial⟩, ?_⟩
      cases hfound : findKey (fieldAt body 0 1) (fieldAt body 1 1) s.dcu.keys with
      | none => exact .inl ⟨rfl, by simpa [hfound] using hfull, by simp⟩
      | some e => exact .inr (by simp)

/-- KEY-STATE (R12). -/
theorem handles_keyState :
    Handles 0x21
      (fun s t => ∃ issuer version e state, findKey issuer version s.dcu.keys = some e ∧
        t = withKeys (setKey { e with state := state } s.dcu.keys) s)
      answerKeyState := by
  intro body s _
  simp only [answerKeyState]
  split
  · exact .refuse (by decide)
  split
  · exact .refuse (by decide)
  split
  · exact .refuse (by decide)
  next he => exact .taken _ _ ⟨_, _, _, _, he, rfl⟩

/-- KEY-DROP (R13). -/
theorem handles_keyDrop :
    Handles 0x22 (fun s t => ∃ issuer version, t = withKeys (s.dcu.keys.filter (fun e => !hasPair issuer version e)) s)
      answerKeyDrop := by
  intro body s _
  simp only [answerKeyDrop]
  split
  · exact .refuse (by decide)
  split
  · exact .refuse (by decide)
  split
  · exact .refuse (by decide)
  · exact .taken _ _ ⟨_, _, rfl⟩

/-- FILTER-BEGIN (R46). -/
theorem handles_filterBegin :
    Handles 0x24
      (fun s t => ∃ generation offset, offset ≤ 3 ∧
        t = withRsu { s.rsu with pendingImage := some (begunImage generation offset) } s)
      answerFilterBegin := by
  intro body s _
  simp only [answerFilterBegin]
  split
  · exact .refuse (by decide)
  next h => exact .taken _ _ ⟨fieldAt body 0 4, fieldAt body 4 1, by omega, rfl⟩

/-- FILTER-SEGMENT (R47). -/
theorem handles_filterSegment :
    Handles 0x25
      (fun s t => ∃ p index bits, s.rsu.pendingImage = some p ∧ index ≤ 31 ∧
        t = withRsu { s.rsu with pendingImage := some (p.store index bits) } s)
      answerFilterSegment := by
  intro body s _
  simp only [answerFilterSegment]
  split
  · exact .refuse (by decide)
  next p hp =>
    split
    · exact .refuse (by decide)
    next h => exact .taken _ _ ⟨p, fieldAt body 0 1, body.drop 1, hp, by omega, rfl⟩

/-- FILTER-COMMIT (R48). -/
theorem handles_filterCommit :
    Handles 0x26
      (fun s t => ∃ p, s.rsu.pendingImage = some p ∧ t = withRsu { s.rsu with active := p.image, pendingImage := none } s)
      answerFilterCommit := by
  intro body s _
  unfold answerFilterCommit
  split
  · exact .refuse (by decide)
  next p hp =>
    split
    · exact .refuse (by decide)
    · exact .taken _ _ ⟨p, hp, rfl⟩

/-- LIST-ADD (R50). -/
theorem handles_listAdd :
    Handles 0x27
      (fun s t => ∃ entry : ListEntry, entry.reason ≤ 15 ∧
        ((findListed entry.key s.rsu.list = none ∧ s.rsu.list.length < 64 ∧
            t = withRsu { s.rsu with list := s.rsu.list ++ [entry] } s) ∨
          t = withRsu { s.rsu with list := replaceListed entry s.rsu.list } s))
      answerListAdd := by
  intro body s _
  simp only [answerListAdd]
  split
  · exact .refuse (by decide)
  split
  · exact .refuse (by decide)
  next hr =>
    split
    · exact .taken _ _ ⟨_, Nat.not_lt.1 hr, .inr rfl⟩
    next hnone =>
      split
      · exact .refused _ _ (by decide)
      next hl => exact .taken _ _ ⟨_, Nat.not_lt.1 hr, .inl ⟨hnone, Nat.not_le.1 hl, rfl⟩⟩

/-- LIST-REMOVE (R51). -/
theorem handles_listRemove :
    Handles 0x28 (fun s t => ∃ p, t = withRsu { s.rsu with list := s.rsu.list.filter p } s) answerListRemove := by
  intro body s _
  simp only [answerListRemove]
  split
  · exact .refuse (by decide)
  · exact .taken _ _ ⟨_, rfl⟩

/-- LIST-FLUSH (R52). -/
theorem handles_listFlush :
    Handles 0x29 (fun s t => t = withRsu { s.rsu with list := [] } s) answerListFlush :=
  fun _ _ _ => .taken _ _ rfl

/-! ### The engine's tables -/

/-- An area's Tariff Area Table entry is replaced (R63, R64). -/
def withArea (area : Nat) (entry : AreaEntry) (s : State) : State :=
  withVen { s.ven with areas := s.ven.areas.setIfInBounds area entry } s

/-- AREA-SET (R63). -/
theorem handles_areaSet :
    Handles 0x2C (fun s t => ∃ area entry, entry.ok ∧ t = withArea area entry s) answerAreaSet := by
  intro body s _
  simp only [answerAreaSet]
  have hrate := fieldAt_lt body 1 2
  have hkmin := fieldAt_lt body 3 1
  have hsurcharge := fieldAt_lt body 9 2
  split
  · exact .refuse (by decide)
  split
  · exact .refuse (by decide)
  next hstep =>
    have hmem : fieldAt body 4 1 ∈ roundingSteps := by simpa using hstep
    exact .taken _ _ ⟨_, _, ⟨hrate, hkmin, hmem, Nat.min_le_left _ _, hsurcharge, Nat.min_le_left _ _,
      Nat.min_le_left _ _⟩, rfl⟩

/-- ACCEPT-MAP (R64). -/
theorem handles_acceptMap :
    Handles 0x2D
      (fun s t => ∃ area accept, area ≤ 7 ∧ t = withArea area { s.ven.areaOf area with accept := accept } s)
      answerAcceptMap := by
  intro body s _
  simp only [answerAcceptMap]
  split
  · exact .refuse (by decide)
  next h => exact .taken _ _ ⟨fieldAt body 0 1, _, by omega, rfl⟩

/-- CLASS-SET (R91). -/
theorem handles_classSet :
    Handles 0x2E (fun s t => ∃ m1, 100 ≤ m1 ∧ m1 ≤ 250 ∧ t = withVen { s.ven with m1 := m1 } s) answerClassSet := by
  intro body s _
  obtain ⟨hlow, hhigh⟩ := clampNat_bounds (lo := 100) (hi := 250) (by decide) (fieldAt body 0 1)
  exact .taken _ _ ⟨_, hlow, hhigh, rfl⟩

/-- A finding's policy is replaced, unless it is fixed (R76). -/
def Ven.setPolicy (f : Finding) (p : Policy) (v : Ven) : Ven :=
  if f.fixed then v else { v with policies := v.policies.setIfInBounds (f.code - 1) p }

/-- POLICY-SET (R76). -/
theorem handles_policySet :
    Handles 0x2F (fun s t => ∃ f p, t = withVen (s.ven.setPolicy f p) s) answerPolicySet := by
  intro body s _
  simp only [answerPolicySet]
  split
  · exact .taken _ _ ⟨_, _, rfl⟩
  · exact .refuse (by decide)

/-! ### Cases, the register and the card line -/

/-- CASE-RESOLVE (R121). -/
theorem handles_caseResolve :
    Handles 0x30
      (fun s t => ∃ serial c d, findCase serial s.ctb.cases = some c ∧ decisionAllowed d c = true ∧
        t = closeCase d (decisionEffects d c s).2.1 (decisionEffects d c s).2.2 c (decisionEffects d c s).1)
      answerCaseResolve := by
  intro body s _
  simp only [answerCaseResolve]
  split
  · exact .refuse (by decide)
  next c hc =>
    split
    · exact .refuse (by decide)
    next d _ =>
      split
      · exact .refuse (by decide)
      next hd => exact .taken _ _ ⟨fieldAt body 0 2, c, d, hc, by simpa using hd, rfl⟩

/-- CASE-QUOTE (R97). -/
theorem handles_caseQuote :
    Handles 0x31
      (fun s t => ∃ serial q, t = withCtb { s.ctb with cases := setQuote serial q s.ctb.cases } s) answerCaseQuote := by
  intro body s _
  simp only [answerCaseQuote]
  split
  · exact .refuse (by decide)
  split
  · exact .refuse (by decide)
  split
  · exact .refuse (by decide)
  split
  · exact .refuse (by decide)
  split
  · exact .refuse (by decide)
  · exact .taken _ _ ⟨_, _, rfl⟩

/-- CASE-TIMEOUT (R126). -/
theorem handles_caseTimeout :
    Handles 0x32 (fun s t => ∃ minutes, 1 ≤ minutes ∧ minutes ≤ 60 ∧ t = withCtb { s.ctb with timeout := minutes } s)
      answerCaseTimeout := by
  intro body s _
  obtain ⟨hlow, hhigh⟩ := clampNat_bounds (lo := 1) (hi := 60) (by decide) (fieldAt body 0 1)
  exact .taken _ _ ⟨_, hlow, hhigh, rfl⟩

/-- The IRG changes. -/
def withIrg (g : Irg) (s : State) : State := { s with irg := g }

/-- PASSBACK-SET (R106). -/
theorem handles_passbackSet :
    Handles 0x33 (fun s t => ∃ w, w ≤ 600 ∧ t = withIrg { s.irg with passback := w } s) answerPassbackSet :=
  fun _ _ _ => .taken _ _ ⟨_, Nat.min_le_left _ _, rfl⟩

/-- CARD-OPTIONS (R149). -/
theorem handles_cardOptions :
    Handles 0x34 (fun s t => ∃ quiet, t = withCiu { s.ciu with quiet := quiet } s) answerCardOptions := by
  intro body s _
  simp only [answerCardOptions]
  split
  · exact .taken _ _ ⟨false, rfl⟩
  · exact .taken _ _ ⟨true, rfl⟩
  · exact .refuse (by decide)

/-! ### The journal -/

/-- JOURNAL-READ (R178). -/
theorem handles_journalRead :
    Handles 0x38 (fun s t => t = s ∨ t = withJnl s.jnl.stopBatch s) answerJournalRead := by
  intro body s _
  refine .taken _ _ ?_
  split
  · exact .inr rfl
  · exact .inl rfl

/-- JOURNAL-RELEASE (R179). -/
theorem handles_journalRelease :
    Handles 0x39 (fun s t => ∃ upTo, t = withJnl (s.jnl.release upTo) s) answerJournalRelease :=
  fun _ _ _ => .taken _ _ ⟨_, rfl⟩

/-- JOURNAL-TIMERS (R182). -/
theorem handles_journalTimers :
    Handles 0x3A
      (fun s t => ∃ q a step lowArmed, q ≤ 255 ∧ a ≤ 3600 ∧ 1 ≤ step ∧ step ≤ 3 ∧
        t = withJnl { s.jnl with quietSetting := q, absoluteSetting := a, lowThreshold := thresholdOf step,
                                 lowArmed := lowArmed } s)
      answerJournalTimers := by
  intro body s _
  obtain ⟨hlow, hhigh⟩ := clampNat_bounds (lo := 1) (hi := 3) (by decide) (fieldAt body 4 1)
  exact .taken _ _ ⟨_, _, _, _, Nat.min_le_left _ _, Nat.min_le_left _ _, hlow, hhigh, rfl⟩

end Sys2Proof.Machine
end

section
/-! The frame of every command: which parts of the block it may change, said once for every shared operation and once for
every command, and from that the frames unit by unit (00 "The blocks"). -/

namespace Sys2Proof.Machine

/-! ### Parts of the block -/

/-- The parts of the block: its units and its own records. -/
inductive Part where
  | lif | iq | ciu | dcu | jcu | rsu | ven | irg | ctb | jnl | resetN | timebase | hostSent | cardSent | pending

/-- Two states agree in a part. -/
def Part.Same (s t : State) : Part → Prop
  | .lif => t.lif = s.lif
  | .iq => t.iq = s.iq
  | .ciu => t.ciu = s.ciu
  | .dcu => t.dcu = s.dcu
  | .jcu => t.jcu = s.jcu
  | .rsu => t.rsu = s.rsu
  | .ven => t.ven = s.ven
  | .irg => t.irg = s.irg
  | .ctb => t.ctb = s.ctb
  | .jnl => t.jnl = s.jnl
  | .resetN => t.resetN = s.resetN
  | .timebase => t.timebase = s.timebase
  | .hostSent => t.hostSent = s.hostSent
  | .cardSent => t.cardSent = s.cardSent
  | .pending => t.pending = s.pending

theorem Part.Same.refl (s : State) (p : Part) : p.Same s s := by
  cases p <;> rfl

theorem Part.Same.trans {s t u : State} {p : Part} (h : p.Same s t) (k : p.Same t u) : p.Same s u := by
  cases p <;> exact Eq.trans k h

/-- Nothing but the named parts changes. -/
def ChangesOnly (ps : List Part) (s t : State) : Prop := ∀ p, p ∉ ps → p.Same s t

section
variable {ps qs : List Part} {s t u : State}

theorem ChangesOnly.refl (ps : List Part) (s : State) : ChangesOnly ps s s := fun p _ => Part.Same.refl s p

theorem ChangesOnly.mono (h : ChangesOnly ps s t) (hsub : ∀ p ∈ ps, p ∈ qs) : ChangesOnly qs s t :=
  fun p hp => h p fun hmem => hp (hsub p hmem)

theorem ChangesOnly.trans (h : ChangesOnly ps s t) (k : ChangesOnly ps t u) : ChangesOnly ps s u :=
  fun p hp => (h p hp).trans (k p hp)

/-- Two changes, one after the other, change the parts of either. -/
theorem ChangesOnly.append (h : ChangesOnly ps s t) (k : ChangesOnly qs t u) : ChangesOnly (ps ++ qs) s u :=
  (h.mono fun _ => List.mem_append_left qs).trans (k.mono fun _ => List.mem_append_right ps)

end

/-! ### The shared operations -/

theorem changesOnly_withLif (x : Lif) (s : State) : ChangesOnly [.lif] s (withLif x s) := by
  rintro p hp; cases p <;> simp_all [Part.Same]
theorem changesOnly_withJnl (x : Jnl) (s : State) : ChangesOnly [.jnl] s (withJnl x s) := by
  rintro p hp; cases p <;> simp_all [Part.Same]
theorem changesOnly_withCtb (x : Ctb) (s : State) : ChangesOnly [.ctb] s (withCtb x s) := by
  rintro p hp; cases p <;> simp_all [Part.Same]
theorem changesOnly_withCiu (x : Ciu) (s : State) : ChangesOnly [.ciu] s (withCiu x s) := by
  rintro p hp; cases p <;> simp_all [Part.Same]
theorem changesOnly_withRsu (x : Rsu) (s : State) : ChangesOnly [.rsu] s (withRsu x s) := by
  rintro p hp; cases p <;> simp_all [Part.Same]
theorem changesOnly_withJcu (x : Jcu) (s : State) : ChangesOnly [.jcu] s (withJcu x s) := by
  rintro p hp; cases p <;> simp_all [Part.Same]
theorem changesOnly_withVen (x : Ven) (s : State) : ChangesOnly [.ven] s (withVen x s) := by
  rintro p hp; cases p <;> simp_all [Part.Same]
theorem changesOnly_withKeys (x : List KeyEntry) (s : State) : ChangesOnly [.dcu] s (withKeys x s) := by
  rintro p hp; cases p <;> simp_all [Part.Same]
theorem changesOnly_withIrg (x : Irg) (s : State) : ChangesOnly [.irg] s (withIrg x s) := by
  rintro p hp; cases p <;> simp_all [Part.Same, withIrg]
theorem changesOnly_withMarks (high low : Nat) (s : State) : ChangesOnly [.iq] s (withMarks high low s) := by
  rintro p hp; cases p <;> simp_all [Part.Same, withMarks]
theorem changesOnly_journal (b : JournalBody) (s : State) : ChangesOnly [.lif, .jnl] s (journal b s) := by
  rintro p hp; cases p <;> simp_all [Part.Same]
theorem changesOnly_holdAfterAdd (s : State) : ChangesOnly [.lif, .iq] s (holdAfterAdd s) := by
  rintro p hp; cases p <;> simp_all [Part.Same]
theorem changesOnly_resumeAfterTake (s : State) : ChangesOnly [.lif, .iq] s (resumeAfterTake s) := by
  rintro p hp; cases p <;> simp_all [Part.Same]
theorem changesOnly_addEntry (o : Origin) (x : List Byte) (s : State) : ChangesOnly [.lif, .iq] s (addEntry o x s) := by
  rintro p hp; cases p <;> simp_all [Part.Same]
theorem changesOnly_closeCase (o : CaseOutcome) (r : RideOutcome) (n : Option Nat) (c : Case) (s : State) :
    ChangesOnly [.lif, .irg, .ctb, .jnl] s (closeCase o r n c s) := by
  rintro p hp; cases p <;> simp_all [Part.Same]
theorem changesOnly_timeOutCases (s : State) : ChangesOnly [.lif, .irg, .ctb, .jnl] s (timeOutCases s) := by
  rintro p hp; cases p <;> simp_all [Part.Same]
theorem changesOnly_decisionEffects (d : CaseOutcome) (c : Case) (s : State) :
    ChangesOnly [.ciu, .irg, .ctb] s (decisionEffects d c s).1 := by
  rintro p hp; cases p <;> simp_all [Part.Same]
theorem changesOnly_enterClosing (s : State) : ChangesOnly [.lif, .jcu] s (enterClosing s) := by
  rintro p hp; cases p <;> simp_all [Part.Same]
theorem changesOnly_tryStaged (j : Running) (k : Nat) (s : State) :
    ChangesOnly [.lif, .jcu, .jnl] s (tryStaged j k s).1 := by
  rintro p hp; cases p <;> simp_all [Part.Same]
theorem changesOnly_depart (k : Nat) (s : State) : ChangesOnly [.jcu] s (depart k s) := by
  rintro p hp; cases p <;> simp_all [Part.Same]
theorem changesOnly_issue (ofParked : Bool) (s : State) :
    ChangesOnly [.lif, .ven, .irg, .ctb, .ciu, .jnl] s (issue ofParked s) := by
  rintro p hp; cases p <;> simp_all [Part.Same]
theorem changesOnly_checkComplete (s : State) : ChangesOnly [.ven, .irg, .ciu] s (checkComplete s) := by
  rintro p hp; cases p <;> simp_all [Part.Same]
theorem changesOnly_setAwaitsGap (w : Bool) (s : State) : ChangesOnly [.ciu] s (setAwaitsGap w s) := by
  rintro p hp; cases p <;> simp_all [Part.Same]
theorem changesOnly_lineError (e : CardEventKind) (s : State) : ChangesOnly [.lif, .ciu] s (lineError e s) := by
  rintro p hp; cases p <;> simp_all [Part.Same]
theorem changesOnly_cardUp (x : List Byte) (s : State) :
    ChangesOnly [.lif, .ciu, .ven, .irg, .ctb, .jnl] s (cardUp x s) := by
  rintro p hp; cases p <;> simp_all [Part.Same]
theorem changesOnly_cardDown (s : State) : ChangesOnly [.lif, .ciu, .ven, .irg, .ctb, .jnl] s (cardDown s) := by
  rintro p hp; cases p <;> simp_all [Part.Same]
theorem changesOnly_written (r : WriteResult) (s : State) :
    ChangesOnly [.lif, .ciu, .ven, .irg, .ctb, .jnl] s (written r s) := by
  rintro p hp; cases p <;> simp_all [Part.Same]
theorem changesOnly_writeTimerExpiry (s : State) :
    ChangesOnly [.lif, .ciu, .ven, .irg, .ctb, .jnl] s (writeTimerExpiry s) := by
  rintro p hp; cases p <;> simp_all [Part.Same]
theorem changesOnly_block (i : Byte) (d : List Byte) (s : State) : ChangesOnly [.lif, .iq, .ciu] s (block i d s) := by
  rintro p hp; cases p <;> simp_all [Part.Same]
theorem changesOnly_readTimerExpiry (s : State) : ChangesOnly [.lif, .ciu] s (readTimerExpiry s) := by
  rintro p hp; cases p <;> simp_all [Part.Same]
theorem changesOnly_frameCutShort (idle : Bool) (s : State) : ChangesOnly [.lif, .ciu] s (frameCutShort idle s) := by
  rintro p hp; cases p <;> simp_all [Part.Same]
theorem changesOnly_framingError (s : State) : ChangesOnly [.lif, .ciu] s (framingError s) := by
  rintro p hp; cases p <;> simp_all [Part.Same]
theorem changesOnly_toIssue (ev : Evaluation) (s : State) : ChangesOnly [.ven] s (toIssue ev s) :=
  changesOnly_withVen _ s

theorem changesOnly_cardFrameSent (s : State) : ChangesOnly [.ciu, .cardSent] s (cardFrameSent s) := by
  unfold cardFrameSent
  split
  · exact .refl _ s
  · rintro p hp; cases p <;> simp_all [Part.Same]

theorem changesOnly_frameSent (s : State) : ChangesOnly [.lif, .hostSent] s (frameSent s) := by
  unfold frameSent
  split
  · rintro p hp; cases p <;> simp_all [Part.Same]
  · exact .refl _ s

theorem changesOnly_caseClosedQueued (s : State) : ChangesOnly [.lif, .ctb] s (caseClosedQueued s) := by
  unfold caseClosedQueued
  split
  · exact .refl _ s
  split
  · rintro p hp; cases p <;> simp_all [Part.Same]
  · exact .refl _ s

theorem changesOnly_reportBatch (s : State) : ChangesOnly [.lif, .jnl] s (reportBatch s) := by
  rintro p hp; cases p <;> simp_all [Part.Same, reportBatch]

theorem changesOnly_reportBatchWhen (due : Bool) (s : State) :
    ChangesOnly [.lif, .jnl] s (if due then reportBatch s else s) := by
  split
  · exact changesOnly_reportBatch s
  · exact .refl _ s

theorem changesOnly_millisecond (s : State) : ChangesOnly [.jcu, .timebase] s (millisecond s) := by
  rintro p hp; cases p <;> simp_all [Part.Same, millisecond]

theorem changesOnly_answerReset (body : List Byte) (s : State) :
    ChangesOnly [.lif, .iq, .jcu, .ven, .irg, .ctb, .ciu, .jnl] s (answerReset body s).1 := by
  rintro p hp; cases p <;> simp_all [Part.Same, answerReset, okReply, startNotice, softReset]

theorem foldl_changesOnly {α : Type} {ps : List Part} {f : State → α → State} (hf : ∀ s a, ChangesOnly ps s (f s a))
    (as : List α) (s : State) : ChangesOnly ps s (as.foldl f s) := by
  induction as generalizing s with
  | nil => exact .refl ps s
  | cons a as ih => exact (hf s a).trans (ih (f s a))

theorem changesOnly_completeCase (s : State) (c : Case) :
    ChangesOnly [.lif, .irg, .ctb, .jnl] s (completeCase s c) := by
  rintro p hp; cases p <;> simp_all [Part.Same]

theorem changesOnly_closeCompletion (s : State) :
    ChangesOnly [.lif, .jcu, .irg, .ctb, .jnl] s (closeCompletion s) := by
  unfold closeCompletion
  split
  case h_2 => exact .refl _ s
  split
  case isFalse => exact .refl _ s
  next j _ _ =>
    have hcases := foldl_changesOnly changesOnly_completeCase s.ctb.cases s
    have hrest : ChangesOnly [.lif, .jcu, .irg, .jnl] (s.ctb.cases.foldl completeCase s) (completeClose j s) := by
      rintro p hp; cases p <;> simp_all [Part.Same, completeClose]
    exact (hcases.append hrest).mono (by simp)

/-! ### The take of an entry reaches neither the register nor the card unit (R17) -/

theorem Evaluation.has_raise_self (f : Finding) (ev : Evaluation) : (ev.raise f).has f = true := by
  unfold Evaluation.raise Evaluation.has
  split
  · assumption
  · simp

/-- An evaluation found untrusted goes to ISSUE from CHECK with the findings of CHECK and SCREEN (R17). -/
theorem afterCheck_untrusted {c : Credential} {ev : Evaluation} {s : State}
    (h : ev.has .issuerUnknown = true ∨ ev.has .keyWithdrawn = true ∨ ev.has .checkMismatch = true) :
    afterCheck c ev s = toIssue (policyStage s.ven (screenStage c s { ev with trust := .untrusted })) s := by
  have hu : (ev.has .issuerUnknown || ev.has .keyWithdrawn || ev.has .checkMismatch) = true := by
    simpa [or_assoc] using h
  simp [afterCheck, hu]

theorem changesOnly_startEvaluation (ev : Evaluation) (s : State) : ChangesOnly [.ven] s (startEvaluation ev s) := by
  unfold startEvaluation
  split
  · exact changesOnly_toIssue _ s
  unfold startCheck
  split
  · rw [afterCheck_untrusted (.inl (Evaluation.has_raise_self _ _))]
    exact changesOnly_toIssue _ s
  split
  · rw [afterCheck_untrusted (.inr (.inl (Evaluation.has_raise_self _ _)))]
    exact changesOnly_toIssue _ s
  · exact changesOnly_withVen _ s
  · exact changesOnly_withVen _ s

theorem changesOnly_engineTake (s : State) : ChangesOnly [.lif, .iq, .ven] s (engineTake s) := by
  unfold engineTake
  split
  case h_2 => exact .refl _ s
  split
  case isFalse => exact .refl _ s
  next e rest j he hj hc =>
    have hentries : ChangesOnly [.iq] s { s with iq := { s.iq with entries := rest } } := by
      rintro p hp; cases p <;> simp_all [Part.Same]
    exact ((hentries.append (changesOnly_resumeAfterTake _)).append (changesOnly_startEvaluation _ _)).mono (by simp)

/-! ### Commands in general -/

theorem changesOnly_fillReply {ps : List Part} {s t : State} {r : OutFrame} (h : ChangesOnly (.lif :: ps) s t) :
    ChangesOnly (.lif :: ps) s (fillReply r t) :=
  h.trans ((changesOnly_withLif _ t).mono (by simp))

/-- The take of a request changes the link, and what its unit changes. -/
theorem Handles.changesOnly {kind : Nat} {P : State → State → Prop} {h : List Byte → State → Answer} {ps : List Part}
    (hh : Handles kind P h) (hp : ∀ s t, P s t → ChangesOnly (.lif :: ps) s t) (s : State) :
    ChangesOnly (.lif :: ps) s (takeRequest kind h s) := by
  rcases takeRequest_cases hh s with he | ⟨frame, rest, reply, t, -, -, ht, he⟩ <;> rw [he]
  · exact .refl _ s
  · have hreserve : ChangesOnly (.lif :: ps) s (reserveSlot rest s) := (changesOnly_withLif _ s).mono (by simp)
    rcases ht with rfl | ht
    · exact changesOnly_fillReply hreserve
    · exact changesOnly_fillReply (hreserve.trans (hp _ _ ht))

theorem changesOnly_whenRunning {ps : List Part} {f : State → State} (hf : ∀ s, ChangesOnly ps s (f s)) (s : State) :
    ChangesOnly ps s (whenRunning f s) := by
  unfold whenRunning
  split
  · exact hf s
  · exact .refl ps s

/-- The reception of a card-line frame changes the card unit and the link, and what its row changes. -/
theorem changesOnly_receiveFrame {ps : List Part} {own : CardReceived → State → State} {idle : Bool} {frame : List Byte}
    (hown : ∀ r s, ChangesOnly (.lif :: .ciu :: ps) s (own r s)) (s : State) :
    ChangesOnly (.lif :: .ciu :: ps) s (whenRunning (receiveFrame own idle frame) s) := by
  refine changesOnly_whenRunning (fun s => ?_) s
  have hlisten {f : State → State} (hf : ∀ s, ChangesOnly (.lif :: .ciu :: ps) s (f s)) :
      ChangesOnly (.lif :: .ciu :: ps) s (whenListening idle f s) := by
    rcases whenListening_cases idle f s with ⟨-, he⟩ | ⟨-, -, he⟩ <;> rw [he]
    · exact ((changesOnly_setAwaitsGap false s).mono (by simp)).trans (hf _)
    · exact .refl _ s
  rcases receiveFrame_cases own idle frame s with ⟨-, he⟩ | ⟨r, -, he⟩ <;> rw [he]
  · exact hlisten fun s => (changesOnly_lineError .check s).mono (by simp)
  · exact hlisten (hown r)

/-- Every unit but the lines' records and the waiting commands: what a hard reset reaches (R170). -/
def allUnits : List Part :=
  [.lif, .iq, .ciu, .dcu, .jcu, .rsu, .ven, .irg, .ctb, .jnl, .resetN, .timebase]

theorem changesOnly_startNotice_hardReset (cause : StartCause) (s : State) :
    ChangesOnly allUnits s (startNotice cause (hardReset s)) := by
  rintro p hp; cases p <;> simp_all [Part.Same, allUnits, hardReset]

theorem changesOnly_resetNLow (s : State) : ChangesOnly (.hostSent :: .cardSent :: allUnits) s (resetNLow s) := by
  rintro p hp; cases p <;> simp_all [Part.Same, allUnits, hardReset, resetNLow]

theorem changesOnly_unknownRequest (s : State) : ChangesOnly [.lif] s (effect .unknownRequest s) := by
  refine changesOnly_whenRunning (fun s => ?_) s
  rcases takeFrame_cases (fun frame => !isRequestKind frame.kind.toNat)
    (fun frame s => (s, .reply 0x7F#8 frame.tag (u8 Status.unknown.code))) s with he | ⟨frame, rest, -, -, -, he⟩ <;> rw [he]
  · exact .refl _ s
  · exact changesOnly_fillReply (changesOnly_withLif _ s)

/-! ### The parts each command may change -/

/-- The parts that a command may change. -/
def partsOf : Instr → List Part
  | .powerOn | .resetNHigh => allUnits
  | .resetNLow => .hostSent :: .cardSent :: allUnits
  | .frameSent => [.lif, .hostSent]
  | .reset => [.lif, .iq, .jcu, .ven, .irg, .ctb, .ciu, .jnl]
  | .intakeMarks | .present => [.lif, .iq]
  | .clockSet => [.lif, .jcu, .irg, .ctb, .jnl]
  | .clockMillisecond => [.jcu, .timebase]
  | .trimSecond => [.jcu]
  | .journeyOpen | .stopDepart => [.lif, .jcu, .jnl]
  | .closeCompletion => [.lif, .jcu, .irg, .ctb, .jnl]
  | .clockTrim | .journeyClose | .routeBegin | .routeStops | .routeArm | .routeCancel | .stopArrive | .carriageSet
  | .delaySet => [.lif, .jcu]
  | .keyLoad | .keyState | .keyDrop => [.lif, .dcu]
  | .filterBegin | .filterSegment | .filterCommit | .listAdd | .listRemove | .listFlush => [.lif, .rsu]
  | .areaSet | .acceptMap | .classSet | .policySet => [.lif, .ven]
  | .caseResolve => [.lif, .ciu, .irg, .ctb, .jnl]
  | .caseClosedQueued | .caseQuote | .caseTimeout => [.lif, .ctb]
  | .caseDeadlineReached => [.lif, .irg, .ctb, .jnl]
  | .passbackSet => [.lif, .irg]
  | .cardOptions | .readTimerExpiry | .cardCheckError _ _ | .cardFrameCutShort _ | .cardFramingError => [.lif, .ciu]
  | .journalRead | .journalRelease | .journalTimers | .quietTimerExpiry | .absoluteTimerExpiry => [.lif, .jnl]
  | .engineTake => [.lif, .iq, .ven]
  | .checkComplete => [.ven, .irg, .ciu]
  | .issue _ => [.lif, .ven, .irg, .ctb, .ciu, .jnl]
  | .cardUp _ _ | .cardDown _ _ | .written _ _ | .writeTimerExpiry => [.lif, .ciu, .ven, .irg, .ctb, .jnl]
  | .block _ _ => [.lif, .ciu, .iq]
  | .cardFrameSent => [.ciu, .cardSent]
  | .hostFrameReceived _ _ _ _ | .lengthFault _ _ | .hostStopBitFault _ | .gapFault _ | .markerWake | .waitingNoticeEnter
  | .pendingNoticeEnter | .unknownRequest | .status | .standby => [.lif]

theorem changesOnly_linkEvent (f : Lif → Lif) (s : State) :
    ChangesOnly [.lif] s (whenRunning (fun s => withLif (f s.lif) s) s) :=
  changesOnly_whenRunning (fun s => changesOnly_withLif (f s.lif) s) s

/-- Every command changes at most its parts. -/
theorem effect_changesOnly (c : Instr) (s : State) : ChangesOnly (partsOf c) s (effect c s) := by
  have addLif {q : Part} {s t : State} (h : ChangesOnly [q] s t) : ChangesOnly [.lif, q] s t := h.mono (by simp)
  cases c
  -- the hard resets
  case powerOn => exact changesOnly_startNotice_hardReset .power s
  case resetNLow => exact changesOnly_whenRunning changesOnly_resetNLow s
  case resetNHigh =>
    change ChangesOnly allUnits s (if s.resetN then s else startNotice .line (hardReset s))
    split
    · exact .refl _ s
    · exact changesOnly_startNotice_hardReset .line s
  -- the link
  case hostFrameReceived kind tag body crc => exact changesOnly_linkEvent (frameReceived kind tag body crc) s
  case lengthFault kind tag => exact changesOnly_linkEvent (faultFrame .length (some (kind, tag))) s
  case hostStopBitFault header => exact changesOnly_linkEvent (faultFrame .crc header) s
  case gapFault header => exact changesOnly_linkEvent (faultFrame .gap header) s
  case markerWake => exact changesOnly_linkEvent markerReceived s
  case frameSent => exact changesOnly_whenRunning changesOnly_frameSent s
  case waitingNoticeEnter => exact changesOnly_linkEvent waitingEnter s
  case pendingNoticeEnter => exact changesOnly_linkEvent pendingEnter s
  case unknownRequest => exact changesOnly_unknownRequest s
  case status => exact handles_status.changesOnly (by rintro s _ rfl; exact .refl _ _) s
  case standby => exact handles_standby.changesOnly (by rintro s _ ⟨-, rfl⟩; exact changesOnly_withLif _ s) s
  case reset => exact handles_reset.changesOnly (by rintro s _ rfl; exact changesOnly_answerReset [] s) s
  -- the Intake Queue
  case intakeMarks =>
    refine handles_intakeMarks.changesOnly (ps := [.iq]) ?_ s
    rintro s _ ⟨high, low, -, -, -, rfl⟩
    have hmarks := changesOnly_withMarks high low s
    split
    · exact (hmarks.append (changesOnly_resumeAfterTake _)).mono (by simp)
    · exact (hmarks.append (changesOnly_holdAfterAdd _)).mono (by simp)
  case present => exact handles_present.changesOnly (by rintro s _ ⟨-, x, rfl⟩; exact changesOnly_addEntry _ _ s) s
  -- the journey
  case clockSet =>
    refine handles_clockSet.changesOnly (ps := [.jcu, .irg, .ctb, .jnl]) ?_ s
    rintro s _ ⟨seconds, millis, -, -, rfl⟩
    exact ((changesOnly_withJcu _ s).append (changesOnly_timeOutCases _)).mono (by simp)
  case clockTrim =>
    exact handles_clockTrim.changesOnly (by rintro s _ ⟨_, -, -, rfl⟩; exact addLif (changesOnly_withJcu _ s)) s
  case clockMillisecond => exact changesOnly_whenRunning changesOnly_millisecond s
  case trimSecond => exact changesOnly_whenRunning (fun s => changesOnly_withJcu _ s) s
  case journeyOpen =>
    refine handles_journeyOpen.changesOnly (ps := [.jcu, .jnl]) ?_ s
    rintro s _ ⟨start, r, b, -, -, -, -, rfl⟩
    exact ((changesOnly_withJcu _ s).append (changesOnly_journal b _)).mono (by simp)
  case journeyClose =>
    refine handles_journeyClose.changesOnly (ps := [.jcu]) ?_ s
    rintro s _ ⟨-, rfl | rfl⟩
    · exact changesOnly_enterClosing s
    · exact addLif (changesOnly_withJcu _ s)
  case closeCompletion => exact changesOnly_whenRunning changesOnly_closeCompletion s
  case routeBegin =>
    exact handles_routeBegin.changesOnly
      (by rintro s _ ⟨_, _, _, -, -, -, -, -, rfl⟩; exact addLif (changesOnly_withJcu _ s)) s
  case routeStops =>
    exact handles_routeStops.changesOnly
      (by rintro s _ ⟨_, _, _, _, _, -, -, -, rfl⟩; exact addLif (changesOnly_withJcu _ s)) s
  case routeArm =>
    exact handles_routeArm.changesOnly
      (by rintro s _ ⟨_, _, _, _, -, -, -, rfl⟩; exact addLif (changesOnly_withJcu _ s)) s
  case routeCancel =>
    exact handles_routeCancel.changesOnly (by rintro s _ rfl; exact addLif (changesOnly_withJcu _ s)) s
  case stopArrive =>
    refine handles_stopArrive.changesOnly (ps := [.jcu]) ?_ s
    rintro s _ ⟨j, i, k, -, -, -, -, -, rfl⟩
    have harrived : ChangesOnly [.lif, .jcu] s (arrivedAt j k s) := addLif (changesOnly_withJcu _ s)
    split
    · exact harrived.trans (changesOnly_enterClosing _)
    · exact harrived
  case stopDepart =>
    refine handles_stopDepart.changesOnly (ps := [.jcu, .jnl]) ?_ s
    rintro s _ ⟨j, k, -, -, -, -, rfl⟩
    exact ((changesOnly_tryStaged j k s).append (changesOnly_depart _ _)).mono (by simp)
  case carriageSet =>
    exact handles_carriageSet.changesOnly (by rintro s _ ⟨_, _, -, -, rfl⟩; exact addLif (changesOnly_withJcu _ s)) s
  case delaySet =>
    exact handles_delaySet.changesOnly (by rintro s _ ⟨-, _, -, -, rfl⟩; exact addLif (changesOnly_withJcu _ s)) s
  -- keys and screening
  case keyLoad =>
    refine handles_keyLoad.changesOnly (ps := [.dcu]) ?_ s
    rintro s _ ⟨entry, -, ⟨-, -, rfl⟩ | rfl⟩ <;> exact addLif (changesOnly_withKeys _ s)
  case keyState =>
    exact handles_keyState.changesOnly (by rintro s _ ⟨_, _, _, _, -, rfl⟩; exact addLif (changesOnly_withKeys _ s)) s
  case keyDrop =>
    exact handles_keyDrop.changesOnly (by rintro s _ ⟨_, _, rfl⟩; exact addLif (changesOnly_withKeys _ s)) s
  case filterBegin =>
    exact handles_filterBegin.changesOnly (by rintro s _ ⟨_, _, -, rfl⟩; exact addLif (changesOnly_withRsu _ s)) s
  case filterSegment =>
    exact handles_filterSegment.changesOnly
      (by rintro s _ ⟨_, _, _, -, -, rfl⟩; exact addLif (changesOnly_withRsu _ s)) s
  case filterCommit =>
    exact handles_filterCommit.changesOnly (by rintro s _ ⟨_, -, rfl⟩; exact addLif (changesOnly_withRsu _ s)) s
  case listAdd =>
    refine handles_listAdd.changesOnly (ps := [.rsu]) ?_ s
    rintro s _ ⟨entry, -, ⟨-, -, rfl⟩ | rfl⟩ <;> exact addLif (changesOnly_withRsu _ s)
  case listRemove =>
    exact handles_listRemove.changesOnly (by rintro s _ ⟨_, rfl⟩; exact addLif (changesOnly_withRsu _ s)) s
  case listFlush =>
    exact handles_listFlush.changesOnly (by rintro s _ rfl; exact addLif (changesOnly_withRsu _ s)) s
  -- the engine's tables
  case areaSet =>
    exact handles_areaSet.changesOnly (by rintro s _ ⟨_, _, -, rfl⟩; exact addLif (changesOnly_withVen _ s)) s
  case acceptMap =>
    exact handles_acceptMap.changesOnly (by rintro s _ ⟨_, _, -, rfl⟩; exact addLif (changesOnly_withVen _ s)) s
  case classSet =>
    exact handles_classSet.changesOnly (by rintro s _ ⟨_, -, -, rfl⟩; exact addLif (changesOnly_withVen _ s)) s
  case policySet =>
    exact handles_policySet.changesOnly (by rintro s _ ⟨_, _, rfl⟩; exact addLif (changesOnly_withVen _ s)) s
  -- cases and the register
  case caseResolve =>
    refine handles_caseResolve.changesOnly (ps := [.ciu, .irg, .ctb, .jnl]) ?_ s
    rintro s _ ⟨serial, c, d, -, -, rfl⟩
    exact ((changesOnly_decisionEffects d c s).append (changesOnly_closeCase _ _ _ c _)).mono (by simp)
  case caseClosedQueued => exact changesOnly_whenRunning changesOnly_caseClosedQueued s
  case caseQuote =>
    exact handles_caseQuote.changesOnly (by rintro s _ ⟨_, _, rfl⟩; exact addLif (changesOnly_withCtb _ s)) s
  case caseTimeout =>
    exact handles_caseTimeout.changesOnly (by rintro s _ ⟨_, -, -, rfl⟩; exact addLif (changesOnly_withCtb _ s)) s
  case caseDeadlineReached => exact changesOnly_whenRunning changesOnly_timeOutCases s
  case passbackSet =>
    exact handles_passbackSet.changesOnly (by rintro s _ ⟨_, -, rfl⟩; exact addLif (changesOnly_withIrg _ s)) s
  -- the journal
  case journalRead =>
    refine handles_journalRead.changesOnly (ps := [.jnl]) ?_ s
    rintro s _ (rfl | rfl)
    · exact .refl _ _
    · exact addLif (changesOnly_withJnl _ s)
  case journalRelease =>
    exact handles_journalRelease.changesOnly (by rintro s _ ⟨_, rfl⟩; exact addLif (changesOnly_withJnl _ s)) s
  case journalTimers =>
    exact handles_journalTimers.changesOnly
      (by rintro s _ ⟨_, _, _, _, -, -, -, -, rfl⟩; exact addLif (changesOnly_withJnl _ s)) s
  case quietTimerExpiry =>
    exact changesOnly_whenRunning (fun s => changesOnly_reportBatchWhen (batchDue s.jnl.quietTimer s.timebase) s) s
  case absoluteTimerExpiry =>
    exact changesOnly_whenRunning (fun s => changesOnly_reportBatchWhen (batchDue s.jnl.absoluteTimer s.timebase) s) s
  -- the engine
  case engineTake => exact changesOnly_whenRunning changesOnly_engineTake s
  case checkComplete => exact changesOnly_whenRunning changesOnly_checkComplete s
  case issue ofParked => exact changesOnly_whenRunning (changesOnly_issue ofParked) s
  -- the card line
  case cardOptions =>
    exact handles_cardOptions.changesOnly (by rintro s _ ⟨_, rfl⟩; exact addLif (changesOnly_withCiu _ s)) s
  case cardUp idle frame =>
    refine changesOnly_receiveFrame (ps := [.ven, .irg, .ctb, .jnl]) ?_ s
    rintro (identifier | _ | _ | _) s
    · exact changesOnly_cardUp identifier s
    all_goals exact .refl _ s
  case block idle frame =>
    refine changesOnly_receiveFrame (ps := [.iq]) ?_ s
    rintro (_ | ⟨index, data⟩ | _ | _) s
    case block => exact (changesOnly_block index data s).mono (by simp)
    all_goals exact .refl _ s
  case cardDown idle frame =>
    refine changesOnly_receiveFrame (ps := [.ven, .irg, .ctb, .jnl]) ?_ s
    rintro (_ | _ | _ | _) s
    case cardDown => exact changesOnly_cardDown s
    all_goals exact .refl _ s
  case written idle frame =>
    refine changesOnly_receiveFrame (ps := [.ven, .irg, .ctb, .jnl]) ?_ s
    rintro (_ | _ | _ | result) s
    case written => exact changesOnly_written result s
    all_goals exact .refl _ s
  case writeTimerExpiry => exact changesOnly_whenRunning changesOnly_writeTimerExpiry s
  case readTimerExpiry => exact changesOnly_whenRunning changesOnly_readTimerExpiry s
  case cardCheckError idle frame => exact changesOnly_receiveFrame (ps := []) (fun _ s => .refl _ s) s
  case cardFrameCutShort idle => exact changesOnly_whenRunning (changesOnly_frameCutShort idle) s
  case cardFramingError => exact changesOnly_whenRunning changesOnly_framingError s
  case cardFrameSent => exact changesOnly_whenRunning changesOnly_cardFrameSent s

/-! ### The frames, unit by unit -/

section
variable {c : Instr} (s : State)

theorem effect_iq (h : reachesIntake c = false) : (effect c s).iq = s.iq :=
  effect_changesOnly c s .iq (by cases c <;> revert h <;> simp [reachesIntake, hardResets, partsOf])
theorem effect_dcu (h : reachesKeys c = false) : (effect c s).dcu = s.dcu :=
  effect_changesOnly c s .dcu (by cases c <;> revert h <;> simp [reachesKeys, hardResets, partsOf])
theorem effect_jcu (h : reachesJourney c = false) : (effect c s).jcu = s.jcu :=
  effect_changesOnly c s .jcu (by cases c <;> revert h <;> simp [reachesJourney, hardResets, partsOf])
theorem effect_rsu (h : reachesScreen c = false) : (effect c s).rsu = s.rsu :=
  effect_changesOnly c s .rsu (by cases c <;> revert h <;> simp [reachesScreen, hardResets, partsOf])
theorem effect_ven (h : reachesEngine c = false) : (effect c s).ven = s.ven :=
  effect_changesOnly c s .ven (by cases c <;> revert h <;> simp [reachesEngine, endsWrites, hardResets, partsOf])
theorem effect_irg (h : reachesRegister c = false) : (effect c s).irg = s.irg :=
  effect_changesOnly c s .irg
    (by cases c <;> revert h <;> simp [reachesRegister, closesCases, endsWrites, hardResets, partsOf])
theorem effect_ctb (h : reachesCases c = false) : (effect c s).ctb = s.ctb :=
  effect_changesOnly c s .ctb
    (by cases c <;> revert h <;> simp [reachesCases, closesCases, endsWrites, hardResets, partsOf])
theorem effect_ciu (h : reachesCard c = false) : (effect c s).ciu = s.ciu :=
  effect_changesOnly c s .ciu (by cases c <;> revert h <;> simp [reachesCard, endsWrites, hardResets, partsOf])
theorem effect_jnl (h : reachesJournal c = false) : (effect c s).jnl = s.jnl :=
  effect_changesOnly c s .jnl
    (by cases c <;> revert h <;> simp [reachesJournal, closesCases, endsWrites, hardResets, partsOf])
theorem effect_resetN (h : hardResets c = false) : (effect c s).resetN = s.resetN :=
  effect_changesOnly c s .resetN (by cases c <;> revert h <;> simp [hardResets, partsOf])
theorem effect_timebase (hms : c ≠ .clockMillisecond) (h : hardResets c = false) : (effect c s).timebase = s.timebase :=
  effect_changesOnly c s .timebase (by cases c <;> revert h hms <;> simp [hardResets, partsOf])
theorem effect_hostSent (hsent : c ≠ .frameSent) (hlow : c ≠ .resetNLow) : (effect c s).hostSent = s.hostSent :=
  effect_changesOnly c s .hostSent (by cases c <;> revert hsent hlow <;> simp [partsOf, allUnits])
theorem effect_cardSent (hsent : c ≠ .cardFrameSent) (hlow : c ≠ .resetNLow) : (effect c s).cardSent = s.cardSent :=
  effect_changesOnly c s .cardSent (by cases c <;> revert hsent hlow <;> simp [partsOf, allUnits])
theorem effect_pending (c : Instr) (s : State) : (effect c s).pending = s.pending :=
  effect_changesOnly c s .pending (by cases c <;> simp [partsOf, allUnits])

end

/-- Settles O59: a part that a command does not reach is not among its parts. -/
theorem unitsChangeByTheirCommands : Obligations.UnitsChangeByTheirCommands := by
  intro c s t h
  obtain rfl := eq_effect_of_exec h
  exact ⟨effect_iq s, effect_dcu s, effect_jcu s, effect_rsu s, effect_ven s, effect_irg s, effect_ctb s, effect_ciu s,
    effect_jnl s, effect_resetN s, effect_timebase s, effect_hostSent s, effect_cardSent s, effect_pending c s⟩

/-! ### The step and the reset -/

/-- Settles O1: a step is its front command, by its definition. -/
theorem stepRunsFrontCommand : Obligations.StepRunsFrontCommand := by
  refine ⟨fun c rest s => rfl, fun s h => ?_⟩
  rw [step, h]

end Sys2Proof.Machine
end

section
/-! The link and the Intake Queue in order: what each operation of the link keeps, and from that every command (R155 to
R168). -/

namespace Sys2Proof.Machine

/-! ### Notices and the wake -/

theorem noneReserved_append {xs ys : List Slot} (hx : noneReserved xs) (hy : noneReserved ys) :
    noneReserved (xs ++ ys) := by
  simpa [noneReserved] using And.intro hx hy

theorem noneReserved_notices (ns : List Notice) : noneReserved (ns.map fun n => .frame (.notice n)) := by
  simp [noneReserved]

theorem noneReserved_of_sublist {xs ys : List Slot} (h : xs.Sublist ys) (hy : noneReserved ys) : noneReserved xs :=
  fun hmem => hy (h.mem hmem)

/-- The production of singleton notices keeps the link in order. -/
theorem Emits.ok {l l' : Lif} (h : Emits l l') (hl : l.ok) : l'.ok := by
  obtain ⟨hreq, hout, hnone, hpend, hwait, hjoin, hstandby, hcount⟩ := hl
  obtain ⟨ns, hns⟩ := h.outbound
  exact ⟨h.requests ▸ hreq, h.room hout, hns ▸ noneReserved_append hnone (noneReserved_notices ns), h.pending hpend,
    h.waiting ▸ hwait, h.waiting ▸ hjoin, h.waiting ▸ h.power ▸ hstandby, h.faultCount hcount⟩

/-- A wake keeps the link in order: in STANDBY no notice waits, so the WAKE is the only one that may (R160, R168). -/
theorem wakeLif_ok {cause : WakeCause} {l : Lif} (h : l.ok) : (wakeLif cause l).ok := by
  rcases wakeLif_cases cause l with ⟨-, he⟩ | ⟨hp, he⟩ <;> rw [he]
  · exact h
  obtain ⟨hreq, hout, hnone, hpend, -, -, hstandby, hcount⟩ := h
  have hwaiting := hstandby hp
  have hawake : ({ l with power := .active, standbyToSend := 0 } : Lif).ok :=
    ⟨hreq, hout, hnone, hpend, by simp [hwaiting], by simp [hwaiting], nofun, hcount⟩
  rcases produceWaiting_cases (.wake cause) { l with power := .active, standbyToSend := 0 } with ⟨hf, he⟩ | ⟨-, he⟩ <;>
    rw [he]
  · exact (emits_enterNotice (room_of_freeSlots hf)).ok hawake
  · exact ⟨hreq, hout, hnone, hpend, by simp [hwaiting], by simp [hwaiting, Notice.joinsWaiting], nofun, hcount⟩

/-! ### The receiver and the outbound queue -/

theorem markerReceived_ok {l : Lif} (h : l.ok) : (markerReceived l).ok := by
  unfold markerReceived
  split
  · exact wakeLif_ok h
  · exact h

theorem linkFault_ok {cause : LinkFaultCause} {header : Option (Byte × Byte)} {l : Lif} (h : l.ok) :
    (linkFault cause header l).ok := by
  obtain ⟨hreq, hout, hnone, hpend, hwait, hjoin, hstandby, hcount⟩ := h
  have hcounted : ({ l with faultCount := satSucc 255 l.faultCount } : Lif).ok :=
    ⟨hreq, hout, hnone, hpend, hwait, hjoin, hstandby, satSucc_le hcount⟩
  exact (emits_produceSingleton rfl).ok hcounted

theorem faultFrame_ok {cause : LinkFaultCause} {header : Option (Byte × Byte)} {l : Lif} (h : l.ok) :
    (faultFrame cause header l).ok :=
  linkFault_ok (l := { markerReceived l with receiver := .hunting }) (markerReceived_ok h)

theorem bufferFrame_ok {frame : RequestFrame} {l : Lif} (h : l.ok) : (bufferFrame frame l).ok := by
  unfold bufferFrame
  split
  next hroom =>
    obtain ⟨-, hrest⟩ := h
    exact ⟨by simp; omega, hrest⟩
  next => exact linkFault_ok h

theorem frameReceived_ok {kind tag : Byte} {body : List Byte} {crc : BitVec 16} {l : Lif} (h : l.ok) :
    (frameReceived kind tag body crc l).ok := by
  unfold frameReceived
  split
  · exact faultFrame_ok h
  split
  · exact bufferFrame_ok (l := { markerReceived l with receiver := .hunting }) (markerReceived_ok h)
  · exact faultFrame_ok h

theorem frameSent_lif_ok {s : State} (h : s.lif.ok) : (frameSent s).lif.ok := by
  unfold frameSent
  split
  case h_2 => exact h
  obtain ⟨hreq, hout, hnone, hrest⟩ := h
  exact ⟨hreq, by simp; omega, noneReserved_of_sublist (List.tail_sublist _) hnone, hrest⟩

/-- A notice of the waiting list that enters leaves the list (R160). -/
theorem waitingEnter_ok {l : Lif} (h : l.ok) : (waitingEnter l).ok := by
  unfold waitingEnter
  split
  · exact h
  next n rest hw =>
    split
    case isFalse => exact h
    next hroom =>
      obtain ⟨hreq, hout, hnone, hpend, hwait, hjoin, hstandby, hcount⟩ := h
      rw [hw] at hwait hjoin hstandby
      have hleft : ({ l with waiting := rest } : Lif).ok :=
        ⟨hreq, hout, hnone, hpend, Nat.le_of_succ_le hwait, fun m hm => hjoin m (List.mem_cons_of_mem n hm),
          fun hp => absurd (hstandby hp) (List.cons_ne_nil n rest), hcount⟩
      exact (emits_enterNotice (l := { l with waiting := rest }) hroom).ok hleft

theorem pendingOk_of_sublist {ms ns : List Notice} (h : ms.Sublist ns) (hn : pendingOk ns) : pendingOk ms := by
  obtain ⟨hsingle, hrising, hboth⟩ := hn
  refine ⟨fun n hm => hsingle n (h.mem hm), hrising.sublist h, ?_⟩
  rintro ⟨⟨a, ha, hac⟩, b, hb, hbc⟩
  exact hboth ⟨⟨a, h.mem ha, hac⟩, b, h.mem hb, hbc⟩

/-- Pending notices that are dropped leave a link in order. -/
theorem Lif.ok_of_pending {l : Lif} {ns : List Notice} (hs : ns.Sublist l.pendingNotices) (h : l.ok) :
    ({ l with pendingNotices := ns } : Lif).ok := by
  obtain ⟨hreq, hout, hnone, hpend, hrest⟩ := h
  exact ⟨hreq, hout, hnone, pendingOk_of_sublist hs hpend, hrest⟩

theorem pendingEnter_ok {l : Lif} (h : l.ok) : (pendingEnter l).ok := by
  unfold pendingEnter
  split
  · exact h
  next n rest hp =>
    split
    case isFalse => exact h
    next hroom =>
      have hleft := Lif.ok_of_pending (ns := rest) (hp ▸ List.sublist_cons_self n rest) h
      exact (emits_enterNotice (l := { l with pendingNotices := rest }) hroom.2).ok hleft

/-! ### What a request's handling can do to the link -/

/-- What the handling of a request can do to the link, but for STANDBY and RESET: it produces singleton notices, and at
most one notice of the waiting list. -/
structure Sends (l l' : Lif) : Prop where
  requests : l'.requests = l.requests
  power : l'.power = l.power
  waiting : ∃ ns, ns.length ≤ 1 ∧ (∀ n ∈ ns, n.joinsWaiting = true) ∧ l'.waiting = l.waiting ++ ns
  outbound : ∃ ns : List Notice, l'.outbound = l.outbound ++ ns.map (fun n => .frame (.notice n))
  room : l.outbound.length ≤ 24 → l'.outbound.length ≤ 24
  pending : pendingOk l.pendingNotices → pendingOk l'.pendingNotices
  faultCount : l.faultCount ≤ 255 → l'.faultCount ≤ 255

theorem Emits.sends {l l' : Lif} (h : Emits l l') : Sends l l' :=
  ⟨h.requests, h.power, ⟨[], by simp, by simp, by simp [h.waiting]⟩, h.outbound, h.room, h.pending, h.faultCount⟩

theorem Sends.emits {a b c : Lif} (h : Sends a b) (k : Emits b c) : Sends a c := by
  obtain ⟨ws, hlen, hjoin, hws⟩ := h.waiting
  obtain ⟨ns, hns⟩ := h.outbound
  obtain ⟨ms, hms⟩ := k.outbound
  exact ⟨k.requests.trans h.requests, k.power.trans h.power, ⟨ws, hlen, hjoin, k.waiting.trans hws⟩,
    ⟨ns ++ ms, by simp [hms, hns]⟩, fun r => k.room (h.room r), fun p => k.pending (h.pending p),
    fun f => k.faultCount (h.faultCount f)⟩

theorem sends_produceWaiting {n : Notice} {l : Lif} (hn : n.joinsWaiting = true) : Sends l (produceWaiting n l) := by
  rcases produceWaiting_cases n l with ⟨hf, he⟩ | ⟨-, he⟩ <;> rw [he]
  · exact (emits_enterNotice (room_of_freeSlots hf)).sends
  · exact ⟨rfl, rfl, ⟨[n], Nat.le_refl 1, by simpa using hn, rfl⟩, ⟨[], by simp⟩, id, id, id⟩

/-- The link is in order but for the one slot that is reserved for the reply, with frames of notices alone behind it. -/
def Lif.okReserved (l : Lif) : Prop :=
  (∃ front, ∃ ns : List Notice, l.outbound = front ++ .reserved :: ns.map (fun n => .frame (.notice n)) ∧
    noneReserved front) ∧
  l.requests.length ≤ 4 ∧ l.outbound.length ≤ 24 ∧ pendingOk l.pendingNotices ∧ l.waiting.length ≤ 2 ∧
    (∀ n ∈ l.waiting, n.joinsWaiting = true) ∧ (l.power = .standby → l.waiting = []) ∧ l.faultCount ≤ 255

theorem Lif.okReserved.fill_ok {l : Lif} (h : l.okReserved) (reply : OutFrame) : (fill reply l).ok := by
  obtain ⟨⟨front, ns, hout, hnone⟩, hreq, hlen, hpend, hwait, hjoin, hstandby, hcount⟩ := h
  refine ⟨hreq, by simpa [fill] using hlen, ?_, hpend, hwait, hjoin, hstandby, hcount⟩
  have hfilled : (fill reply l).outbound = front ++ .frame reply :: ns.map (fun n => .frame (.notice n)) := by
    simp only [fill, hout, placeReply_reserved hnone]
  rw [hfilled]
  exact noneReserved_append hnone (by simp [noneReserved])

theorem canTakeRequest_iff {l : Lif} :
    canTakeRequest l = true ↔ l.power = .active ∧ 0 < freeSlots l ∧ l.waiting = [] := by
  simp [canTakeRequest, and_assoc]

theorem reserveSlot_okReserved {frame : RequestFrame} {rest : List RequestFrame} {s : State} (h : s.lif.ok)
    (hq : s.lif.requests = frame :: rest) (hc : canTakeRequest s.lif = true) :
    (reserveSlot rest s).lif.okReserved := by
  obtain ⟨hreq, hout, hnone, hpend, hwait, hjoin, hstandby, hcount⟩ := h
  obtain ⟨-, hfree, -⟩ := canTakeRequest_iff.1 hc
  have hroom := room_of_freeSlots hfree
  rw [hq] at hreq
  exact ⟨⟨s.lif.outbound, [], rfl, hnone⟩, Nat.le_of_succ_le hreq, by simp [reserveSlot]; omega, hpend, hwait, hjoin,
    hstandby, hcount⟩

/-- A handling that sends keeps the link in order but for the reserved slot: no notice waited before it. -/
theorem Sends.okReserved {l l' : Lif} (h : Sends l l') (hw : l.waiting = []) (hp : l.power = .active)
    (hl : l.okReserved) : l'.okReserved := by
  obtain ⟨⟨front, ns, hout, hnone⟩, hreq, hlen, hpend, -, -, -, hcount⟩ := hl
  obtain ⟨ws, hwlen, hjoin, hws⟩ := h.waiting
  obtain ⟨ms, hms⟩ := h.outbound
  rw [hw, List.nil_append] at hws
  exact ⟨⟨front, ns ++ ms, by simp [hms, hout], hnone⟩, h.requests ▸ hreq, h.room hlen, h.pending hpend,
    by rw [hws]; omega, hws ▸ hjoin, fun hstandby => by simp [h.power, hp] at hstandby, h.faultCount hcount⟩

/-- The take of a request keeps the link in order, when its handling leaves it in order but for the reserved slot. -/
theorem Handles.lif_ok {kind : Nat} {P : State → State → Prop} {h : List Byte → State → Answer} (hh : Handles kind P h)
    (hp : ∀ s t, P s t → s.lif.okReserved → s.lif.waiting = [] → s.lif.power = .active → t.lif.okReserved) {s : State}
    (hs : s.lif.ok) : (takeRequest kind h s).lif.ok := by
  rcases takeRequest_cases hh s with he | ⟨frame, rest, reply, t, hq, hc, ht, he⟩ <;> rw [he]
  · exact hs
  obtain ⟨hpower, -, hwaiting⟩ := canTakeRequest_iff.1 hc
  have hreserved := reserveSlot_okReserved hs hq hc
  rcases ht with rfl | ht
  · exact hreserved.fill_ok reply
  · exact (hp _ _ ht hreserved hwaiting hpower).fill_ok reply

/-- The same for a handling that sends. -/
theorem Handles.lif_ok_of_sends {kind : Nat} {P : State → State → Prop} {h : List Byte → State → Answer}
    (hh : Handles kind P h) (hp : ∀ s t, P s t → Sends s.lif t.lif) {s : State} (hs : s.lif.ok) :
    (takeRequest kind h s).lif.ok :=
  hh.lif_ok (fun s t ht hreserved hw hpower => (hp s t ht).okReserved hw hpower hreserved) hs

/-! ### What the shared operations emit -/

theorem emits_holdAfterAdd (s : State) : Emits s.lif (holdAfterAdd s).lif := by
  unfold holdAfterAdd
  split
  · exact emits_produceSingleton rfl
  · exact .refl _

theorem emits_resumeAfterTake (s : State) : Emits s.lif (resumeAfterTake s).lif := by
  unfold resumeAfterTake
  split
  · exact emits_produceSingleton rfl
  · exact .refl _

theorem emits_addEntry (o : Origin) (x : List Byte) (s : State) : Emits s.lif (addEntry o x s).lif := by
  unfold addEntry
  exact emits_holdAfterAdd { s with iq := { s.iq with
    entries := s.iq.entries ++ [_], counter := _ } }

theorem emits_queueCaseClosed (closed : ClosedCase) (s : State) : Emits s.lif (queueCaseClosed closed s).lif := by
  unfold queueCaseClosed
  split
  next h => exact emits_enterNotice (room_of_freeSlots (by simpa using (Bool.and_eq_true_iff.1 h).2))
  next => exact .refl _

theorem emits_closeCase (o : CaseOutcome) (r : RideOutcome) (n : Option Nat) (c : Case) (s : State) :
    Emits s.lif (closeCase o r n c s).lif := by
  have hjournal := emits_journal (caseEndRecord (closedOf o r n c)) (detachCase c s)
  rw [detachCase_lif] at hjournal
  exact hjournal.trans (emits_queueCaseClosed _ _)

theorem foldl_emits {α : Type} {f : State → α → State} (hf : ∀ s a, Emits s.lif (f s a).lif) (as : List α) (s : State) :
    Emits s.lif (as.foldl f s).lif := by
  induction as generalizing s with
  | nil => exact .refl _
  | cons a as ih => exact (hf s a).trans (ih _)

theorem emits_timeOutCases (s : State) : Emits s.lif (timeOutCases s).lif := by
  unfold timeOutCases
  exact foldl_emits (f := fun s c => timeOutCase c s) (fun s c => emits_closeCase .timedOut .none c.rides c s) _ s

theorem emits_issueVerdict {ev : Evaluation} {s : State} (h : 0 < freeSlots s.lif) :
    Emits s.lif (issueVerdict ev s).lif := by
  have hroom := room_of_freeSlots h
  rw [issueVerdict, releaseCard_lif]
  refine Emits.trans ?_ (emits_journal _ _)
  rw [openForAction_lif]
  exact emits_enterNotice hroom

theorem emits_issue (ofParked : Bool) (s : State) : Emits s.lif (issue ofParked s).lif := by
  unfold issue
  split
  · exact .refl _
  next h =>
    have hverdict (ev : Evaluation) := emits_issueVerdict (ev := ev) (Nat.pos_of_ne_zero h)
    split
    · split
      · split
        · exact hverdict _
        · exact .refl _
      · exact .refl _
    · split
      · exact hverdict _
      · exact .refl _

theorem emits_caseClosedQueued (s : State) : Emits s.lif (caseClosedQueued s).lif := by
  unfold caseClosedQueued
  split
  · exact .refl _
  split
  next h => exact emits_enterNotice (room_of_freeSlots h)
  next => exact .refl _

theorem emits_reportBatchWhen (due : Bool) (s : State) : Emits s.lif (if due then reportBatch s else s).lif := by
  split
  · exact emits_produceAll (by simp [Jnl.ready, Notice.isSingleton])
  · exact .refl _

theorem emits_engineTake (s : State) : Emits s.lif (engineTake s).lif := by
  unfold engineTake
  split
  case h_2 => exact .refl _
  next rest j _ _ =>
    split
    · rw [startEvaluation_lif]
      exact emits_resumeAfterTake { s with iq := { s.iq with entries := rest } }
    · exact .refl _

/-! ### The card line -/

/-- A report of the card line keeps the link in order, with the wake it may bring (R148, R150). -/
theorem reportCard_lif_ok {event : CardEventKind} {session : Option Nat} {after : CardState} {s : State} (h : s.lif.ok) :
    (reportCard event session after s).lif.ok := by
  unfold reportCard
  split
  · exact h
  · exact (emits_produceSingleton rfl).ok (wakeLif_ok h)

theorem failRead_lif_ok {event : CardEventKind} {s : State} (h : s.lif.ok) : (failRead event s).lif.ok :=
  reportCard_lif_ok h

theorem lineError_lif_ok {event : CardEventKind} {s : State} (h : s.lif.ok) : (lineError event s).lif.ok := by
  unfold lineError
  split
  · exact failRead_lif_ok h
  · exact reportCard_lif_ok h

theorem answerBusy_lif_ok {s : State} (h : s.lif.ok) : (answerBusy s).lif.ok := reportCard_lif_ok h

theorem emits_endResolutionWrite (done : Bool) (s : State) : Emits s.lif (endResolutionWrite done s).1.lif := by
  unfold endResolutionWrite
  split
  · exact emits_journal _ (modifyRecord _ _ s)
  · exact .refl _

theorem emits_endWrite (done down : Bool) (s : State) : Emits s.lif (endWrite done down s).lif := by
  unfold endWrite
  split
  · exact .refl _
  · rw [withCiu_lif]
    split
    · rw [endParkedWrite_lif]
      exact .refl _
    · exact emits_endResolutionWrite done s

theorem cardDown_lif_ok {s : State} (h : s.lif.ok) : (cardDown s).lif.ok := by
  unfold cardDown
  split
  · exact h
  · exact reportCard_lif_ok h
  · exact h
  · exact (emits_endWrite false true s).ok h
  · exact h

theorem cardUp_lif_ok {identifier : List Byte} {s : State} (h : s.lif.ok) : (cardUp identifier s).lif.ok := by
  have hdown := cardDown_lif_ok h
  rw [cardUp]
  generalize cardDown s = t at hdown
  simp only [cardUpAbsent]
  split
  · exact hdown
  · exact answerBusy_lif_ok (s := withCiu _ t) hdown

theorem completeRead_lif_ok {image : List (List Byte)} {s : State} (h : s.lif.ok) :
    (completeRead image s).lif.ok := by
  simp only [completeRead]
  split
  · exact failRead_lif_ok h
  split
  · exact failRead_lif_ok h
  split
  · exact answerBusy_lif_ok h
  · exact (emits_addEntry _ _ (wake .card s)).ok (wakeLif_ok h)

theorem block_lif_ok {index : Byte} {data : List Byte} {s : State} (h : s.lif.ok) : (block index data s).lif.ok := by
  unfold block
  split
  case isFalse => exact h
  simp only [takeBlock]
  split
  · split
    · exact completeRead_lif_ok (s := withCiu _ s) h
    · exact h
  · exact failRead_lif_ok h

theorem emits_written (result : WriteResult) (s : State) : Emits s.lif (written result s).lif := by
  unfold written
  split
  · exact emits_endWrite _ _ s
  · exact .refl _

theorem emits_writeTimerExpiry (s : State) : Emits s.lif (writeTimerExpiry s).lif := by
  unfold writeTimerExpiry
  split
  · exact emits_endWrite _ _ s
  · exact .refl _

theorem readTimerExpiry_lif_ok {s : State} (h : s.lif.ok) : (readTimerExpiry s).lif.ok := by
  unfold readTimerExpiry
  split
  · exact failRead_lif_ok h
  · exact h

theorem frameCutShort_lif_ok {idle : Bool} {s : State} (h : s.lif.ok) : (frameCutShort idle s).lif.ok := by
  unfold frameCutShort
  split
  · exact lineError_lif_ok (s := setAwaitsGap false s) h
  · exact h

/-- What a change of the receiver's wait and each row with a well-formed frame keep, the reception of a frame keeps. -/
theorem receiveFrame_keeps {Q : State → Prop} {own : CardReceived → State → State} {idle : Bool} {frame : List Byte}
    (hgap : ∀ s, Q s → Q (setAwaitsGap false s)) (herror : ∀ s, Q s → Q (lineError .check s))
    (hown : ∀ r s, decodeCardFrame frame = some r → Q s → Q (own r s)) {s : State} (hs : Q s) :
    Q (whenRunning (receiveFrame own idle frame) s) := by
  refine whenRunning_keeps (fun hs => ?_) hs
  have hlisten {f : State → State} (hf : ∀ s, Q s → Q (f s)) : Q (whenListening idle f s) := by
    rcases whenListening_cases idle f s with ⟨-, he⟩ | ⟨-, -, he⟩ <;> rw [he]
    · exact hf _ (hgap s hs)
    · exact hs
  rcases receiveFrame_cases own idle frame s with ⟨-, he⟩ | ⟨r, hd, he⟩ <;> rw [he]
  · exact hlisten herror
  · exact hlisten fun s => hown r s hd

/-- The reception of a card-line frame keeps the link in order where its row does. -/
theorem receiveFrame_lif_ok {own : CardReceived → State → State} {idle : Bool} {frame : List Byte}
    (hown : ∀ r s, s.lif.ok → (own r s).lif.ok) {s : State} (hs : s.lif.ok) :
    (whenRunning (receiveFrame own idle frame) s).lif.ok :=
  receiveFrame_keeps (Q := fun s => s.lif.ok) (fun _ h => h) (fun _ => lineError_lif_ok) (fun r s _ => hown r s) hs

/-! ### The close of a journey -/

theorem pendAll_outbound (ns : List Notice) (l : Lif) : (pendAll ns l).outbound = l.outbound := by
  induction ns generalizing l with
  | nil => rfl
  | cons n ns ih => exact ih (pendNotice n l)

/-- A case that closes at completion enters its notice; what the journal says pends. -/
theorem completeCase_lif_outbound (s : State) (c : Case) :
    (completeCase s c).lif.outbound =
      s.lif.outbound ++ [.frame (.notice (.caseClosed (closedOf .journeyEnded .none c.rides c)))] := by
  simp [completeCase, pendAll_outbound]

theorem completeCase_lif_ok {s : State} {c : Case} (hroom : s.lif.outbound.length < 24) (h : s.lif.ok) :
    (completeCase s c).lif.ok := by
  have hjournal := emits_journalWith_pendAll (caseEndRecord (closedOf .journeyEnded .none c.rides c)) (detachCase c s)
  rw [detachCase_lif] at hjournal
  refine (emits_enterNotice ?_).ok (hjournal.ok h)
  have hout := congrArg List.length (completeCase_lif_outbound s c)
  simp only [completeCase, enterNotice_outbound, List.length_append, List.length_singleton] at hout
  omega

theorem completeCases_lif_ok {cs : List Case} {s : State} (hroom : s.lif.outbound.length + cs.length ≤ 24)
    (h : s.lif.ok) : (cs.foldl completeCase s).lif.ok ∧
      (cs.foldl completeCase s).lif.outbound.length = s.lif.outbound.length + cs.length := by
  induction cs generalizing s with
  | nil => exact ⟨h, rfl⟩
  | cons c cs ih =>
    rw [List.length_cons] at hroom
    have hlen : (completeCase s c).lif.outbound.length = s.lif.outbound.length + 1 := by
      rw [completeCase_lif_outbound, List.length_append, List.length_singleton]
    obtain ⟨hok, hlength⟩ := ih (by omega) (completeCase_lif_ok (c := c) (by omega) h)
    exact ⟨hok, by rw [List.foldl_cons, hlength, hlen, List.length_cons]; omega⟩

theorem flushPending_ok {l : Lif} (h : l.ok) : (flushPending l).ok := by
  have hfold : ∀ (ns : List Notice) (l : Lif), l.ok → (ns.foldl enterIfEmpty l).ok := by
    intro ns
    induction ns with
    | nil => exact fun _ h => h
    | cons n ns ih =>
      refine fun l h => ih _ ?_
      unfold enterIfEmpty
      split
      next hroom =>
        exact (emits_enterNotice (l := { l with pendingNotices := l.pendingNotices.filter _ }) hroom).ok
          (Lif.ok_of_pending List.filter_sublist h)
      next => exact h
  exact hfold _ l h

theorem canComplete_room {s : State} (h : canComplete s = true) :
    s.lif.outbound.length + s.ctb.cases.length + 1 ≤ 24 := by
  have hfree : s.ctb.cases.length + 1 ≤ freeSlots s.lif := by
    simpa using (Bool.and_eq_true_iff.1 h).2
  have hbound : freeSlots s.lif ≤ 24 - s.lif.outbound.length := by
    unfold freeSlots
    split <;> omega
  omega

theorem closeCompletion_lif_ok {s : State} (h : s.lif.ok) : (closeCompletion s).lif.ok := by
  unfold closeCompletion
  split
  case h_2 => exact h
  split
  case isFalse => exact h
  next j _ hc =>
    have hroom := canComplete_room hc
    obtain ⟨hok, hlen⟩ := completeCases_lif_ok (cs := s.ctb.cases) (by omega) h
    refine flushPending_ok ((emits_enterNotice ?_).ok ?_)
    · simp only [journalWith_lif, pendAll_outbound, withJcu_lif]
      omega
    · exact (emits_journalWith_pendAll _ _).ok hok

end Sys2Proof.Machine
end

section
/-! Every command keeps the link and the Intake Queue in order; first the resets, which every unit's invariant needs
(R169, R170). -/

namespace Sys2Proof.Machine

/-! ### The units after a hard reset -/

theorem Lif.reset_ok : Lif.reset.ok := by
  simp [Lif.ok, Lif.reset, noneReserved, pendingOk]

theorem Iq.reset_ok : Iq.reset.ok := by
  simp [Iq.ok, Iq.reset]

theorem Jcu.reset_ok : Jcu.reset.ok := by
  simp [Jcu.ok, Jcu.reset, Staging.ok, Clock.ok]

theorem Dcu.reset_ok : Dcu.reset.ok := by
  simp [Dcu.ok, Dcu.reset]

theorem Rsu.reset_ok : Rsu.reset.ok := by
  simp [Rsu.ok, Rsu.reset]

theorem AreaEntry.unconfigured_ok : AreaEntry.unconfigured.ok := by
  simp [AreaEntry.ok, AreaEntry.unconfigured, roundingSteps]

theorem Ven.reset_tablesOk : Ven.reset.tablesOk := by
  refine ⟨fun i h => ?_, by decide, by decide, fun f hf => ?_⟩
  · simp [Ven.reset, AreaEntry.unconfigured_ok]
  · cases f <;> cases hf <;> rfl

theorem Ven.reset_verdictsOk : Ven.reset.verdictsOk := by
  simp [Ven.verdictsOk, Ven.reset]

theorem Irg.reset_ok : Irg.reset.ok := by
  simp [Irg.ok, Irg.reset]

theorem Ctb.reset_ok : Ctb.reset.ok := by
  simp [Ctb.ok, Ctb.reset]

theorem linksOk_nil : linksOk [] [] := by
  simp [linksOk]

theorem Ciu.reset_ok : Ciu.reset.ok := by
  simp [Ciu.ok, Ciu.reset]

theorem writesOk_reset : writesOk Ciu.reset Ven.reset Ctb.reset := by
  simp [writesOk, Ciu.reset, Ven.reset, Ctb.reset]

theorem Jnl.reset_ok : Jnl.reset.ok := by
  simp [Jnl.ok, Jnl.reset]

/-- Settles O2, unit by unit. -/
theorem resetInOrder : Obligations.ResetInOrder :=
  ⟨Lif.reset_ok, Iq.reset_ok, Jcu.reset_ok, Dcu.reset_ok, Rsu.reset_ok, Ven.reset_tablesOk, Ven.reset_verdictsOk,
    Irg.reset_ok, Ctb.reset_ok, linksOk_nil, Ciu.reset_ok, writesOk_reset, Jnl.reset_ok⟩

/-- The link of a part that starts: START alone is queued (R171). -/
def startedLif (cause : StartCause) : Lif := enterNotice (.start cause 0 false 0) Lif.reset

theorem startedLif_ok (cause : StartCause) : (startedLif cause).ok := (emits_enterNotice (by decide)).ok Lif.reset_ok

/-- A command that resets leaves the state, or every unit at its hard-reset value with a link in order (R170). -/
theorem effect_hardResets {c : Instr} (h : hardResets c = true) (s : State) :
    effect c s = s ∨ ∃ lif resetN hostSent cardSent, lif.ok ∧ effect c s =
      { State.reset with lif := lif, resetN := resetN, hostSent := hostSent, cardSent := cardSent,
                         pending := s.pending } := by
  cases c <;> try cases h
  case powerOn => exact .inr ⟨_, _, _, _, startedLif_ok .power, rfl⟩
  case resetNLow =>
    have he : effect .resetNLow s = whenRunning resetNLow s := rfl
    rw [he]
    unfold whenRunning
    split
    · exact .inr ⟨_, _, _, _, Lif.reset_ok, rfl⟩
    · exact .inl rfl
  case resetNHigh =>
    have he : effect .resetNHigh s = if s.resetN then s else startNotice .line (hardReset s) := rfl
    rw [he]
    split
    · exact .inl rfl
    · exact .inr ⟨_, _, _, _, startedLif_ok .line, rfl⟩

/-- What holds of every reset part with a link in order the hard-reset commands keep. -/
theorem hardResets_keeps {Q : State → Prop} {c : Instr} (h : hardResets c = true)
    (hq : ∀ lif resetN hostSent cardSent pending, lif.ok → Q { State.reset with
      lif := lif, resetN := resetN, hostSent := hostSent, cardSent := cardSent, pending := pending }) {s : State}
    (hs : Q s) : Q (effect c s) := by
  rcases effect_hardResets h s with he | ⟨lif, resetN, hostSent, cardSent, hok, he⟩ <;> rw [he]
  · exact hs
  · exact hq _ _ _ _ _ hok

/-! ### The link and RESET -/

theorem beingSent_length (l : Lif) : (beingSent l).length ≤ 1 := by
  unfold beingSent
  split
  · split <;> simp
  · simp

theorem noneReserved_beingSent (l : Lif) : noneReserved (beingSent l) := by
  unfold beingSent
  split
  · split <;> simp [noneReserved]
  · simp [noneReserved]

/-- After a soft reset the link holds the frame being sent and the reply's slot (R169). -/
theorem Lif.softReset_okReserved {l : Lif} (h : l.okReserved) : l.softReset.okReserved := by
  obtain ⟨-, hreq, -⟩ := h
  have hlen := beingSent_length l
  exact ⟨⟨beingSent l, [], rfl, noneReserved_beingSent l⟩, hreq, by simp [Lif.softReset]; omega,
    by simp [pendingOk, Lif.softReset], by simp [Lif.softReset], by simp [Lif.softReset], fun _ => rfl,
    by simp [Lif.softReset]⟩

theorem answerReset_lif_okReserved {s : State} (h : s.lif.okReserved) : (answerReset [] s).1.lif.okReserved := by
  have hreset := Lif.softReset_okReserved h
  have hroom : s.lif.softReset.outbound.length < 24 := by
    have hlen := beingSent_length s.lif
    simp [Lif.softReset]
    omega
  have hemits := (emits_enterNotice (n := .start .soft s.jcu.number s.jcu.clock.isSet
    (s.jnl.append (tariffTime s) s.timebase (.partReset s.jcu.number s.jcu.stateCode)).1.lastSequence) hroom).trans
    (emits_produceAll (append_singletons (tariffTime s) s.timebase (.partReset s.jcu.number s.jcu.stateCode) s.jnl))
  exact hemits.sends.okReserved rfl rfl hreset

/-! ### What the journey's requests send -/

theorem sends_enterClosing (s : State) : Sends s.lif (enterClosing s).lif := by
  unfold enterClosing
  split
  · exact (Emits.refl _).sends
  split
  · exact sends_produceWaiting rfl
  · exact (Emits.refl _).sends

theorem sends_tryStaged (j : Running) (k : Nat) (s : State) : Sends s.lif (tryStaged j k s).1.lif := by
  unfold tryStaged
  split
  case h_2 => exact (Emits.refl _).sends
  next staged _ =>
    split
    next k' _ =>
      split
      · have hsend : Sends s.lif
            (produceWaiting (.routeApplied (nextEpoch j.epoch) staged.service (j.route.stop k).code k k') s.lif) :=
          sends_produceWaiting rfl
        exact hsend.emits (emits_produceAll (append_singletons _ _ _ _))
      · exact sends_produceWaiting rfl
    · exact sends_produceWaiting rfl

/-! ### Every command -/

theorem whenRunning_lif_ok {f : Lif → Lif} (hf : ∀ l, l.ok → (f l).ok) {s : State} (h : s.lif.ok) :
    (whenRunning (fun s => withLif (f s.lif) s) s).lif.ok :=
  whenRunning_keeps (P := fun s => s.lif.ok) (hf s.lif) h

theorem whenRunning_emits {f : State → State} (hf : ∀ s, Emits s.lif (f s).lif) {s : State} (h : s.lif.ok) :
    (whenRunning f s).lif.ok :=
  whenRunning_keeps (P := fun s => s.lif.ok) (hf s).ok h

/-- The handling of every request but STANDBY and RESET sends. -/
theorem handles_sends {c : Instr} {kind : Nat} {handle : List Byte → State → Answer}
    (hc : requestOf c = some (kind, handle)) (hstandby : c ≠ .standby) (hreset : c ≠ .reset) :
    Handles kind (fun s t => Sends s.lif t.lif) handle := by
  have quiet {kind : Nat} {P : State → State → Prop} {handle : List Byte → State → Answer} (hh : Handles kind P handle)
      (hp : ∀ s t, P s t → t.lif = s.lif) : Handles kind (fun s t => Sends s.lif t.lif) handle :=
    hh.imp fun s t ht => (hp s t ht) ▸ (Emits.refl s.lif).sends
  cases c <;> cases hc
  case standby => exact absurd rfl hstandby
  case reset => exact absurd rfl hreset
  case status => exact quiet handles_status (by rintro s _ rfl; rfl)
  case intakeMarks =>
    refine handles_intakeMarks.imp ?_
    rintro s _ ⟨high, low, -, -, -, rfl⟩
    split
    · exact (emits_resumeAfterTake (withMarks high low s)).sends
    · exact (emits_holdAfterAdd (withMarks high low s)).sends
  case present =>
    refine handles_present.imp ?_
    rintro s _ ⟨-, x, rfl⟩
    exact (emits_addEntry .link x s).sends
  case clockSet =>
    refine handles_clockSet.imp ?_
    rintro s _ ⟨seconds, millis, -, -, rfl⟩
    exact (emits_timeOutCases (withJcu { s.jcu with clock := s.jcu.clock.setTo seconds millis } s)).sends
  case clockTrim => exact quiet handles_clockTrim (by rintro s _ ⟨_, -, -, rfl⟩; rfl)
  case journeyOpen =>
    refine handles_journeyOpen.imp ?_
    rintro s _ ⟨start, r, b, -, -, -, -, rfl⟩
    exact (emits_journal b (withJcu _ s)).sends
  case journeyClose =>
    refine handles_journeyClose.imp ?_
    rintro s _ ⟨-, rfl | rfl⟩
    · exact sends_enterClosing s
    · exact (Emits.refl _).sends
  case routeBegin => exact quiet handles_routeBegin (by rintro s _ ⟨_, _, _, -, -, -, -, -, rfl⟩; rfl)
  case routeStops => exact quiet handles_routeStops (by rintro s _ ⟨_, _, _, _, _, -, -, -, rfl⟩; rfl)
  case routeArm => exact quiet handles_routeArm (by rintro s _ ⟨_, _, _, _, -, -, -, rfl⟩; rfl)
  case routeCancel => exact quiet handles_routeCancel (by rintro s _ rfl; rfl)
  case stopArrive =>
    refine handles_stopArrive.imp ?_
    rintro s _ ⟨j, i, k, -, -, -, -, -, rfl⟩
    split
    · exact sends_enterClosing (arrivedAt j k s)
    · exact (Emits.refl _).sends
  case stopDepart =>
    refine handles_stopDepart.imp ?_
    rintro s _ ⟨j, k, -, -, -, -, rfl⟩
    rw [depart_lif]
    exact sends_tryStaged j k s
  case carriageSet => exact quiet handles_carriageSet (by rintro s _ ⟨_, _, -, -, rfl⟩; rfl)
  case delaySet => exact quiet handles_delaySet (by rintro s _ ⟨-, _, -, -, rfl⟩; rfl)
  case keyLoad => exact quiet handles_keyLoad (by rintro s _ ⟨_, -, ⟨-, -, rfl⟩ | rfl⟩ <;> rfl)
  case keyState => exact quiet handles_keyState (by rintro s _ ⟨_, _, _, _, -, rfl⟩; rfl)
  case keyDrop => exact quiet handles_keyDrop (by rintro s _ ⟨_, _, rfl⟩; rfl)
  case filterBegin => exact quiet handles_filterBegin (by rintro s _ ⟨_, _, -, rfl⟩; rfl)
  case filterSegment => exact quiet handles_filterSegment (by rintro s _ ⟨_, _, _, -, -, rfl⟩; rfl)
  case filterCommit => exact quiet handles_filterCommit (by rintro s _ ⟨_, -, rfl⟩; rfl)
  case listAdd => exact quiet handles_listAdd (by rintro s _ ⟨_, -, ⟨-, -, rfl⟩ | rfl⟩ <;> rfl)
  case listRemove => exact quiet handles_listRemove (by rintro s _ ⟨_, rfl⟩; rfl)
  case listFlush => exact quiet handles_listFlush (by rintro s _ rfl; rfl)
  case areaSet => exact quiet handles_areaSet (by rintro s _ ⟨_, _, -, rfl⟩; rfl)
  case acceptMap => exact quiet handles_acceptMap (by rintro s _ ⟨_, _, -, rfl⟩; rfl)
  case classSet => exact quiet handles_classSet (by rintro s _ ⟨_, -, -, rfl⟩; rfl)
  case policySet => exact quiet handles_policySet (by rintro s _ ⟨_, _, rfl⟩; rfl)
  case caseResolve =>
    refine handles_caseResolve.imp ?_
    rintro s _ ⟨serial, c, d, -, -, rfl⟩
    have hclose := emits_closeCase d (decisionEffects d c s).2.1 (decisionEffects d c s).2.2 c (decisionEffects d c s).1
    rw [decisionEffects_lif] at hclose
    exact hclose.sends
  case caseQuote => exact quiet handles_caseQuote (by rintro s _ ⟨_, _, rfl⟩; rfl)
  case caseTimeout => exact quiet handles_caseTimeout (by rintro s _ ⟨_, -, -, rfl⟩; rfl)
  case passbackSet => exact quiet handles_passbackSet (by rintro s _ ⟨_, -, rfl⟩; rfl)
  case journalRead => exact quiet handles_journalRead (by rintro s _ (rfl | rfl) <;> rfl)
  case journalRelease => exact quiet handles_journalRelease (by rintro s _ ⟨_, rfl⟩; rfl)
  case journalTimers => exact quiet handles_journalTimers (by rintro s _ ⟨_, _, _, _, -, -, -, -, rfl⟩; rfl)
  case cardOptions => exact quiet handles_cardOptions (by rintro s _ ⟨_, rfl⟩; rfl)

/-- Every command keeps the link in order. -/
theorem effect_lif_ok (c : Instr) {s : State} (h : s.lif.ok) : (effect c s).lif.ok := by
  by_cases hstandby : c = .standby
  · subst hstandby
    refine handles_standby.lif_ok ?_ h
    rintro s _ ⟨-, rfl⟩ ⟨hout, hreq, hlen, hpend, hwait, hjoin, -, hcount⟩ hwaiting -
    exact ⟨hout, hreq, hlen, hpend, hwait, hjoin, fun _ => hwaiting, hcount⟩
  by_cases hreset : c = .reset
  · subst hreset
    refine handles_reset.lif_ok ?_ h
    rintro s _ rfl hok - -
    exact answerReset_lif_okReserved hok
  by_cases hrequest : (requestOf c).isSome = true
  · obtain ⟨⟨kind, handle⟩, hc⟩ := Option.isSome_iff_exists.1 hrequest
    rw [effect_request hc]
    exact (handles_sends hc hstandby hreset).lif_ok_of_sends (fun _ _ ht => ht) h
  cases c <;> try exact absurd rfl hrequest
  -- the hard resets
  case powerOn | resetNLow | resetNHigh =>
    exact hardResets_keeps (Q := fun s => s.lif.ok) rfl (fun _ _ _ _ _ hok => hok) h
  -- the link
  case hostFrameReceived => exact whenRunning_lif_ok (fun _ => frameReceived_ok) h
  case lengthFault => exact whenRunning_lif_ok (fun _ => faultFrame_ok) h
  case hostStopBitFault => exact whenRunning_lif_ok (fun _ => faultFrame_ok) h
  case gapFault => exact whenRunning_lif_ok (fun _ => faultFrame_ok) h
  case markerWake => exact whenRunning_lif_ok (fun _ => markerReceived_ok) h
  case frameSent => exact whenRunning_keeps (P := fun s => s.lif.ok) frameSent_lif_ok h
  case waitingNoticeEnter => exact whenRunning_lif_ok (fun _ => waitingEnter_ok) h
  case pendingNoticeEnter => exact whenRunning_lif_ok (fun _ => pendingEnter_ok) h
  case unknownRequest =>
    refine whenRunning_keeps (P := fun s => s.lif.ok) (fun h => ?_) h
    rcases takeFrame_cases (fun frame => !isRequestKind frame.kind.toNat)
      (fun frame s => (s, .reply 0x7F#8 frame.tag (u8 Status.unknown.code))) s with he | ⟨frame, rest, hq, -, hc, he⟩ <;>
      rw [he]
    · exact h
    · exact (reserveSlot_okReserved h hq hc).fill_ok _
  -- the journey
  case clockMillisecond => exact whenRunning_keeps (P := fun s => s.lif.ok) id h
  case trimSecond => exact whenRunning_keeps (P := fun s => s.lif.ok) id h
  case closeCompletion => exact whenRunning_keeps (P := fun s => s.lif.ok) closeCompletion_lif_ok h
  -- the cases
  case caseClosedQueued => exact whenRunning_emits emits_caseClosedQueued h
  case caseDeadlineReached => exact whenRunning_emits emits_timeOutCases h
  -- the journal
  case quietTimerExpiry => exact whenRunning_emits (fun s => emits_reportBatchWhen _ s) h
  case absoluteTimerExpiry => exact whenRunning_emits (fun s => emits_reportBatchWhen _ s) h
  -- the engine
  case engineTake => exact whenRunning_emits emits_engineTake h
  case checkComplete =>
    refine whenRunning_keeps (P := fun s => s.lif.ok) (fun h => ?_) h
    rwa [checkComplete_lif]
  case issue ofParked => exact whenRunning_emits (emits_issue ofParked) h
  -- the card line
  case cardUp idle frame =>
    refine receiveFrame_lif_ok ?_ h
    rintro (identifier | _ | _ | _) s h
    · exact cardUp_lif_ok h
    all_goals exact h
  case block idle frame =>
    refine receiveFrame_lif_ok ?_ h
    rintro (_ | ⟨index, data⟩ | _ | _) s h
    case block => exact block_lif_ok h
    all_goals exact h
  case cardDown idle frame =>
    refine receiveFrame_lif_ok ?_ h
    rintro (_ | _ | _ | _) s h
    case cardDown => exact cardDown_lif_ok h
    all_goals exact h
  case written idle frame =>
    refine receiveFrame_lif_ok ?_ h
    rintro (_ | _ | _ | result) s h
    case written => exact (emits_written result s).ok h
    all_goals exact h
  case writeTimerExpiry => exact whenRunning_emits emits_writeTimerExpiry h
  case readTimerExpiry => exact whenRunning_keeps (P := fun s => s.lif.ok) readTimerExpiry_lif_ok h
  case cardCheckError idle frame => exact receiveFrame_lif_ok (fun _ _ h => h) h
  case cardFrameCutShort idle => exact whenRunning_keeps (P := fun s => s.lif.ok) frameCutShort_lif_ok h
  case cardFramingError => exact whenRunning_keeps (P := fun s => s.lif.ok) (fun h => lineError_lif_ok h) h
  case cardFrameSent =>
    refine whenRunning_keeps (P := fun s => s.lif.ok) (fun h => ?_) h
    unfold cardFrameSent
    split <;> exact h

end Sys2Proof.Machine
end

section
/-! Every command keeps the Intake Queue in order (R162 to R165). -/

namespace Sys2Proof.Machine

/-- The Intake Queue's size, marks and counter are in their ranges, whatever HOLD is. -/
def Iq.inRange (q : Iq) : Prop :=
  q.entries.length ≤ 16 ∧ 2 ≤ q.high ∧ q.high ≤ 16 ∧ q.low < q.high ∧ q.counter < 65536

theorem Iq.ok_iff (q : Iq) :
    q.ok ↔ q.inRange ∧ (q.hold = true → q.low < q.entries.length) ∧ (q.hold = false → q.entries.length < q.high) := by
  simp only [Iq.ok, Iq.inRange, and_assoc]

/-- After a rise of the count HOLD is as the high mark leaves it, when it was as the low mark leaves it (R165). -/
theorem holdAfterAdd_iq_ok {s : State} (hr : s.iq.inRange) (hlow : s.iq.hold = true → s.iq.low < s.iq.entries.length) :
    (holdAfterAdd s).iq.ok := by
  have hmarks := hr.2.2.2.1
  unfold holdAfterAdd
  split
  next hc =>
    simp only [Bool.and_eq_true, decide_eq_true_eq] at hc
    exact (Iq.ok_iff _).2 ⟨hr, fun _ => by simp only; omega, nofun⟩
  next hc =>
    refine (Iq.ok_iff _).2 ⟨hr, hlow, fun hf => ?_⟩
    simpa [hf] using hc

/-- After a fall of the count HOLD is as the low mark leaves it, when it was as the high mark leaves it (R165). -/
theorem resumeAfterTake_iq_ok {s : State} (hr : s.iq.inRange)
    (hhigh : s.iq.hold = false → s.iq.entries.length < s.iq.high) : (resumeAfterTake s).iq.ok := by
  have hmarks := hr.2.2.2.1
  unfold resumeAfterTake
  split
  next hc =>
    simp only [Bool.and_eq_true, decide_eq_true_eq] at hc
    exact (Iq.ok_iff _).2 ⟨hr, nofun, fun _ => by simp only; omega⟩
  next hc =>
    refine (Iq.ok_iff _).2 ⟨hr, fun ht => ?_, hhigh⟩
    simpa [ht] using hc

/-- An entry joins a queue of fewer than 16 (R163). -/
theorem addEntry_iq_ok {o : Origin} {x : List Byte} {s : State} (hroom : s.iq.entries.length < 16) (h : s.iq.ok) :
    (addEntry o x s).iq.ok := by
  obtain ⟨⟨-, hhigh, hhigh16, hmarks, -⟩, hlow, -⟩ := (Iq.ok_iff _).1 h
  unfold addEntry
  refine holdAfterAdd_iq_ok ⟨?_, hhigh, hhigh16, hmarks, Nat.mod_lt _ (by decide)⟩ fun ht => ?_
  · simp only [List.length_append, List.length_singleton]
    omega
  · have := hlow ht
    simp only [List.length_append, List.length_singleton]
    omega

theorem withMarks_inRange {high low : Nat} {s : State} (h : s.iq.ok) (h2 : 2 ≤ high) (h16 : high ≤ 16)
    (hlow : low < high) : (withMarks high low s).iq.inRange := by
  obtain ⟨⟨hlen, -, -, -, hcounter⟩, -, -⟩ := (Iq.ok_iff _).1 h
  exact ⟨hlen, h2, h16, hlow, hcounter⟩

theorem Iq.softReset_ok {q : Iq} (h : q.ok) : q.softReset.ok := by
  obtain ⟨⟨-, hhigh, hhigh16, hmarks, hcounter⟩, -, -⟩ := (Iq.ok_iff _).1 h
  exact (Iq.ok_iff _).2
    ⟨⟨by simp [Iq.softReset], hhigh, hhigh16, hmarks, hcounter⟩, nofun, fun _ => by simp [Iq.softReset]; omega⟩

theorem completeRead_iq_ok {image : List (List Byte)} {s : State} (h : s.iq.ok) : (completeRead image s).iq.ok := by
  simp only [completeRead]
  split
  · simpa using h
  split
  · simpa using h
  split
  · simpa using h
  next hopen =>
    have hroom : s.iq.entries.length < 16 := by
      simp [intakeOpen] at hopen
      exact hopen.2
    rw [withCiu_iq]
    exact addEntry_iq_ok (s := wake .card s) hroom h

theorem block_iq_ok {index : Byte} {data : List Byte} {s : State} (h : s.iq.ok) : (block index data s).iq.ok := by
  unfold block
  split
  case isFalse => exact h
  simp only [takeBlock]
  split
  · split
    · exact completeRead_iq_ok (s := withCiu _ s) h
    · exact h
  · simpa using h

theorem engineTake_iq_ok {s : State} (h : s.iq.ok) : (engineTake s).iq.ok := by
  obtain ⟨⟨hlen, hrest⟩, -, hhigh⟩ := (Iq.ok_iff _).1 h
  unfold engineTake
  split
  case h_2 => exact h
  next e rest j he _ =>
    split
    case isFalse => exact h
    rw [he, List.length_cons] at hlen hhigh
    rw [startEvaluation_iq]
    exact resumeAfterTake_iq_ok ⟨Nat.le_of_succ_le hlen, hrest⟩ fun hf => Nat.lt_of_succ_lt (hhigh hf)

/-- Every command keeps the Intake Queue in order. -/
theorem effect_iq_ok (c : Instr) {s : State} (h : s.iq.ok) : (effect c s).iq.ok := by
  by_cases hreach : reachesIntake c = false
  · rwa [effect_iq s hreach]
  cases c <;> try exact absurd rfl hreach
  case powerOn | resetNLow | resetNHigh =>
    exact hardResets_keeps (Q := fun s => s.iq.ok) rfl (fun _ _ _ _ _ _ => Iq.reset_ok) h
  case reset =>
    refine takeRequest_preserves (Q := fun s => s.iq.ok) handles_reset (fun _ _ h => h) ?_ h
    rintro s _ rfl h
    exact Iq.softReset_ok h
  case intakeMarks =>
    refine takeRequest_preserves (Q := fun s => s.iq.ok) handles_intakeMarks (fun _ _ h => h) ?_ h
    rintro s _ ⟨high, low, h2, h16, hlow, rfl⟩ h
    have hrange := withMarks_inRange h h2 h16 hlow
    split
    next hold => exact resumeAfterTake_iq_ok hrange fun hf => absurd (hold.symm.trans hf) (by decide)
    next hold => exact holdAfterAdd_iq_ok hrange fun ht => absurd ht hold
  case present =>
    refine takeRequest_preserves (Q := fun s => s.iq.ok) handles_present (fun _ _ h => h) ?_ h
    rintro s _ ⟨hroom, x, rfl⟩ h
    exact addEntry_iq_ok hroom h
  case engineTake => exact whenRunning_keeps (P := fun s => s.iq.ok) engineTake_iq_ok h
  case block idle frame =>
    refine receiveFrame_keeps (Q := fun s => s.iq.ok) (fun _ h => h) (fun s h => by simpa using h) ?_ h
    rintro (_ | ⟨index, data⟩ | _ | _) s - h
    case block => exact block_iq_ok h
    all_goals exact h

/-- Settles O54: every command keeps the link and the queue in order, and a step is a command or nothing. -/
theorem linkAndIntakeStayInOrder : Obligations.LinkAndIntakeStayInOrder := fun _ _ h =>
  ⟨step_keeps (Q := fun s => s.lif.ok) (fun c _ => effect_lif_ok c) (fun _ _ h => h) h,
    step_keeps (Q := fun s => s.iq.ok) (fun c _ => effect_iq_ok c) (fun _ _ h => h) h⟩

end Sys2Proof.Machine
end

section
/-! The checks of a staged route (R22), and every command keeps the journey context and the journal in order (R18 to R37,
R172 to R182). -/

namespace Sys2Proof.Machine

/-! ### The checks of ROUTE-ARM (R22) -/

/-- What R22 asks of two stops of a route, the first before the second. -/
def Stop.precedes (p q : Stop) : Prop := p.code ≠ q.code ∧ p.post ≤ q.post ∧ p.planned ≤ q.planned

/-- One more stop keeps a sound route sound exactly when it breaks no check, which compare posts and planned times with
the last stop alone. -/
theorem pairwise_precedes_append {before : List Stop} {st : Stop} (h : before.Pairwise Stop.precedes) :
    (before ++ [st]).Pairwise Stop.precedes ↔ breaksRoute before st = false := by
  have hpair : (before ++ [st]).Pairwise Stop.precedes ↔ ∀ p ∈ before, p.precedes st := by
    simp [List.pairwise_append, h]
  rw [hpair]
  rcases List.eq_nil_or_concat before with rfl | ⟨front, last, rfl⟩
  · simp [breaksRoute]
  rw [List.concat_eq_append] at h ⊢
  have hlast : ∀ p ∈ front, p.post ≤ last.post ∧ p.planned ≤ last.planned := fun p hp =>
    ((List.pairwise_append.1 h).2.2 p hp last (List.mem_singleton_self last)).2
  simp only [breaksRoute, List.getLast?_append, List.getLast?_singleton, Option.some_or, Bool.or_eq_false_iff,
    List.any_eq_false, beq_iff_eq, decide_eq_false_iff_not, Nat.not_lt]
  constructor
  · intro hall
    have hnew := hall last (by simp)
    exact ⟨fun p hp => (hall p hp).1, hnew.2⟩
  · rintro ⟨hcodes, hpost, hplanned⟩ p hp
    refine ⟨hcodes p hp, ?_⟩
    rcases List.mem_append.1 hp with hfront | hend
    · exact ⟨Nat.le_trans (hlast p hfront).1 hpost, Nat.le_trans (hlast p hfront).2 hplanned⟩
    · rw [List.mem_singleton.1 hend]
      exact ⟨hpost, hplanned⟩

/-- A route whose stops up to `n` break no check is sound up to `n`. -/
theorem pairwise_precedes_take {stops : List Stop} (n : Nat)
    (h : ∀ i (hi : i < stops.length), i < n → breaksRoute (stops.take i) stops[i] = false) :
    (stops.take n).Pairwise Stop.precedes := by
  induction n with
  | zero => simp
  | succ n ih =>
    have hbefore := ih fun i hi hin => h i hi (Nat.lt_succ_of_lt hin)
    by_cases hn : n < stops.length
    · rw [List.take_succ_eq_append_getElem hn]
      exact (pairwise_precedes_append hbefore).2 (h n hn (Nat.lt_succ_self n))
    · rwa [List.take_of_length_le (by omega), ← List.take_of_length_le (l := stops) (i := n) (by omega)]

theorem firstRouteFault_eq_none {stops : List Stop} (h : firstRouteFault stops = none) :
    stops.Pairwise Stop.precedes := by
  have hall : ∀ i (hi : i < stops.length), breaksRoute (stops.take i) stops[i] = false := by
    intro i hi
    simpa [hi] using List.find?_eq_none.1 h i (List.mem_range.2 hi)
  simpa using pairwise_precedes_take stops.length fun i hi _ => hall i hi

/-- The fault that ROUTE-ARM reports is at the lowest stop with which the route is not sound. -/
theorem firstRouteFault_eq_some {stops : List Stop} {i : Nat} (h : firstRouteFault stops = some i) :
    i < stops.length ∧ (stops.take i).Pairwise Stop.precedes ∧ ¬ (stops.take (i + 1)).Pairwise Stop.precedes := by
  obtain ⟨hbreaks, hmem, hbefore⟩ := List.find?_range_eq_some.1 h
  have hi : i < stops.length := List.mem_range.1 hmem
  have hsound : (stops.take i).Pairwise Stop.precedes := pairwise_precedes_take i fun j hj hji => by
    simpa [hj] using hbefore j hji
  refine ⟨hi, hsound, ?_⟩
  rw [List.take_succ_eq_append_getElem hi, pairwise_precedes_append hsound]
  simpa [hi] using hbreaks

/-! ### The clock -/

theorem Clock.advance_ok {c : Clock} (hs : c.isSet = true) (h : c.ok) : c.advance.ok ∧ c.advance.isSet = true := by
  obtain ⟨hseconds, hmillis, htrim, htrim', hacc, hacc', -⟩ := h
  unfold Clock.advance
  split
  next hm => exact ⟨⟨hseconds, by simp only; omega, htrim, htrim', hacc, hacc', by simp [hs]⟩, hs⟩
  split
  next hm hmax =>
    unfold maxSeconds at hmax
    exact ⟨⟨by simp only; omega, by simp only; omega, htrim, htrim', hacc, hacc', by simp [hs]⟩, hs⟩
  next => exact ⟨⟨hseconds, hmillis, htrim, htrim', hacc, hacc', by simp [hs]⟩, hs⟩

theorem Clock.tick_ok {c : Clock} (h : c.ok) : c.tick.ok ∧ c.tick.isSet = c.isSet := by
  unfold Clock.tick
  split
  · exact ⟨h, rfl⟩
  next hs =>
    have hset : c.isSet = true := by simpa using hs
    split
    · exact ⟨h, rfl⟩
    · rw [hset]
      exact Clock.advance_ok hset h

theorem Clock.trimSecond_ok {c : Clock} (h : c.ok) : c.trimSecond.ok ∧ c.trimSecond.isSet = c.isSet := by
  simp only [Clock.trimSecond]
  split
  · exact ⟨h, rfl⟩
  next hs =>
    have hset : c.isSet = true := by simpa using hs
    have hkept (acc : Int) (withhold : Bool) (hlow : -999 ≤ acc) (hhigh : acc ≤ 999) :
        ({ c with trimAcc := acc, withhold := withhold } : Clock).ok := by
      obtain ⟨hseconds, hmillis, htrim, htrim', -⟩ := h
      exact ⟨hseconds, hmillis, htrim, htrim', hlow, hhigh, by simp [hset]⟩
    obtain ⟨-, -, htrim, htrim', hacc, hacc', -⟩ := h
    split
    · obtain ⟨hok, hstill⟩ := Clock.advance_ok (c := { c with trimAcc := c.trimAcc + c.trim - 1000 }) hset
        (hkept _ c.withhold (by omega) (by omega))
      exact ⟨hok, hstill.trans hset.symm⟩
    split
    · exact ⟨hkept _ true (by omega) (by omega), rfl⟩
    · exact ⟨hkept _ c.withhold (by omega) (by omega), rfl⟩

theorem Clock.setTo_ok {c : Clock} {seconds millis : Nat} (hs : seconds ≤ 4294967295) (hm : millis ≤ 999) (h : c.ok) :
    (c.setTo seconds millis).ok := by
  obtain ⟨-, -, htrim, htrim', -⟩ := h
  exact ⟨hs, hm, htrim, htrim', by simp [Clock.setTo], by simp [Clock.setTo], nofun⟩

/-! ### The journey context -/

theorem Jcu.withClock_ok {j : Jcu} {c : Clock} (hc : c.ok) (hs : j.clock.isSet = true → c.isSet = true) (h : j.ok) :
    ({ j with clock := c } : Jcu).ok := by
  obtain ⟨hrun, hnone, hnumber, hstaging, hlow, hhigh, hcar, hcar', -⟩ := h
  refine ⟨fun r hr => ?_, hnone, hnumber, hstaging, hlow, hhigh, hcar, hcar', hc⟩
  obtain ⟨hok, hset, hflag⟩ := hrun r hr
  exact ⟨hok, hs hset, hflag⟩

theorem Jcu.withStaging_ok {j : Jcu} {st : Staging} (hst : st.ok) (h : j.ok) : ({ j with staging := st } : Jcu).ok := by
  obtain ⟨hrun, hnone, hnumber, -, hrest⟩ := h
  exact ⟨hrun, hnone, hnumber, hst, hrest⟩

theorem Jcu.staging_ok {j : Jcu} (h : j.ok) : j.staging.ok := by
  obtain ⟨-, -, -, hstaging, -⟩ := h
  exact hstaging

theorem Jcu.running_ok {c : Jcu} {j : Running} (h : c.ok) (hj : c.journey = some j) : j.ok := (h.1 j hj).1

/-- A running journey that moves within its rules keeps the context in order. -/
theorem Jcu.withJourney_ok {c : Jcu} {j j' : Running} {flag : Bool} (hj : c.journey = some j) (hok : j'.ok)
    (hflag : j'.closing = true → flag = false) (h : c.ok) :
    ({ c with journey := some j', closeAtArrival := flag } : Jcu).ok := by
  obtain ⟨hrun, -, hrest⟩ := h
  obtain ⟨-, hset, -⟩ := hrun j hj
  refine ⟨fun r hr => ?_, nofun, hrest⟩
  cases hr
  exact ⟨hok, hset, hflag⟩

theorem Jcu.withDelay_ok {c : Jcu} {delay : Int} (hj : c.journey ≠ none) (hlow : -60 ≤ delay) (hhigh : delay ≤ 720)
    (h : c.ok) : ({ c with delay := delay } : Jcu).ok := by
  obtain ⟨hrun, hnone, hnumber, hstaging, -, -, hrest⟩ := h
  exact ⟨hrun, fun hnil => absurd hnil hj, hnumber, hstaging, hlow, hhigh, hrest⟩

theorem Position.ok_closing {closing : Bool} {n : Nat} {p : Position} (h : p.ok closing n) : p.ok true n := by
  cases p with
  | atStop k => exact ⟨h.1, fun _ => rfl⟩
  | running k => exact h

theorem enterClosing_jcu_eq {s : State} {j : Running} (hj : s.jcu.journey = some j) :
    ∃ staging, (staging = s.jcu.staging ∨ staging = .empty) ∧
      (enterClosing s).jcu = { closingJcu j s.jcu with staging := staging } := by
  by_cases hst : ∃ r, s.jcu.staging = .armed r
  · obtain ⟨r, hst⟩ := hst
    rw [enterClosing_armed hj hst]
    exact ⟨.empty, .inr rfl, rfl⟩
  · rw [enterClosing_unarmed hj fun r hr => hst ⟨r, hr⟩]
    exact ⟨s.jcu.staging, .inl rfl, rfl⟩

/-- Entering CLOSING leaves the context in order where the closing journey is (R38). -/
theorem enterClosing_jcu_ok {s : State} {j : Running} (hj : s.jcu.journey = some j) (h : (closingJcu j s.jcu).ok) :
    (enterClosing s).jcu.ok := by
  obtain ⟨staging, hst, heq⟩ := enterClosing_jcu_eq hj
  rw [heq]
  rcases hst with rfl | rfl
  · exact h
  · exact Jcu.withStaging_ok (st := .empty) trivial h

theorem Running.withPosition_ok {j : Running} {p : Position} {closing : Bool} (h : j.ok)
    (hp : p.ok closing j.route.stops.length) : ({ j with position := p, closing := closing } : Running).ok := by
  obtain ⟨hroute, hlow, hhigh, -⟩ := h
  exact ⟨hroute, hlow, hhigh, hp⟩

theorem departureDelay_bounds (seconds dayStart planned : Nat) :
    -60 ≤ departureDelay seconds dayStart planned ∧ departureDelay seconds dayStart planned ≤ 720 :=
  clampInt_bounds (by decide) _

theorem departedJcu_ok {c : Jcu} {j j' : Running} {k : Nat} (hj : c.journey = some j') (hroute : j.route.ok)
    (hlow : 1 ≤ j.epoch) (hhigh : j.epoch < 65536) (hopen : j.closing = false) (hk : k + 2 ≤ j.route.stops.length)
    (h : c.ok) : (departedJcu j k c).ok := by
  obtain ⟨hdelay, hdelay'⟩ := departureDelay_bounds c.clock.seconds j.route.dayStart (j.route.stop k).planned
  have hmoved : ({ c with journey := some { j with position := .running k } } : Jcu).ok :=
    Jcu.withJourney_ok (flag := c.closeAtArrival) hj ⟨hroute, hlow, hhigh, hk⟩
      (fun hc => absurd (hc.symm.trans hopen) (by decide)) h
  exact Jcu.withDelay_ok (by simp) hdelay hdelay' hmoved

theorem nextEpoch_bounds (n : Nat) : 1 ≤ nextEpoch n ∧ nextEpoch n < 65536 := by
  unfold nextEpoch
  split <;> omega

/-- A departure under a staged route that is applied (R27). -/
theorem departedJcu_applied_ok {c : Jcu} {j j' : Running} {r : Route} {k : Nat} (hj : c.journey = some j') (hr : r.ok)
    (hopen : j.closing = false) (hk : k + 2 ≤ r.stops.length) (h : c.ok) :
    (departedJcu { j with route := r, epoch := nextEpoch j.epoch } k (appliedJcu j r c)).ok := by
  obtain ⟨hlow, hhigh⟩ := nextEpoch_bounds j.epoch
  have hdeparted : (departedJcu { j with route := r, epoch := nextEpoch j.epoch } k c).ok :=
    departedJcu_ok hj hr hlow hhigh hopen hk h
  exact Jcu.withStaging_ok (st := .empty) trivial hdeparted

/-- A departure, with what becomes of an armed staged route (R26, R27). -/
theorem departed_jcu_ok {s : State} {j : Running} {k : Nat} (hj : s.jcu.journey = some j) (hopen : j.closing = false)
    (hk : k + 2 ≤ j.route.stops.length) (h : s.jcu.ok) : (depart (tryStaged j k s).2 (tryStaged j k s).1).jcu.ok := by
  obtain ⟨hroute, hlow, hhigh, -⟩ := Jcu.running_ok h hj
  have hunchanged (st : Staging) (hst : st.ok) : (departedJcu j k { s.jcu with staging := st }).ok :=
    departedJcu_ok (c := { s.jcu with staging := st }) hj hroute hlow hhigh hopen hk (Jcu.withStaging_ok hst h)
  by_cases hst : ∃ r, s.jcu.staging = .armed r
  case neg =>
    rw [tryStaged_unarmed (fun r hr => hst ⟨r, hr⟩), depart_eq hj]
    exact hunchanged s.jcu.staging (Jcu.staging_ok h)
  obtain ⟨r, hst⟩ := hst
  have hr : r.ok := by simpa [hst, Staging.ok] using Jcu.staging_ok h
  cases hi : r.indexOf? (j.route.stop k).code with
  | none =>
    rw [tryStaged_absent hst hi]
    simp only
    rw [depart_eq (j := j)]
    · exact hunchanged .empty trivial
    · exact hj
  | some k' =>
    by_cases hl : k' + 2 ≤ r.stops.length
    · rw [tryStaged_applies hst hi hl, depart_eq (j := { j with route := r, epoch := nextEpoch j.epoch }) rfl]
      exact departedJcu_applied_ok hj hr hopen hl h
    · rw [tryStaged_atEnd hst hi (Nat.lt_of_not_le hl)]
      simp only
      rw [depart_eq (j := j)]
      · exact hunchanged .empty trivial
      · exact hj

theorem openedJcu_ok {c : Jcu} {start : Nat} {r : Route} (hr : r.ok) (hset : c.clock.isSet = true)
    (hstart : start + 2 ≤ r.stops.length) (h : c.ok) : (openedJcu start r c).ok := by
  obtain ⟨-, -, -, -, -, -, -, -, hclock⟩ := h
  refine ⟨fun j hj => ?_, nofun, Nat.mod_lt _ (by decide), trivial, by simp [openedJcu], by simp [openedJcu],
    by simp [openedJcu], by simp [openedJcu], hclock⟩
  cases hj
  have hposition : (Position.atStop start).ok false r.stops.length := ⟨by omega, by omega⟩
  exact ⟨⟨hr, Nat.le_refl 1, by simp, hposition⟩, hset, nofun⟩

theorem Jcu.softReset_ok {c : Jcu} (h : c.ok) : c.softReset.ok := by
  obtain ⟨-, -, hnumber, -, -, -, -, -, hclock⟩ := h
  exact ⟨nofun, fun _ => ⟨rfl, rfl⟩, hnumber, trivial, by simp [Jcu.softReset], by simp [Jcu.softReset],
    by simp [Jcu.softReset], by simp [Jcu.softReset], hclock⟩

/-- The journey ends: in CLOSING the close-at-arrival flag is clear (R40). -/
theorem Jcu.ended_ok {c : Jcu} {j : Running} (hj : c.journey = some j) (hclosing : j.closing = true) (h : c.ok) :
    ({ c with journey := none, delay := 0 } : Jcu).ok := by
  obtain ⟨hrun, -, hnumber, hstaging, -, -, hrest⟩ := h
  obtain ⟨-, -, hflag⟩ := hrun j hj
  exact ⟨nofun, fun _ => ⟨rfl, hflag hclosing⟩, hnumber, hstaging, by simp, by simp, hrest⟩

/-- Case links and case closes leave the journey context. -/
theorem completeCases_jcu (cs : List Case) (s : State) : (cs.foldl completeCase s).jcu = s.jcu :=
  foldl_changesOnly changesOnly_completeCase cs s .jcu (by simp)

theorem closeCompletion_jcu_ok {s : State} (h : s.jcu.ok) : (closeCompletion s).jcu.ok := by
  unfold closeCompletion
  split
  case h_2 => exact h
  next j hj =>
    split
    case isFalse => exact h
    next hc =>
      have hclosing : journeyClosing s = true := by
        simp only [canComplete, Bool.and_eq_true] at hc
        obtain ⟨⟨⟨⟨⟨⟨hclosing, -⟩, -⟩, -⟩, -⟩, -⟩, -⟩ := hc
        exact hclosing
      rw [journeyClosing, hj] at hclosing
      have hjcu : (completeClose j s).jcu = { s.jcu with journey := none, delay := 0 } := by
        simp [completeClose, completeCases_jcu]
      rw [hjcu]
      exact Jcu.ended_ok hj hclosing h

theorem journeyOpen_iff {s : State} : journeyOpen s = true ↔ ∃ j, s.jcu.journey = some j ∧ j.closing = false := by
  unfold journeyOpen
  split
  next j hj => simp [hj]
  next hj => simp [hj]

/-- Every command keeps the journey context in order. -/
theorem effect_jcu_ok (c : Instr) {s : State} (h : s.jcu.ok) : (effect c s).jcu.ok := by
  by_cases hreach : reachesJourney c = false
  · rwa [effect_jcu s hreach]
  have request {kind : Nat} {P : State → State → Prop} {handle : List Byte → State → Answer}
      (hh : Handles kind P handle) (hp : ∀ s t, P s t → s.jcu.ok → t.jcu.ok) : (takeRequest kind handle s).jcu.ok :=
    takeRequest_preserves (Q := fun s => s.jcu.ok) hh (fun _ _ h => h) hp h
  cases c <;> try exact absurd rfl hreach
  case powerOn | resetNLow | resetNHigh =>
    exact hardResets_keeps (Q := fun s => s.jcu.ok) rfl (fun _ _ _ _ _ _ => Jcu.reset_ok) h
  case reset =>
    refine request handles_reset ?_
    rintro s _ rfl h
    exact Jcu.softReset_ok h
  -- the clock
  case clockSet =>
    refine request handles_clockSet ?_
    rintro s _ ⟨seconds, millis, hseconds, hmillis, rfl⟩ h
    rw [timeOutCases_jcu]
    obtain ⟨-, -, -, -, -, -, -, -, hclock⟩ := id h
    exact Jcu.withClock_ok (Clock.setTo_ok hseconds hmillis hclock) (fun _ => rfl) h
  case clockTrim =>
    refine request handles_clockTrim ?_
    rintro s _ ⟨trim, hlow, hhigh, rfl⟩ h
    obtain ⟨-, -, -, -, -, -, -, -, hseconds, hmillis, -, -, hacc⟩ := id h
    exact Jcu.withClock_ok ⟨hseconds, hmillis, hlow, hhigh, hacc⟩ id h
  case clockMillisecond =>
    refine whenRunning_keeps (P := fun s => s.jcu.ok) (fun h => ?_) h
    obtain ⟨-, -, -, -, -, -, -, -, hclock⟩ := id h
    obtain ⟨hok, hset⟩ := Clock.tick_ok hclock
    exact Jcu.withClock_ok hok (fun hs => hset.trans hs) h
  case trimSecond =>
    refine whenRunning_keeps (P := fun s => s.jcu.ok) (fun h => ?_) h
    obtain ⟨-, -, -, -, -, -, -, -, hclock⟩ := id h
    obtain ⟨hok, hset⟩ := Clock.trimSecond_ok hclock
    exact Jcu.withClock_ok hok (fun hs => hset.trans hs) h
  -- the journey
  case journeyOpen =>
    refine request handles_journeyOpen ?_
    rintro s _ ⟨start, r, b, -, hset, harmed, hstart, rfl⟩ h
    have hr : r.ok := by simpa [harmed, Staging.ok] using Jcu.staging_ok h
    rw [journal_jcu]
    exact openedJcu_ok hr hset hstart h
  case journeyClose =>
    refine request handles_journeyClose ?_
    rintro s _ ⟨hopen, rfl | rfl⟩ h <;> obtain ⟨j, hj, hnot⟩ := journeyOpen_iff.1 hopen
    · have hjok := Jcu.running_ok h hj
      obtain ⟨-, -, -, hp⟩ := id hjok
      exact enterClosing_jcu_ok hj (Jcu.withJourney_ok hj (Running.withPosition_ok hjok (Position.ok_closing hp)) (fun _ => rfl) h)
    · obtain ⟨hrun, -, hrest⟩ := h
      refine ⟨fun r hr => ?_, fun hnil => by simp [hj] at hnil, hrest⟩
      obtain rfl : j = r := Option.some.inj (hj.symm.trans hr)
      obtain ⟨hok, hset, -⟩ := hrun j hj
      exact ⟨hok, hset, fun hc => absurd (hc.symm.trans hnot) (by decide)⟩
  case closeCompletion => exact whenRunning_keeps (P := fun s => s.jcu.ok) closeCompletion_jcu_ok h
  case stopArrive =>
    refine request handles_stopArrive ?_
    rintro s _ ⟨j, i, k, hj, hopen, -, -, hk, rfl⟩ h
    have hjok := Jcu.running_ok h hj
    split
    · have hlast : (Position.atStop k).ok true j.route.stops.length := ⟨hk, fun _ => rfl⟩
      have hclosing : ({ j with position := .atStop k, closing := true } : Running).ok :=
        Running.withPosition_ok hjok hlast
      exact enterClosing_jcu_ok (s := arrivedAt j k s) rfl
        (Jcu.withJourney_ok (c := s.jcu) hj hclosing (fun _ => rfl) h)
    next hshort =>
      have hbefore : (Position.atStop k).ok j.closing j.route.stops.length := ⟨hk, fun hl => absurd (.inl hl) hshort⟩
      exact Jcu.withJourney_ok (flag := s.jcu.closeAtArrival) hj (Running.withPosition_ok hjok hbefore)
        (fun hc => absurd (hc.symm.trans hopen) (by decide)) h
  case stopDepart =>
    refine request handles_stopDepart ?_
    rintro s _ ⟨j, k, hj, hopen, -, hk, rfl⟩ h
    exact departed_jcu_ok hj hopen hk h
  -- the staging
  case routeBegin =>
    refine request handles_routeBegin ?_
    rintro s _ ⟨service, count, dayStart, h1, h2, h3, h4, h5, rfl⟩ h
    exact Jcu.withStaging_ok (st := .filling service count dayStart [])
      ⟨h1, h2, h3, h4, h5, Nat.zero_le _, nofun⟩ h
  case routeStops =>
    refine request handles_routeStops ?_
    rintro s _ ⟨service, count, dayStart, received, stops, hst, hstops, hlen, rfl⟩ h
    have hfilling := Jcu.staging_ok h
    rw [hst] at hfilling
    obtain ⟨h1, h2, h3, h4, h5, -, hreceived⟩ := hfilling
    refine Jcu.withStaging_ok (st := .filling service count dayStart (received ++ stops))
      ⟨h1, h2, h3, h4, h5, by simpa using hlen, fun st hmem => ?_⟩ h
    exact (List.mem_append.1 hmem).elim (hreceived st) (hstops st)
  case routeArm =>
    refine request handles_routeArm ?_
    rintro s _ ⟨service, count, dayStart, stops, hst, hlen, hsound, rfl⟩ h
    have hfilling := Jcu.staging_ok h
    rw [hst] at hfilling
    obtain ⟨h1, h2, h3, h4, h5, hmost, hstops⟩ := hfilling
    exact Jcu.withStaging_ok (st := .armed { service := service, dayStart := dayStart, stops := stops })
      ⟨h1, h2, h5, Nat.le_trans h3 hlen, Nat.le_trans hmost h4, hstops, firstRouteFault_eq_none hsound⟩ h
  case routeCancel =>
    refine request handles_routeCancel ?_
    rintro s _ rfl h
    exact Jcu.withStaging_ok (st := .empty) trivial h
  -- the carriage and the delay
  case carriageSet =>
    refine request handles_carriageSet ?_
    rintro s _ ⟨carriage, cls, hlow, hhigh, rfl⟩ ⟨hrun, hnone, hnumber, hstaging, hdelay, hdelay', -, -, hclock⟩
    exact ⟨hrun, hnone, hnumber, hstaging, hdelay, hdelay', hlow, hhigh, hclock⟩
  case delaySet =>
    refine request handles_delaySet ?_
    rintro s _ ⟨hj, delay, hlow, hhigh, rfl⟩ h
    exact Jcu.withDelay_ok hj hlow hhigh h

end Sys2Proof.Machine
end

section
/-! Every command keeps the journal in order (R172 to R182). -/

namespace Sys2Proof.Machine

theorem journalWith_jnl_ok {emit : List Notice → Lif → Lif} {b : JournalBody} {s : State} (h : s.jnl.ok) :
    (journalWith emit b s).jnl.ok :=
  append_ok h

theorem journal_jnl_ok {b : JournalBody} {s : State} (h : s.jnl.ok) : (journal b s).jnl.ok := append_ok h

theorem closeCase_jnl_ok {o : CaseOutcome} {r : RideOutcome} {n : Option Nat} {c : Case} {s : State} (h : s.jnl.ok) :
    (closeCase o r n c s).jnl.ok := by
  simp only [closeCase, queueCaseClosed_jnl]
  exact journal_jnl_ok (by simpa using h)

theorem timeOutCases_jnl_ok {s : State} (h : s.jnl.ok) : (timeOutCases s).jnl.ok :=
  List.foldlRecOn (motive := fun s : State => s.jnl.ok) _ _ h fun _ h _ _ => closeCase_jnl_ok h

theorem tryStaged_jnl_ok {j : Running} {k : Nat} {s : State} (h : s.jnl.ok) : (tryStaged j k s).1.jnl.ok := by
  unfold tryStaged
  split
  case h_2 => exact h
  split
  · split
    · exact append_ok h
    · exact h
  · exact h

theorem closeCompletion_jnl_ok {s : State} (h : s.jnl.ok) : (closeCompletion s).jnl.ok := by
  unfold closeCompletion
  split
  case h_2 => exact h
  split
  case isFalse => exact h
  have hcases : (s.ctb.cases.foldl completeCase s).jnl.ok :=
    List.foldlRecOn (motive := fun s : State => s.jnl.ok) _ _ h fun _ h _ _ =>
      journalWith_jnl_ok (emit := pendAll) (by simpa using h)
  exact journalWith_jnl_ok (emit := pendAll) (s := withJcu _ { s.ctb.cases.foldl completeCase s with irg := _ }) hcases

theorem issue_jnl_ok {ofParked : Bool} {s : State} (h : s.jnl.ok) : (issue ofParked s).jnl.ok := by
  have hverdict (ev : Evaluation) : (issueVerdict ev s).jnl.ok := by
    simp only [issueVerdict, releaseCard_jnl]
    exact journal_jnl_ok (by simpa using h)
  unfold issue
  split
  · exact h
  split
  · split
    · split
      · exact hverdict _
      · exact h
    · exact h
  · split
    · exact hverdict _
    · exact h

theorem endWrite_jnl_ok {done down : Bool} {s : State} (h : s.jnl.ok) : (endWrite done down s).jnl.ok := by
  unfold endWrite
  split
  · exact h
  rw [withCiu_jnl]
  split
  · simpa using h
  · unfold endResolutionWrite
    split
    · exact journal_jnl_ok (by simpa using h)
    · exact h

theorem cardDown_jnl_ok {s : State} (h : s.jnl.ok) : (cardDown s).jnl.ok := by
  unfold cardDown
  split
  · exact h
  · simpa using h
  · exact h
  · exact endWrite_jnl_ok h
  · exact h

theorem cardUp_jnl_ok {identifier : List Byte} {s : State} (h : s.jnl.ok) : (cardUp identifier s).jnl.ok := by
  simp only [cardUp, cardUpAbsent_jnl]
  exact cardDown_jnl_ok h

theorem written_jnl_ok {result : WriteResult} {s : State} (h : s.jnl.ok) : (written result s).jnl.ok := by
  unfold written
  split
  · exact endWrite_jnl_ok h
  · exact h

theorem writeTimerExpiry_jnl_ok {s : State} (h : s.jnl.ok) : (writeTimerExpiry s).jnl.ok := by
  unfold writeTimerExpiry
  split
  · exact endWrite_jnl_ok h
  · exact h

theorem stopBatch_ok {j : Jnl} (h : j.ok) : j.stopBatch.ok := by
  obtain ⟨hlen, hrising, hbounds, hlast, hdrop, -, hrest⟩ := h
  exact ⟨hlen, hrising, hbounds, hlast, hdrop, Nat.zero_le _, hrest⟩

theorem reportBatchWhen_jnl_ok {due : Bool} {s : State} (h : s.jnl.ok) :
    (if due then reportBatch s else s).jnl.ok := by
  split
  · exact stopBatch_ok h
  · exact h

theorem release_ok {j : Jnl} {upTo : Nat} (h : j.ok) : (j.release upTo).ok := by
  simp only [Jnl.release]
  split
  case isFalse => exact h
  obtain ⟨hlen, hrising, hbounds, hrest⟩ := h
  exact ⟨Nat.le_trans (List.length_filter_le _ _) hlen, hrising.filter _, fun r hr => hbounds r (List.mem_filter.1 hr).1, hrest⟩

theorem thresholdOf_cases {step : Nat} (hlow : 1 ≤ step) (hhigh : step ≤ 3) :
    thresholdOf step = 1024 ∨ thresholdOf step = 512 ∨ thresholdOf step = 256 := by
  obtain rfl | rfl | rfl : step = 1 ∨ step = 2 ∨ step = 3 := by omega
  · exact .inl rfl
  · exact .inr (.inl rfl)
  · exact .inr (.inr rfl)

/-- Every command keeps the journal in order. -/
theorem effect_jnl_ok (c : Instr) {s : State} (h : s.jnl.ok) : (effect c s).jnl.ok := by
  by_cases hreach : reachesJournal c = false
  · rwa [effect_jnl s hreach]
  have request {kind : Nat} {P : State → State → Prop} {handle : List Byte → State → Answer}
      (hh : Handles kind P handle) (hp : ∀ s t, P s t → s.jnl.ok → t.jnl.ok) : (takeRequest kind handle s).jnl.ok :=
    takeRequest_preserves (Q := fun s => s.jnl.ok) hh (fun _ _ h => h) hp h
  have running {f : State → State} (hf : ∀ s : State, s.jnl.ok → (f s).jnl.ok) : (whenRunning f s).jnl.ok :=
    whenRunning_keeps (P := fun s => s.jnl.ok) (hf s) h
  have received {own : CardReceived → State → State} {idle : Bool} {frame : List Byte}
      (hown : ∀ r s, s.jnl.ok → (own r s).jnl.ok) : (whenRunning (receiveFrame own idle frame) s).jnl.ok :=
    receiveFrame_keeps (Q := fun s => s.jnl.ok) (fun _ h => h) (fun _ h => by simpa using h) (fun r s _ => hown r s) h
  cases c <;> try exact absurd rfl hreach
  case powerOn | resetNLow | resetNHigh =>
    exact hardResets_keeps (Q := fun s => s.jnl.ok) rfl (fun _ _ _ _ _ _ => Jnl.reset_ok) h
  case reset =>
    refine request handles_reset ?_
    rintro s _ rfl h
    exact append_ok h
  -- the journey and the cases
  case clockSet =>
    refine request handles_clockSet ?_
    rintro s _ ⟨seconds, millis, -, -, rfl⟩ h
    exact timeOutCases_jnl_ok h
  case journeyOpen =>
    refine request handles_journeyOpen ?_
    rintro s _ ⟨start, r, b, -, -, -, -, rfl⟩ h
    exact journal_jnl_ok h
  case closeCompletion => exact running fun s h => closeCompletion_jnl_ok h
  case stopDepart =>
    refine request handles_stopDepart ?_
    rintro s _ ⟨j, k, -, -, -, -, rfl⟩ h
    rw [depart_jnl]
    exact tryStaged_jnl_ok h
  case caseResolve =>
    refine request handles_caseResolve ?_
    rintro s _ ⟨serial, c, d, -, -, rfl⟩ h
    exact closeCase_jnl_ok (by simpa using h)
  case caseDeadlineReached => exact running fun s h => timeOutCases_jnl_ok h
  -- the journal
  case journalRead =>
    refine request handles_journalRead ?_
    rintro s _ (rfl | rfl) h
    · exact h
    · exact stopBatch_ok h
  case journalRelease =>
    refine request handles_journalRelease ?_
    rintro s _ ⟨upTo, rfl⟩ h
    exact release_ok h
  case journalTimers =>
    refine request handles_journalTimers ?_
    rintro s _ ⟨q, a, step, lowArmed, hq, ha, hlow, hhigh, rfl⟩ ⟨hlen, hrising, hbounds, hlast, hdrop, hunreported, -⟩
    exact ⟨hlen, hrising, hbounds, hlast, hdrop, hunreported, thresholdOf_cases hlow hhigh, hq, ha⟩
  case quietTimerExpiry =>
    exact running (f := fun s => if batchDue s.jnl.quietTimer s.timebase then reportBatch s else s)
      fun _ h => reportBatchWhen_jnl_ok h
  case absoluteTimerExpiry =>
    exact running (f := fun s => if batchDue s.jnl.absoluteTimer s.timebase then reportBatch s else s)
      fun _ h => reportBatchWhen_jnl_ok h
  -- the engine and the card line
  case issue ofParked => exact running fun s h => issue_jnl_ok h
  case cardUp idle frame =>
    refine received ?_
    rintro (identifier | _ | _ | _) s h
    · exact cardUp_jnl_ok h
    all_goals exact h
  case cardDown idle frame =>
    refine received ?_
    rintro (_ | _ | _ | _) s h
    case cardDown => exact cardDown_jnl_ok h
    all_goals exact h
  case written idle frame =>
    refine received ?_
    rintro (_ | _ | _ | result) s h
    case written => exact written_jnl_ok h
    all_goals exact h
  case writeTimerExpiry => exact running fun _ h => writeTimerExpiry_jnl_ok h

/-- Settles O55: every command keeps the two in order, and a step is a command or nothing. -/
theorem journeyAndJournalStayInOrder : Obligations.JourneyAndJournalStayInOrder := fun _ _ h =>
  ⟨step_keeps (Q := fun s => s.jcu.ok) (fun c _ => effect_jcu_ok c) (fun _ _ h => h) h,
    step_keeps (Q := fun s => s.jnl.ok) (fun c _ => effect_jnl_ok c) (fun _ _ h => h) h⟩

end Sys2Proof.Machine
end

section
/-! The stages of an evaluation, each by what it can do (R57 to R60, R77 to R81, R111, R112). -/

namespace Sys2Proof.Machine

/-! ### Raising findings (R57) -/

/-- Two evaluations differ in their findings alone. -/
def Evaluation.OnlyFindings (a b : Evaluation) : Prop := ∃ fs, b = { a with findings := fs }

theorem Evaluation.OnlyFindings.refl (a : Evaluation) : a.OnlyFindings a := ⟨a.findings, rfl⟩

theorem Evaluation.OnlyFindings.trans {a b c : Evaluation} (h : a.OnlyFindings b) (k : b.OnlyFindings c) :
    a.OnlyFindings c := by
  obtain ⟨fs, rfl⟩ := h
  obtain ⟨gs, rfl⟩ := k
  exact ⟨gs, rfl⟩

theorem Evaluation.raise_onlyFindings (f : Finding) (ev : Evaluation) : ev.OnlyFindings (ev.raise f) := by
  unfold Evaluation.raise
  split
  · exact .refl ev
  · exact ⟨_, rfl⟩

theorem Evaluation.raiseIf_onlyFindings (b : Bool) (f : Finding) (ev : Evaluation) :
    ev.OnlyFindings (ev.raiseIf b f) := by
  unfold Evaluation.raiseIf
  split
  · exact raise_onlyFindings f ev
  · exact .refl ev

theorem Evaluation.raise?_onlyFindings (f : Option Finding) (ev : Evaluation) : ev.OnlyFindings (ev.raise? f) := by
  cases f with
  | none => exact .refl ev
  | some f => exact raise_onlyFindings f ev

/-- What the set holds after one more finding is raised. -/
@[simp] theorem Evaluation.has_raise (f g : Finding) (ev : Evaluation) :
    (ev.raise f).has g = true ↔ ev.has g = true ∨ f = g := by
  unfold Evaluation.raise Evaluation.has
  split
  next h =>
    refine ⟨.inl, fun hg => hg.elim id ?_⟩
    rintro rfl
    exact h
  next => simp

@[simp] theorem Evaluation.has_raiseIf (b : Bool) (f g : Finding) (ev : Evaluation) :
    (ev.raiseIf b f).has g = true ↔ ev.has g = true ∨ (b = true ∧ f = g) := by
  cases b <;> simp [Evaluation.raiseIf]

@[simp] theorem Evaluation.has_raise? (o : Option Finding) (g : Finding) (ev : Evaluation) :
    (ev.raise? o).has g = true ↔ ev.has g = true ∨ o = some g := by
  cases o <;> simp [Evaluation.raise?]

/-! ### The stages up to POLICY -/

theorem screenStage_eq_raise? (c : Credential) (s : State) (ev : Evaluation) :
    screenStage c s ev = ev.raise? (screenFinding c.key s.rsu) := by
  unfold screenStage Evaluation.raise?
  split <;> rfl

theorem screenStage_onlyFindings (c : Credential) (s : State) (ev : Evaluation) :
    ev.OnlyFindings (screenStage c s ev) := by
  rw [screenStage_eq_raise?]
  exact Evaluation.raise?_onlyFindings _ ev

theorem screenStage_credential (c : Credential) (s : State) (ev : Evaluation) :
    (screenStage c s ev).credential = ev.credential := by
  obtain ⟨fs, hfs⟩ := screenStage_onlyFindings c s ev
  rw [hfs]

theorem judgements_onlyFindings (c : Credential) (rec' : Option Record) (entry : AreaEntry) (window : Nat)
    (ev : Evaluation) : ev.OnlyFindings (judgements c rec' entry window ev) := by
  unfold judgements
  exact (((((((ev.raiseIf_onlyFindings _ _).trans (Evaluation.raise?_onlyFindings _ _)).trans
    (Evaluation.raise?_onlyFindings _ _)).trans (Evaluation.raiseIf_onlyFindings _ _ _)).trans
    (Evaluation.raiseIf_onlyFindings _ _ _)).trans (Evaluation.raiseIf_onlyFindings _ _ _)).trans
    (Evaluation.raiseIf_onlyFindings _ _ _)).trans (Evaluation.raiseIf_onlyFindings _ _ _)

/-- REGISTER fixes the register status and the record, and may raise REGISTER-FULL (R102, R103). -/
theorem registerStage_evaluation (c : Credential) (ev : Evaluation) (s : State) :
    ({ ev with regStatus := (registerLookup c.key ev.snapshot.seconds ev.carriage s.irg.records).2,
               hasRecord := (registerLookup c.key ev.snapshot.seconds ev.carriage s.irg.records).2 != .full } :
        Evaluation).OnlyFindings (registerStage c ev s).1 :=
  Evaluation.raiseIf_onlyFindings _ _ _

/-- JUDGE fixes the area reading and the inspection count, and raises findings (R65, R104). -/
theorem judgeStage_evaluation (c : Credential) (ev : Evaluation) (s : State) :
    ({ ev with areaReading := some (s.ven.areaOf (ev.snapshot.route.stop ev.snapshot.a).area),
               inspCount := ((recordOf ev c.key s).map fun r => satSucc 255 r.count).getD ev.inspCount } :
        Evaluation).OnlyFindings (judgeStage c ev s).1 := by
  obtain ⟨fs, hfs⟩ := judgements_onlyFindings c (recordOf ev c.key s)
    (s.ven.areaOf (ev.snapshot.route.stop ev.snapshot.a).area) s.irg.passback ev
  unfold judgeStage
  simp only [hfs]
  split
  next r hr => exact ⟨fs, by simp [hr]⟩
  next hr => exact ⟨fs, by simp [hr]⟩

/-- JUDGE updates the record the evaluation has, and nothing else (R104). -/
theorem judgeStage_state (c : Credential) (ev : Evaluation) (s : State) :
    (judgeStage c ev s).2 =
      if (recordOf ev c.key s).isSome then modifyRecord c.key (seenUpdate ev.snapshot.seconds ev.carriage) s else s := by
  unfold judgeStage
  simp only
  split
  next r hr => simp [hr]
  next hr => simp [hr]

/-! ### CONSUME (R79 to R81) -/

/-- What CONSUME can do with an evaluation: it reports a ride and goes on to ISSUE; or it takes the ride of a record whose
ride state is NONE or TORN on the way there; or it starts the write of that ride to the card and parks the verdict. -/
inductive Consumed (c : Credential) (ev : Evaluation) (s : State) : State → Prop
  | reported (outcome : RideOutcome) (remaining : Option Nat) : Consumed c ev s (toIssue (ev.setRide outcome remaining) s)
  | taken (outcome : RideOutcome) (remaining : Option Nat) (r : Record) (hr : recordOf ev c.key s = some r)
      (hride : r.ride = .none ∨ ∃ e, r.ride = .torn e) :
      Consumed c ev s (toIssue (ev.setRide outcome remaining) (modifyRecord c.key Record.consume s))
  | parked (counter : Counter) (session : Nat) (r : Record) (ho : ev.origin = .card counter session)
      (hp : sessionPresent .queued session s.ciu = true) (hr : recordOf ev c.key s = some r)
      (hride : r.ride = .none ∨ ∃ e, r.ride = .torn e) : Consumed c ev s (parkAndWrite c counter ev s)

theorem recoverTorn_consumed {c : Credential} {ev : Evaluation} {s : State} {r : Record} {expected : Nat}
    (hr : recordOf ev c.key s = some r) (hride : r.ride = .torn expected) :
    Consumed c ev s (recoverTorn c expected ev s) := by
  unfold recoverTorn
  split
  · exact .reported _ _
  next counter session ho =>
    split
    · exact .reported _ _
    next hp =>
      split
      · split
        · exact .parked counter session r ho (by simpa using hp) hr (.inr ⟨expected, hride⟩)
        · exact .reported _ _
      · exact .taken _ _ r hr (.inr ⟨expected, hride⟩)

theorem consumeStage_consumed (c : Credential) (ev : Evaluation) (s : State) : Consumed c ev s (consumeStage c ev s) := by
  simp only [consumeStage]
  split
  · exact .reported _ _
  split
  · exact .reported _ _
  next r hr =>
    split
    · exact .reported _ _
    · exact .reported _ _
    next expected hride => exact recoverTorn_consumed hr hride
    next hride =>
      split
      · exact .reported _ _
      split
      · exact .taken _ _ r hr (.inl hride)
      next counter session ho =>
        split
        next hp => exact .parked counter session r ho hp hr (.inl hride)
        next => exact .reported _ _

/-! ### The verdict -/

theorem deriveVerdict_eq (fs : List Raised) :
    deriveVerdict fs =
      if ∃ r ∈ fs, r.policy = some .blocking then .action else if fs = [] then .pass else .passNoted := by
  unfold deriveVerdict
  simp only [List.any_eq_true, beq_iff_eq, List.isEmpty_iff]

/-- A decided evaluation: it has a credential, its findings are kept ones, and its verdict is theirs (R77). -/
def Evaluation.decided (ev : Evaluation) : Prop :=
  ev.credential.isSome = true ∧ (∀ r ∈ ev.findings, r.policy = some .blocking ∨ r.policy = some .noted) ∧
    ev.verdict = some (deriveVerdict ev.findings)

theorem Evaluation.decided.verdictOk {ev : Evaluation} (h : ev.decided) : ev.verdictOk := by
  obtain ⟨hc, hfs, hv⟩ := h
  exact .inr ⟨hc, hfs, by rw [hv, deriveVerdict_eq]⟩

theorem Evaluation.verdictOk.decided {ev : Evaluation} (h : ev.verdictOk) (hc : ev.credential.isSome = true) :
    ev.decided := by
  rcases h with ⟨-, -, hn⟩ | ⟨-, hfs, hv⟩
  · simp [hn] at hc
  · exact ⟨hc, hfs, by rw [hv, deriveVerdict_eq]⟩

/-- POLICY decides an evaluation (R77). -/
theorem policyStage_decided (v : Ven) {ev : Evaluation} (hc : ev.credential.isSome = true) :
    (policyStage v ev).decided := by
  refine ⟨hc, fun r hr => ?_, rfl⟩
  obtain ⟨hmem, hkept⟩ := List.mem_filter.1 hr
  obtain ⟨q, -, rfl⟩ := List.mem_map.1 hmem
  cases hp : v.policyOf q.finding
  · exact .inl rfl
  · exact .inr rfl
  · simp [hp] at hkept

theorem quoteStage_decided {c : Credential} {s : State} {ev : Evaluation} (h : ev.decided) :
    (quoteStage c s ev).decided := by
  unfold quoteStage
  split
  · split <;> exact h
  · exact h

/-- What the trusted stages leave: the state that CONSUME leaves of an evaluation that POLICY has decided (R60). -/
theorem trustedStages_consumed {c : Credential} {ev : Evaluation} {s : State} (hc : ev.credential.isSome = true) :
    ∃ ev', ev'.decided ∧ ev'.origin = ev.origin ∧
      Consumed c ev' (judgeStage c (registerStage c ev s).1 (registerStage c ev s).2).2 (trustedStages c ev s) := by
  obtain ⟨fs, hreg⟩ := registerStage_evaluation c ev s
  obtain ⟨gs, hjudge⟩ := judgeStage_evaluation c (registerStage c ev s).1 (registerStage c ev s).2
  refine ⟨_, quoteStage_decided (policyStage_decided _ ?_), ?_, consumeStage_consumed _ _ _⟩
  · rw [hjudge, hreg]
    exact hc
  · have hquote (c : Credential) (s : State) (ev : Evaluation) : (quoteStage c s ev).origin = ev.origin := by
      unfold quoteStage
      split
      · split <;> rfl
      · rfl
    rw [hquote]
    change (judgeStage c (registerStage c ev s).1 (registerStage c ev s).2).1.origin = _
    rw [hjudge, hreg]

end Sys2Proof.Machine
end

section
/-! Every command keeps the key table, the screen, the engine's tables and the waiting verdicts in order. -/

namespace Sys2Proof.Machine

/-! ### The Issuer Key Table (R10 to R13) -/

theorem hasPair_iff {issuer version : Nat} {e : KeyEntry} :
    hasPair issuer version e = true ↔ e.issuer = issuer ∧ e.version = version := by
  simp [hasPair]

theorem Dcu.ok_append {d : Dcu} {entry : KeyEntry} (he : entry.ok) (hroom : d.keys.length < 32)
    (hnew : findKey entry.issuer entry.version d.keys = none) (h : d.ok) :
    ({ d with keys := d.keys ++ [entry] } : Dcu).ok := by
  obtain ⟨hlen, hpairs, hall⟩ := h
  have hother : ∀ a ∈ d.keys, ¬ (a.issuer = entry.issuer ∧ a.version = entry.version) := fun a ha hpair => by
    simpa [hasPair_iff.2 hpair] using List.find?_eq_none.1 hnew a ha
  refine ⟨by simp only [List.length_append, List.length_singleton]; omega, ?_, ?_⟩
  · rw [List.pairwise_append]
    refine ⟨hpairs, List.pairwise_singleton _ _, fun a ha b hb => ?_⟩
    rw [List.mem_singleton.1 hb]
    exact hother a ha
  · intro e hmem
    rcases List.mem_append.1 hmem with hold | hlast
    · exact hall e hold
    · rw [List.mem_singleton.1 hlast]
      exact he

/-- An entry that is replaced keeps its pair (R11, R12). -/
theorem Dcu.ok_setKey {d : Dcu} {entry : KeyEntry} (he : entry.ok) (h : d.ok) :
    ({ d with keys := setKey entry d.keys } : Dcu).ok := by
  obtain ⟨hlen, hpairs, hall⟩ := h
  have hpair (e : KeyEntry) : (if hasPair entry.issuer entry.version e then entry else e).issuer = e.issuer ∧
      (if hasPair entry.issuer entry.version e then entry else e).version = e.version := by
    split
    next hsame =>
      obtain ⟨hi, hv⟩ := hasPair_iff.1 hsame
      exact ⟨hi.symm, hv.symm⟩
    next => exact ⟨rfl, rfl⟩
  refine ⟨by simpa [setKey] using hlen, ?_, ?_⟩
  · refine List.pairwise_map.2 (hpairs.imp fun {a b} hab => ?_)
    rwa [(hpair a).1, (hpair a).2, (hpair b).1, (hpair b).2]
  · intro e hmem
    obtain ⟨old, hold, rfl⟩ := List.mem_map.1 hmem
    split
    · exact he
    · exact hall old hold

theorem Dcu.ok_filter {d : Dcu} (p : KeyEntry → Bool) (h : d.ok) : ({ d with keys := d.keys.filter p } : Dcu).ok := by
  obtain ⟨hlen, hpairs, hall⟩ := h
  exact ⟨Nat.le_trans (List.length_filter_le _ _) hlen, hpairs.filter p, fun e he => hall e (List.mem_filter.1 he).1⟩

theorem effect_dcu_ok (c : Instr) {s : State} (h : s.dcu.ok) : (effect c s).dcu.ok := by
  by_cases hreach : reachesKeys c = false
  · rwa [effect_dcu s hreach]
  have request {kind : Nat} {P : State → State → Prop} {handle : List Byte → State → Answer}
      (hh : Handles kind P handle) (hp : ∀ s t, P s t → s.dcu.ok → t.dcu.ok) : (takeRequest kind handle s).dcu.ok :=
    takeRequest_preserves (Q := fun s => s.dcu.ok) hh (fun _ _ h => h) hp h
  cases c <;> try exact absurd rfl hreach
  case powerOn | resetNLow | resetNHigh =>
    exact hardResets_keeps (Q := fun s => s.dcu.ok) rfl (fun _ _ _ _ _ _ => Dcu.reset_ok) h
  case keyLoad =>
    refine request handles_keyLoad ?_
    rintro s _ ⟨entry, he, ⟨hnew, hroom, rfl⟩ | rfl⟩ h
    · exact Dcu.ok_append he hroom hnew h
    · exact Dcu.ok_setKey he h
  case keyState =>
    refine request handles_keyState ?_
    rintro s _ ⟨issuer, version, e, state, hfound, rfl⟩ h
    have he : e.ok := h.2.2 e (List.mem_of_find?_eq_some hfound)
    exact Dcu.ok_setKey (entry := { e with state := state }) he h
  case keyDrop =>
    refine request handles_keyDrop ?_
    rintro s _ ⟨issuer, version, rfl⟩ h
    exact Dcu.ok_filter _ h

/-! ### The Revocation Screen (R43 to R52) -/

theorem insertIndex_rising {i : Nat} {l : List Nat} (h : l.Pairwise (fun a b => a < b)) :
    (insertIndex i l).Pairwise (fun a b => a < b) := by
  induction l with
  | nil => simp [insertIndex]
  | cons j js ih =>
    obtain ⟨hj, hjs⟩ := List.pairwise_cons.1 h
    unfold insertIndex
    split
    next hlt =>
      refine List.pairwise_cons.2 ⟨fun k hk => ?_, h⟩
      rcases List.mem_cons.1 hk with rfl | hk
      · exact hlt
      · exact Nat.lt_trans hlt (hj k hk)
    split
    next => exact h
    next hge hne =>
      refine List.pairwise_cons.2 ⟨fun k hk => ?_, ih hjs⟩
      rcases mem_insertIndex.1 hk with rfl | hk
      · omega
      · exact hj k hk

/-- The pending image is in order (R45, R47). -/
def PendingImage.ok (p : PendingImage) : Prop :=
  p.image.offset ≤ 3 ∧ p.received.Pairwise (fun i j => i < j) ∧ ∀ i ∈ p.received, i ≤ 31

theorem PendingImage.store_ok {p : PendingImage} {index : Nat} {bits : List Byte} (hi : index ≤ 31) (h : p.ok) :
    (p.store index bits).ok := by
  obtain ⟨hoffset, hrising, hbound⟩ := h
  refine ⟨hoffset, insertIndex_rising hrising, fun i hmem => ?_⟩
  rcases mem_insertIndex.1 hmem with rfl | hold
  · exact hi
  · exact hbound i hold

theorem Rsu.pending_ok {r : Rsu} {p : PendingImage} (h : r.ok) (hp : r.pendingImage = some p) : p.ok := h.2.1 p hp

theorem Rsu.ok_pending {r : Rsu} {p : PendingImage} (hp : p.ok) (h : r.ok) :
    ({ r with pendingImage := some p } : Rsu).ok := by
  obtain ⟨hactive, -, hrest⟩ := h
  refine ⟨hactive, fun q hq => ?_, hrest⟩
  cases hq
  exact hp

theorem Rsu.ok_list {r : Rsu} {l : List ListEntry} (hlen : l.length ≤ 64) (hkeys : l.Pairwise (fun a b => a.key ≠ b.key))
    (hall : ∀ e ∈ l, e.reason ≤ 15) (h : r.ok) : ({ r with list := l } : Rsu).ok := by
  obtain ⟨hactive, hpending, -⟩ := h
  exact ⟨hactive, hpending, hlen, hkeys, hall⟩

theorem Rsu.ok_append {r : Rsu} {entry : ListEntry} (he : entry.reason ≤ 15) (hnew : findListed entry.key r.list = none)
    (hroom : r.list.length < 64) (h : r.ok) : ({ r with list := r.list ++ [entry] } : Rsu).ok := by
  obtain ⟨-, -, -, hkeys, hall⟩ := id h
  refine Rsu.ok_list (by simp only [List.length_append, List.length_singleton]; omega) ?_ ?_ h
  · rw [List.pairwise_append]
    refine ⟨hkeys, List.pairwise_singleton _ _, fun a ha b hb => ?_⟩
    rw [List.mem_singleton.1 hb]
    simpa using List.find?_eq_none.1 hnew a ha
  · intro e hmem
    rcases List.mem_append.1 hmem with hold | hlast
    · exact hall e hold
    · rw [List.mem_singleton.1 hlast]
      exact he

theorem Rsu.ok_replace {r : Rsu} {entry : ListEntry} (he : entry.reason ≤ 15) (h : r.ok) :
    ({ r with list := replaceListed entry r.list } : Rsu).ok := by
  obtain ⟨-, -, hlen, hkeys, hall⟩ := id h
  have hkey (e : ListEntry) : (if e.key = entry.key then entry else e).key = e.key := by
    split
    next hsame => exact hsame.symm
    next => rfl
  refine Rsu.ok_list (by simpa [replaceListed] using hlen) ?_ ?_ h
  · refine List.pairwise_map.2 (hkeys.imp fun {a b} hab => ?_)
    rwa [hkey a, hkey b]
  · intro e hmem
    obtain ⟨old, hold, rfl⟩ := List.mem_map.1 hmem
    split
    · exact he
    · exact hall old hold

theorem effect_rsu_ok (c : Instr) {s : State} (h : s.rsu.ok) : (effect c s).rsu.ok := by
  by_cases hreach : reachesScreen c = false
  · rwa [effect_rsu s hreach]
  have request {kind : Nat} {P : State → State → Prop} {handle : List Byte → State → Answer}
      (hh : Handles kind P handle) (hp : ∀ s t, P s t → s.rsu.ok → t.rsu.ok) : (takeRequest kind handle s).rsu.ok :=
    takeRequest_preserves (Q := fun s => s.rsu.ok) hh (fun _ _ h => h) hp h
  cases c <;> try exact absurd rfl hreach
  case powerOn | resetNLow | resetNHigh =>
    exact hardResets_keeps (Q := fun s => s.rsu.ok) rfl (fun _ _ _ _ _ _ => Rsu.reset_ok) h
  case filterBegin =>
    refine request handles_filterBegin ?_
    rintro s _ ⟨generation, offset, ho, rfl⟩ h
    exact Rsu.ok_pending (p := begunImage generation offset) ⟨ho, List.Pairwise.nil, nofun⟩ h
  case filterSegment =>
    refine request handles_filterSegment ?_
    rintro s _ ⟨p, index, bits, hp, hi, rfl⟩ h
    exact Rsu.ok_pending (PendingImage.store_ok hi (Rsu.pending_ok h hp)) h
  case filterCommit =>
    refine request handles_filterCommit ?_
    rintro s _ ⟨p, hp, rfl⟩ h
    obtain ⟨hoffset, -⟩ := Rsu.pending_ok h hp
    obtain ⟨-, -, hrest⟩ := h
    exact ⟨hoffset, nofun, hrest⟩
  case listAdd =>
    refine request handles_listAdd ?_
    rintro s _ ⟨entry, he, ⟨hnew, hroom, rfl⟩ | rfl⟩ h
    · exact Rsu.ok_append he hnew hroom h
    · exact Rsu.ok_replace he h
  case listRemove =>
    refine request handles_listRemove ?_
    rintro s _ ⟨p, rfl⟩ h
    obtain ⟨-, -, hlen, hkeys, hall⟩ := id h
    exact Rsu.ok_list (Nat.le_trans (List.length_filter_le _ _) hlen) (hkeys.filter p)
      (fun e he => hall e (List.mem_filter.1 he).1) h
  case listFlush =>
    refine request handles_listFlush ?_
    rintro s _ rfl h
    exact Rsu.ok_list (l := []) (by simp) List.Pairwise.nil nofun h

end Sys2Proof.Machine
end

section
/-! Every command keeps the engine's tables and the waiting verdicts in order (R57 to R62, R75 to R77, R81 to R83). -/

namespace Sys2Proof.Machine

/-! ### Moves of the engine -/

/-- The engine moves without a change of its tables, and its waiting verdicts stay in order. -/
def Ven.Moves (v v' : Ven) : Prop :=
  (∃ engine parked, v' = { v with engine := engine, parked := parked }) ∧ (v.verdictsOk → v'.verdictsOk)

theorem Ven.Moves.refl (v : Ven) : v.Moves v := ⟨⟨v.engine, v.parked, rfl⟩, id⟩

theorem Ven.Moves.of_eq {v v' : Ven} (h : v' = v) : v.Moves v' := h ▸ .refl v

theorem Ven.Moves.trans {u v w : Ven} (h : u.Moves v) (k : v.Moves w) : u.Moves w := by
  obtain ⟨⟨e, p, rfl⟩, hok⟩ := h
  obtain ⟨⟨e', p', rfl⟩, hok'⟩ := k
  exact ⟨⟨e', p', rfl⟩, hok' ∘ hok⟩

theorem Ven.moves_judging {v : Ven} {ev : Evaluation} (h : ev.verdictOk) : v.Moves { v with engine := .judging ev } := by
  refine ⟨⟨_, _, rfl⟩, fun ⟨_, hparked, _⟩ => ⟨fun e he => ?_, hparked, by simp⟩⟩
  obtain rfl : ev = e := by simpa using he
  exact h

theorem Ven.moves_checking {v : Ven} {ev : Evaluation} {check : CheckInFlight} (hc : ev.credential.isSome = true)
    (hfs : ∀ f, ev.has f = true → f = .keyRetiring) (hq : ev.quote = none) (hn : ev.inspCount = 0) :
    v.Moves { v with engine := .checking ev check } := by
  refine ⟨⟨_, _, rfl⟩, fun ⟨_, hparked, _⟩ => ⟨by simp, hparked, fun e k he => ?_⟩⟩
  obtain ⟨rfl, -⟩ : ev = e ∧ check = k := by simpa using he
  exact ⟨hc, hfs, hq, hn⟩

theorem Ven.moves_idle (v : Ven) : v.Moves { v with engine := .idle } :=
  ⟨⟨_, _, rfl⟩, fun ⟨_, hparked, _⟩ => ⟨by simp, hparked, by simp⟩⟩

theorem Ven.moves_unparked (v : Ven) : v.Moves { v with parked := none } :=
  ⟨⟨_, _, rfl⟩, fun ⟨hjudging, _, hchecking⟩ => ⟨hjudging, by simp, hchecking⟩⟩

/-- A verdict that is parked, or moves while parked, stays in order when its evaluation is decided. -/
theorem Ven.moves_parked {v : Ven} {p : Parked} (h : v.verdictsOk → p.ev.decided) :
    v.Moves { v with parked := some p } := by
  refine ⟨⟨_, _, rfl⟩, fun hok => ⟨hok.1, fun q hq => ?_, hok.2.2⟩⟩
  obtain rfl : p = q := by simpa using hq
  exact ⟨(h hok).verdictOk, (h hok).1⟩

/-! ### The stages -/

theorem Evaluation.decided.setRide {ev : Evaluation} {outcome : RideOutcome} {remaining : Option Nat} (h : ev.decided) :
    (ev.setRide outcome remaining).decided := h

theorem parkAndWrite_moves {c : Credential} {counter : Counter} {ev : Evaluation} {s : State} (h : ev.decided) :
    s.ven.Moves (parkAndWrite c counter ev s).ven :=
  (Ven.moves_idle s.ven).trans (Ven.moves_parked (p := { ev := ev, completed := false }) fun _ => h)

theorem Consumed.moves {c : Credential} {ev : Evaluation} {s t : State} (h : Consumed c ev s t) (hev : ev.decided) :
    s.ven.Moves t.ven := by
  cases h with
  | reported => exact Ven.moves_judging hev.setRide.verdictOk
  | taken => exact Ven.moves_judging hev.setRide.verdictOk
  | parked => exact parkAndWrite_moves hev

theorem afterCheck_moves {c : Credential} {ev : Evaluation} {s : State} (hc : ev.credential.isSome = true) :
    s.ven.Moves (afterCheck c ev s).ven := by
  have hscreened (trust : Trust) : (screenStage c s { ev with trust := trust }).credential.isSome = true := by
    rwa [screenStage_credential]
  unfold afterCheck
  simp only
  split
  · exact Ven.moves_judging (policyStage_decided _ (hscreened _)).verdictOk
  next =>
    obtain ⟨ev', hdecided, -, hconsumed⟩ := trustedStages_consumed (c := c) (s := s) (hscreened .trusted)
    have hmoves := hconsumed.moves hdecided
    rwa [judgeStage_ven, registerStage_ven] at hmoves

theorem startCheck_moves {c : Credential} {ev : Evaluation} {s : State} (hc : ev.credential.isSome = true)
    (hfs : ev.findings = []) (hq : ev.quote = none) (hn : ev.inspCount = 0) :
    s.ven.Moves (startCheck c ev s).ven := by
  have hraised (f : Finding) : ∃ fs, ev.raise f = { ev with findings := fs } := Evaluation.raise_onlyFindings f ev
  have hhas (f : Finding) : ev.has f = false := by simp [Evaluation.has, hfs]
  unfold startCheck
  split
  · obtain ⟨fs, hraise⟩ := hraised .issuerUnknown
    exact afterCheck_moves (hraise ▸ hc)
  split
  · obtain ⟨fs, hraise⟩ := hraised .keyWithdrawn
    exact afterCheck_moves (hraise ▸ hc)
  · obtain ⟨fs, hraise⟩ := hraised .keyRetiring
    refine Ven.moves_checking (hraise ▸ hc) (fun f hf => ?_) (hraise ▸ hq) (hraise ▸ hn)
    simpa [hhas f, eq_comm] using (Evaluation.has_raise .keyRetiring f ev).1 hf
  · exact Ven.moves_checking hc (fun f hf => by simp [hhas f] at hf) hq hn

theorem startEvaluation_moves {ev : Evaluation} {s : State} (hc : ev.credential = none) (hfs : ev.findings = [])
    (hq : ev.quote = none) (hn : ev.inspCount = 0) : s.ven.Moves (startEvaluation ev s).ven := by
  unfold startEvaluation
  split
  · exact Ven.moves_judging (.inl ⟨rfl, hfs, hc⟩)
  · exact startCheck_moves rfl hfs hq hn

theorem engineTake_moves (s : State) : s.ven.Moves (engineTake s).ven := by
  unfold engineTake
  split
  case h_2 => exact .refl _
  next rest j _ _ =>
    split
    · have hmoves := startEvaluation_moves (ev := newEvaluation ‹Entry› (snapshot j s))
        (s := resumeAfterTake { s with iq := { s.iq with entries := rest } }) rfl rfl rfl rfl
      rwa [resumeAfterTake_ven] at hmoves
    · exact .refl _

theorem checkComplete_moves (s : State) : s.ven.Moves (checkComplete s).ven := by
  unfold checkComplete
  split
  case h_2 => exact .refl _
  next ev check _ =>
    unfold finishCheck
    split
    case h_2 => exact .refl _
    next c hc =>
      obtain ⟨fs, hraise⟩ := Evaluation.raiseIf_onlyFindings (!check.matches) .checkMismatch ev
      exact afterCheck_moves (by simp [hraise, hc])

theorem issue_moves (ofParked : Bool) (s : State) : s.ven.Moves (issue ofParked s).ven := by
  unfold issue
  split
  · exact .refl _
  split
  · split
    · split
      · rw [withVen_ven, issueVerdict_ven]
        exact Ven.moves_unparked _
      · exact .refl _
    · exact .refl _
  · split
    · rw [withVen_ven, issueVerdict_ven]
      exact Ven.moves_idle _
    · exact .refl _

/-! ### The end of a write (R83) -/

theorem addRideTorn_decided {p : Policy} {ev : Evaluation} (h : ev.decided) : (addRideTorn p ev).decided := by
  unfold addRideTorn
  split
  · exact h
  next hp =>
    obtain ⟨hc, hfs, -⟩ := h
    refine ⟨hc, fun r hr => ?_, rfl⟩
    rcases List.mem_append.1 hr with hold | hnew
    · exact hfs r hold
    · rw [List.mem_singleton.1 hnew]
      cases p
      · exact .inl rfl
      · exact .inr rfl
      · exact absurd rfl hp

theorem parkedAfterWrite_decided {done : Bool} {v : Ven} {ev : Evaluation} (h : ev.decided) :
    (parkedAfterWrite done v ev).decided := by
  unfold parkedAfterWrite
  split
  · exact h.setRide
  · exact addRideTorn_decided h.setRide

theorem endParkedWrite_moves (done : Bool) (s : State) : s.ven.Moves (endParkedWrite done s).1.ven := by
  unfold endParkedWrite
  split
  case h_2 => exact .refl _
  next p hp =>
    have hmoves : s.ven.Moves
        { s.ven with parked := some { ev := parkedAfterWrite done s.ven p.ev, completed := true } } := by
      refine Ven.moves_parked fun hok => parkedAfterWrite_decided ?_
      obtain ⟨hverdict, hc⟩ := hok.2.1 p hp
      exact hverdict.decided hc
    simp only [withVen_ven]
    split
    · exact hmoves
    · exact hmoves

theorem endWrite_moves (done down : Bool) (s : State) : s.ven.Moves (endWrite done down s).ven := by
  unfold endWrite
  split
  · exact .refl _
  rw [withCiu_ven]
  split
  · exact endParkedWrite_moves done s
  · exact .of_eq (by simp)

theorem cardDown_moves (s : State) : s.ven.Moves (cardDown s).ven := by
  unfold cardDown
  split
  · exact .refl _
  · exact .of_eq (by simp)
  · exact .refl _
  · exact endWrite_moves false true s
  · exact .refl _

theorem cardUp_moves (identifier : List Byte) (s : State) : s.ven.Moves (cardUp identifier s).ven := by
  rw [cardUp, cardUpAbsent_ven]
  exact cardDown_moves s

theorem written_moves (result : WriteResult) (s : State) : s.ven.Moves (written result s).ven := by
  unfold written
  split
  · exact endWrite_moves _ _ s
  · exact .refl _

theorem writeTimerExpiry_moves (s : State) : s.ven.Moves (writeTimerExpiry s).ven := by
  unfold writeTimerExpiry
  split
  · exact endWrite_moves _ _ s
  · exact .refl _

/-! ### The tables (R62 to R64, R75, R76, R91) -/

theorem Ven.areaOf_ok {v : Ven} (h : v.tablesOk) (area : Nat) : (v.areaOf area).ok := by
  unfold Ven.areaOf
  by_cases ha : area < 8
  · simpa [ha] using h.1 area ha
  · simpa [ha] using AreaEntry.unconfigured_ok

theorem withArea_tablesOk {s : State} {area : Nat} {entry : AreaEntry} (he : entry.ok) (h : s.ven.tablesOk) :
    (withArea area entry s).ven.tablesOk := by
  obtain ⟨hareas, hrest⟩ := h
  refine ⟨fun i hi => ?_, hrest⟩
  simp only [withArea, withVen_ven, Vector.getElem_setIfInBounds]
  split
  · exact he
  · exact hareas i hi

theorem Finding.code_bounds (f : Finding) : 1 ≤ f.code ∧ f.code ≤ 19 := by
  cases f <;> decide

theorem Finding.ofCode?_code (f : Finding) : Finding.ofCode? f.code = some f := by
  cases f <;> rfl

theorem Finding.code_injective {f g : Finding} (h : f.code = g.code) : f = g := by
  have hof := Finding.ofCode?_code f
  rw [h, Finding.ofCode?_code g] at hof
  exact (Option.some.inj hof).symm

/-- POLICY-SET reaches the policy of its finding alone, and no fixed one (R76). -/
theorem Ven.policyOf_setPolicy (f g : Finding) (p : Policy) (v : Ven) :
    (v.setPolicy f p).policyOf g = if f.fixed = false ∧ f = g then p else v.policyOf g := by
  unfold Ven.setPolicy
  split
  next hfixed => simp [hfixed]
  next hfixed =>
    have hf := f.code_bounds
    have hg := g.code_bounds
    have hnot : f.fixed = false := by simpa using hfixed
    by_cases hfg : f = g
    · subst hfg
      simp [Ven.policyOf, hnot, show f.code - 1 < 19 by omega]
    · have hcode : f.code - 1 ≠ g.code - 1 := fun h => hfg (Finding.code_injective (by omega))
      simp [Ven.policyOf, hfg, Vector.getElem?_setIfInBounds_ne hcode]

theorem setPolicy_tablesOk {v : Ven} {f : Finding} {p : Policy} (h : v.tablesOk) : (v.setPolicy f p).tablesOk := by
  obtain ⟨hareas, hlow, hhigh, hfixed⟩ := h
  have hpolicy : ∀ g : Finding, g.fixed = true →
      (v.setPolicy f p).policyOf g = if g = .registerFull then .noted else .blocking := by
    intro g hg
    rw [Ven.policyOf_setPolicy, if_neg, hfixed g hg]
    rintro ⟨hf, rfl⟩
    simp [hg] at hf
  have hrest : (v.setPolicy f p).areas = v.areas ∧ (v.setPolicy f p).m1 = v.m1 := by
    unfold Ven.setPolicy
    split <;> exact ⟨rfl, rfl⟩
  refine ⟨fun i hi => ?_, ?_, ?_, hpolicy⟩
  · simpa [hrest.1] using hareas i hi
  · rwa [hrest.2]
  · rwa [hrest.2]

/-! ### Every command -/

/-- A command that writes no table of the engine moves it, or resets it. -/
theorem effect_ven_moves {c : Instr} (hc : c ≠ .areaSet ∧ c ≠ .acceptMap ∧ c ≠ .classSet ∧ c ≠ .policySet) (s : State) :
    s.ven.Moves (effect c s).ven ∨ (effect c s).ven = Ven.reset := by
  by_cases hreach : reachesEngine c = false
  · exact .inl (.of_eq (effect_ven s hreach))
  have running {f : State → State} (hf : ∀ t, s.ven.Moves t.ven → s.ven.Moves (f t).ven) :
      s.ven.Moves (whenRunning f s).ven :=
    whenRunning_keeps (P := fun t => s.ven.Moves t.ven) (hf s) (.refl _)
  have received {own : CardReceived → State → State} {idle : Bool} {frame : List Byte}
      (hown : ∀ r t, t.ven.Moves (own r t).ven) : s.ven.Moves (whenRunning (receiveFrame own idle frame) s).ven :=
    receiveFrame_keeps (Q := fun t => s.ven.Moves t.ven) (fun _ h => h) (fun _ h => by simpa using h)
      (fun r t _ h => h.trans (hown r t)) (.refl _)
  cases c <;> try exact absurd rfl hreach
  case powerOn | resetNLow | resetNHigh =>
    exact hardResets_keeps (Q := fun t => s.ven.Moves t.ven ∨ t.ven = Ven.reset) rfl (fun _ _ _ _ _ _ => .inr rfl)
      (.inl (.refl _))
  case reset =>
    refine .inl (takeRequest_preserves (Q := fun t => s.ven.Moves t.ven) handles_reset (fun _ _ h => h) ?_ (.refl _))
    rintro t _ rfl h
    exact (h.trans (Ven.moves_idle _)).trans (Ven.moves_unparked _)
  case engineTake => exact .inl (running fun t h => h.trans (engineTake_moves t))
  case checkComplete => exact .inl (running fun t h => h.trans (checkComplete_moves t))
  case issue ofParked => exact .inl (running fun t h => h.trans (issue_moves ofParked t))
  case writeTimerExpiry => exact .inl (running fun t h => h.trans (writeTimerExpiry_moves t))
  case cardUp idle frame =>
    refine .inl (received ?_)
    rintro (identifier | _ | _ | _) t
    · exact cardUp_moves identifier t
    all_goals exact .refl _
  case cardDown idle frame =>
    refine .inl (received ?_)
    rintro (_ | _ | _ | _) t
    case cardDown => exact cardDown_moves t
    all_goals exact .refl _
  case written idle frame =>
    refine .inl (received ?_)
    rintro (_ | _ | _ | result) t
    case written => exact written_moves result t
    all_goals exact .refl _
  case areaSet | acceptMap | classSet | policySet => simp at hc

/-- The four requests that write a table of the engine (R63, R64, R76, R91) keep what does not depend on that table. -/
theorem effect_ven_tables {c : Instr} (hc : c = .areaSet ∨ c = .acceptMap ∨ c = .classSet ∨ c = .policySet)
    {Q : Ven → Prop} (harea : ∀ s area entry, entry.ok → Q s.ven → Q (withArea area entry s).ven)
    (hmap : ∀ s area accept, Q s.ven → Q (withArea area { s.ven.areaOf area with accept := accept } s).ven)
    (hclass : ∀ v m1, 100 ≤ m1 → m1 ≤ 250 → Q v → Q { v with m1 := m1 })
    (hpolicy : ∀ v f p, Q v → Q (v.setPolicy f p)) {s : State} (hs : Q s.ven) : Q (effect c s).ven := by
  rcases hc with rfl | rfl | rfl | rfl
  · refine takeRequest_preserves (Q := fun s => Q s.ven) handles_areaSet (fun _ _ h => h) ?_ hs
    rintro s _ ⟨area, entry, he, rfl⟩ h
    exact harea s area entry he h
  · refine takeRequest_preserves (Q := fun s => Q s.ven) handles_acceptMap (fun _ _ h => h) ?_ hs
    rintro s _ ⟨area, accept, -, rfl⟩ h
    exact hmap s area accept h
  · refine takeRequest_preserves (Q := fun s => Q s.ven) handles_classSet (fun _ _ h => h) ?_ hs
    rintro s _ ⟨m1, hlow, hhigh, rfl⟩ h
    exact hclass s.ven m1 hlow hhigh h
  · refine takeRequest_preserves (Q := fun s => Q s.ven) handles_policySet (fun _ _ h => h) ?_ hs
    rintro s _ ⟨f, p, rfl⟩ h
    exact hpolicy s.ven f p h

theorem effect_ven_tablesOk (c : Instr) {s : State} (h : s.ven.tablesOk) : (effect c s).ven.tablesOk := by
  by_cases hc : c = .areaSet ∨ c = .acceptMap ∨ c = .classSet ∨ c = .policySet
  · refine effect_ven_tables hc (Q := Ven.tablesOk) (fun s area entry he h => withArea_tablesOk he h)
      (fun s area accept h => withArea_tablesOk (entry := { s.ven.areaOf area with accept := accept })
        (Ven.areaOf_ok h area) h) (fun v m1 hlow hhigh h => ?_) (fun v f p h => setPolicy_tablesOk h) h
    obtain ⟨hareas, -, -, hfixed⟩ := h
    exact ⟨hareas, hlow, hhigh, hfixed⟩
  · simp only [not_or] at hc
    rcases effect_ven_moves hc s with ⟨⟨engine, parked, he⟩, -⟩ | he <;> rw [he]
    · exact h
    · exact Ven.reset_tablesOk

theorem effect_ven_verdictsOk (c : Instr) {s : State} (h : s.ven.verdictsOk) : (effect c s).ven.verdictsOk := by
  by_cases hc : c = .areaSet ∨ c = .acceptMap ∨ c = .classSet ∨ c = .policySet
  · refine effect_ven_tables hc (Q := Ven.verdictsOk) (fun _ _ _ _ h => h) (fun _ _ _ h => h) (fun _ _ _ _ h => h)
      (fun v f p h => ?_) h
    unfold Ven.setPolicy
    split <;> exact h
  · simp only [not_or] at hc
    rcases effect_ven_moves hc s with ⟨-, hkeeps⟩ | he
    · exact hkeeps h
    · rw [he]
      exact Ven.reset_verdictsOk

/-- Settles O56: every command keeps each of the four in order, and a step is a command or nothing. -/
theorem tablesAndVerdictsStayInOrder : Obligations.TablesAndVerdictsStayInOrder := fun _ _ h =>
  ⟨step_keeps (Q := fun s => s.dcu.ok) (fun c _ => effect_dcu_ok c) (fun _ _ h => h) h,
    step_keeps (Q := fun s => s.rsu.ok) (fun c _ => effect_rsu_ok c) (fun _ _ h => h) h,
    step_keeps (Q := fun s => s.ven.tablesOk) (fun c _ => effect_ven_tablesOk c) (fun _ _ h => h) h,
    step_keeps (Q := fun s => s.ven.verdictsOk) (fun c _ => effect_ven_verdictsOk c) (fun _ _ h => h) h⟩

end Sys2Proof.Machine
end

section
/-! The Inspection Register's operations: what a change of one record leaves of the others, what the lookup of the REGISTER
stage leaves, and what every operation on the block does to the records (R99 to R115). -/

namespace Sys2Proof.Machine

/-! ### Records of distinct keys -/

/-- The records have distinct keys (R99). -/
def distinctKeys (rs : List Record) : Prop := rs.Pairwise (fun a b => a.key ≠ b.key)

theorem distinctKeys_iff {rs : List Record} : distinctKeys rs ↔ (rs.map (·.key)).Nodup := by
  simp [distinctKeys, List.Nodup, List.pairwise_map]

/-- Of two entries under one name in a list of distinct names one is the other. -/
theorem eq_of_nodup_map {α β : Type} {f : α → β} {l : List α} (h : (l.map f).Nodup) {a b : α} (ha : a ∈ l) (hb : b ∈ l)
    (hf : f a = f b) : a = b := by
  induction l with
  | nil => simp at ha
  | cons x xs ih =>
    obtain ⟨hx, hxs⟩ := List.nodup_cons.1 h
    rcases List.mem_cons.1 ha with hax | hax <;> rcases List.mem_cons.1 hb with hbx | hbx
    · rw [hax, hbx]
    · exact absurd (hax ▸ hf ▸ List.mem_map_of_mem hbx) hx
    · exact absurd (hbx ▸ hf ▸ List.mem_map_of_mem hax) hx
    · exact ih hxs hax hbx

theorem distinctKeys.eq_of_key {rs : List Record} (h : distinctKeys rs) {a b : Record} (ha : a ∈ rs) (hb : b ∈ rs)
    (hk : a.key = b.key) : a = b :=
  eq_of_nodup_map (distinctKeys_iff.1 h) ha hb hk

theorem findRecord_eq_none {key : CredKey} {rs : List Record} : findRecord key rs = none ↔ ∀ r ∈ rs, r.key ≠ key := by
  simp [findRecord]

theorem findRecord_eq_some {key : CredKey} {rs : List Record} {r : Record} (h : findRecord key rs = some r) :
    r ∈ rs ∧ r.key = key :=
  ⟨List.mem_of_find?_eq_some h, by simpa using List.find?_some h⟩

/-- A record is found by its key. -/
theorem findRecord_of_mem {rs : List Record} (h : distinctKeys rs) {r : Record} (hr : r ∈ rs) :
    findRecord r.key rs = some r := by
  cases hf : findRecord r.key rs with
  | none => exact absurd rfl (findRecord_eq_none.1 hf r hr)
  | some q =>
    obtain ⟨hq, hk⟩ := findRecord_eq_some hf
    rw [h.eq_of_key hq hr hk]

/-! ### Records that follow records -/

/-- The records stand in their places under their keys, each as the relation allows. -/
inductive Follow (R : Record → Record → Prop) : List Record → List Record → Prop where
  | nil : Follow R [] []
  | cons {r r' : Record} {rs rs' : List Record} (hr : r'.key = r.key ∧ R r r') (h : Follow R rs rs') :
      Follow R (r :: rs) (r' :: rs')

section
variable {R S T : Record → Record → Prop} {rs rs' rs'' : List Record}

theorem follow_map {f : Record → Record} (h : ∀ r ∈ rs, (f r).key = r.key ∧ R r (f r)) : Follow R rs (rs.map f) := by
  induction rs with
  | nil => exact .nil
  | cons r rs ih => exact .cons (h r List.mem_cons_self) (ih fun q hq => h q (List.mem_cons_of_mem r hq))

theorem Follow.refl (hR : ∀ r, R r r) (rs : List Record) : Follow R rs rs := by
  induction rs with
  | nil => exact .nil
  | cons r rs ih => exact .cons ⟨rfl, hR r⟩ ih

theorem Follow.of_eq (hR : ∀ r, R r r) (h : rs' = rs) : Follow R rs rs' := h ▸ Follow.refl hR rs

theorem Follow.imp (h : Follow R rs rs') (hRS : ∀ r r', R r r' → S r r') : Follow S rs rs' :=
  h.rec .nil fun hr _ ih => .cons ⟨hr.1, hRS _ _ hr.2⟩ ih

theorem Follow.keys (h : Follow R rs rs') : rs'.map (·.key) = rs.map (·.key) := by
  induction h with
  | nil => rfl
  | cons hr _ ih => simp [hr.1, ih]

theorem Follow.length_eq (h : Follow R rs rs') : rs'.length = rs.length := by
  simpa using congrArg List.length h.keys

theorem Follow.distinctKeys (h : Follow R rs rs') (hd : distinctKeys rs) : Machine.distinctKeys rs' :=
  distinctKeys_iff.2 (h.keys ▸ distinctKeys_iff.1 hd)

theorem Follow.trans (h : Follow R rs rs') (k : Follow S rs' rs'') (hRS : ∀ a b c, R a b → S b c → T a c) :
    Follow T rs rs'' := by
  induction h generalizing rs'' with
  | nil => cases k; exact .nil
  | cons hr _ ih =>
    cases k with
    | cons hs hrest => exact .cons ⟨hs.1.trans hr.1, hRS _ _ _ hr.2 hs.2⟩ (ih hrest)

theorem Follow.mem_left (h : Follow R rs rs') {r : Record} (hr : r ∈ rs) : ∃ r' ∈ rs', r'.key = r.key ∧ R r r' := by
  induction h with
  | nil => simp at hr
  | cons hab _ ih =>
    rcases List.mem_cons.1 hr with rfl | hr
    · exact ⟨_, List.mem_cons_self, hab⟩
    · obtain ⟨r', hmem, hrel⟩ := ih hr
      exact ⟨r', List.mem_cons_of_mem _ hmem, hrel⟩

theorem Follow.mem_right (h : Follow R rs rs') {r' : Record} (hr : r' ∈ rs') : ∃ r ∈ rs, r'.key = r.key ∧ R r r' := by
  induction h with
  | nil => simp at hr
  | cons hab _ ih =>
    rcases List.mem_cons.1 hr with rfl | hr
    · exact ⟨_, List.mem_cons_self, hab⟩
    · obtain ⟨r, hmem, hrel⟩ := ih hr
      exact ⟨r, List.mem_cons_of_mem _ hmem, hrel⟩

/-- Records under one key before and after are related. -/
theorem Follow.rel_of_key (h : Follow R rs rs') (hd : Machine.distinctKeys rs) {r r' : Record} (hr : r ∈ rs)
    (hr' : r' ∈ rs') (hk : r'.key = r.key) : R r r' := by
  obtain ⟨q, hq, hqk, hrel⟩ := h.mem_right hr'
  rwa [hd.eq_of_key hr hq (hk.symm.trans hqk)]

/-- A change of the record with a key. -/
theorem follow_updateRecord {key : CredKey} {f : Record → Record} (hR : ∀ r, R r r) (hkey : ∀ r, (f r).key = r.key)
    (hf : ∀ r ∈ rs, r.key = key → R r (f r)) : Follow R rs (updateRecord key f rs) := by
  refine follow_map fun r hr => ?_
  split
  next hk => exact ⟨hkey r, hf r hr hk⟩
  next => exact ⟨rfl, hR r⟩

end

/-! ### The lookup of the REGISTER stage (R102, R103) -/

/-- What the lookup leaves: the known record's register; or one with the new record appended, from which at most one
record that may be evicted is gone; or, with no room, the register as it was. -/
theorem registerLookup_cases (key : CredKey) (seconds carriage : Nat) (rs : List Record) :
    ((∃ r, findRecord key rs = some r) ∧ registerLookup key seconds carriage rs = (rs, .seen)) ∨
      (findRecord key rs = none ∧ rs.length < 1024 ∧
        registerLookup key seconds carriage rs = (rs ++ [newRecord key seconds carriage], .new)) ∨
      (findRecord key rs = none ∧ 1024 ≤ rs.length ∧ (∃ r ∈ rs, evictable r = true) ∧
        registerLookup key seconds carriage rs = (rs.eraseP evictable ++ [newRecord key seconds carriage], .new)) ∨
      (findRecord key rs = none ∧ 1024 ≤ rs.length ∧ (∀ r ∈ rs, evictable r = false) ∧
        registerLookup key seconds carriage rs = (rs, .full)) := by
  unfold registerLookup
  split
  next h => exact .inl ⟨Option.isSome_iff_exists.1 h, rfl⟩
  next h =>
    have hnone : findRecord key rs = none := by simpa using h
    refine .inr ?_
    split
    next hroom => exact .inl ⟨hnone, hroom, rfl⟩
    next hroom =>
      refine .inr ?_
      split
      next hany => exact .inl ⟨hnone, Nat.not_lt.1 hroom, by simpa using hany, rfl⟩
      next hany => exact .inr ⟨hnone, Nat.not_lt.1 hroom, by simpa using hany, rfl⟩

section
variable {key : CredKey} {seconds carriage : Nat} {rs : List Record}

/-- A record that may not be evicted stays (R103). -/
theorem mem_registerLookup_of_protected {r : Record} (hr : r ∈ rs) (hp : evictable r = false) :
    r ∈ (registerLookup key seconds carriage rs).1 := by
  rcases registerLookup_cases key seconds carriage rs with ⟨-, he⟩ | ⟨-, -, he⟩ | ⟨-, -, -, he⟩ | ⟨-, -, -, he⟩ <;> rw [he]
  · exact hr
  · exact List.mem_append_left _ hr
  · exact List.mem_append_left _ ((List.mem_eraseP_of_neg (by simp [hp])).2 hr)
  · exact hr

/-- A record after the lookup was there before, or is the new one, under a key that no record had. -/
theorem mem_registerLookup {r : Record} (hr : r ∈ (registerLookup key seconds carriage rs).1) :
    r ∈ rs ∨ (findRecord key rs = none ∧ r = newRecord key seconds carriage) := by
  rcases registerLookup_cases key seconds carriage rs with ⟨-, he⟩ | ⟨hn, -, he⟩ | ⟨hn, -, -, he⟩ | ⟨-, -, -, he⟩ <;>
    rw [he] at hr
  · exact .inl hr
  · exact (List.mem_append.1 hr).imp id fun h => ⟨hn, List.mem_singleton.1 h⟩
  · exact (List.mem_append.1 hr).imp List.mem_of_mem_eraseP fun h => ⟨hn, List.mem_singleton.1 h⟩
  · exact .inl hr

theorem distinctKeys_append_new (hn : findRecord key rs = none) (h : distinctKeys rs) :
    distinctKeys (rs ++ [newRecord key seconds carriage]) := by
  unfold distinctKeys
  rw [List.pairwise_append]
  refine ⟨h, List.pairwise_singleton _ _, fun a ha b hb => ?_⟩
  rw [List.mem_singleton.1 hb]
  exact findRecord_eq_none.1 hn a ha

theorem findRecord_eraseP_eq_none (hn : findRecord key rs = none) : findRecord key (rs.eraseP evictable) = none :=
  findRecord_eq_none.2 fun r hr => findRecord_eq_none.1 hn r (List.mem_of_mem_eraseP hr)

theorem registerLookup_distinctKeys (h : distinctKeys rs) :
    distinctKeys (registerLookup key seconds carriage rs).1 := by
  rcases registerLookup_cases key seconds carriage rs with ⟨-, he⟩ | ⟨hn, -, he⟩ | ⟨hn, -, -, he⟩ | ⟨-, -, -, he⟩ <;> rw [he]
  · exact h
  · exact distinctKeys_append_new hn h
  · exact distinctKeys_append_new (findRecord_eraseP_eq_none hn) (h.sublist (List.eraseP_sublist ..))
  · exact h

theorem registerLookup_length (h : rs.length ≤ 1024) : (registerLookup key seconds carriage rs).1.length ≤ 1024 := by
  rcases registerLookup_cases key seconds carriage rs with ⟨-, he⟩ | ⟨-, hroom, he⟩ | ⟨-, -, ⟨r, hr, hev⟩, he⟩ | ⟨-, -, -, he⟩ <;>
    rw [he]
  · exact h
  · simp only [List.length_append, List.length_singleton]
    omega
  · have hlen := List.length_eraseP_of_mem hr hev
    have hpos := List.length_pos_of_mem hr
    simp only [List.length_append, List.length_singleton]
    omega
  · exact h

/-- The record that JUDGE updates is the one the lookup found or made; with the register FULL there is none (R104). -/
theorem registerLookup_full_iff :
    (registerLookup key seconds carriage rs).2 = .full ↔ findRecord key (registerLookup key seconds carriage rs).1 = none := by
  rcases registerLookup_cases key seconds carriage rs with ⟨⟨r, hr⟩, he⟩ | ⟨hn, -, he⟩ | ⟨hn, -, -, he⟩ | ⟨hn, -, -, he⟩ <;>
    rw [he]
  · simp [hr]
  · simp [findRecord, newRecord]
  · simp [findRecord, newRecord]
  · simp [hn]

end

/-! ### The records after each operation of the block -/

/-- The parts of a record that its sighting does not move: its ride state and its case link. -/
def Record.sameState (r r' : Record) : Prop := r'.ride = r.ride ∧ r'.caseLink = r.caseLink

/-- The ride state moves as R107 allows, and the case link stays. -/
def Record.ridesOn (r r' : Record) : Prop := r.ride.mayBecome r'.ride ∧ r'.caseLink = r.caseLink ∧ r'.count = r.count

theorem RideState.mayBecome_refl (x : RideState) : x.mayBecome x := by
  cases x <;> simp [RideState.mayBecome]

theorem RideState.mayBecome_consumed (x : RideState) : x.mayBecome .consumed := by
  cases x <;> simp [RideState.mayBecome]

theorem RideState.mayBecome_pending {x : RideState} {e : Nat} (h : x = .none ∨ ∃ e', x = .torn e') :
    x.mayBecome (.pending e) := by
  rcases h with rfl | ⟨e', rfl⟩ <;> trivial

theorem Record.ridesOn_refl (r : Record) : r.ridesOn r := ⟨RideState.mayBecome_refl r.ride, rfl, rfl⟩

theorem Record.ridesOn_consume (r : Record) : r.ridesOn r.consume := ⟨RideState.mayBecome_consumed r.ride, rfl, rfl⟩

theorem Record.consume_key (r : Record) : r.consume.key = r.key := rfl

theorem Record.endWrite_key (done : Bool) (r : Record) : (r.endWrite done).key = r.key := by
  unfold Record.endWrite Record.tear
  split
  · rfl
  · split <;> rfl

theorem Record.ridesOn_endWrite (done : Bool) (r : Record) : r.ridesOn (r.endWrite done) := by
  unfold Record.endWrite
  split
  · exact r.ridesOn_consume
  unfold Record.tear
  split
  next e he => exact ⟨by simp [he, RideState.mayBecome], rfl, rfl⟩
  next => exact r.ridesOn_refl

theorem follow_consume (key : CredKey) (rs : List Record) :
    Follow Record.ridesOn rs (updateRecord key Record.consume rs) :=
  follow_updateRecord Record.ridesOn_refl Record.consume_key fun r _ _ => r.ridesOn_consume

theorem follow_endWrite (key : CredKey) (done : Bool) (rs : List Record) :
    Follow Record.ridesOn rs (updateRecord key (Record.endWrite done) rs) :=
  follow_updateRecord Record.ridesOn_refl (Record.endWrite_key done) fun r _ _ => r.ridesOn_endWrite done

/-- A write starts on a record whose ride state is NONE or TORN (R108). -/
theorem follow_startWrite {key : CredKey} {counter : Counter} {rs : List Record} {r : Record} (hd : distinctKeys rs)
    (hr : findRecord key rs = some r) (hride : r.ride = .none ∨ ∃ e, r.ride = .torn e) :
    Follow Record.ridesOn rs (updateRecord key (Record.startWrite counter) rs) := by
  obtain ⟨hmem, hkey⟩ := findRecord_eq_some hr
  refine follow_updateRecord Record.ridesOn_refl (fun _ => rfl) fun q hq hk => ?_
  rw [hd.eq_of_key hq hmem (hk.trans hkey.symm)]
  exact ⟨RideState.mayBecome_pending hride, rfl, rfl⟩

theorem recordOf_eq_some {ev : Evaluation} {key : CredKey} {s : State} {r : Record} (h : recordOf ev key s = some r) :
    findRecord key s.irg.records = some r := by
  unfold recordOf at h
  split at h
  · exact h
  · simp at h

/-- The register's records ride on, and its setting stays. -/
def Irg.RidesOn (g g' : Irg) : Prop := Follow Record.ridesOn g.records g'.records ∧ g'.passback = g.passback

theorem Irg.RidesOn.refl (g : Irg) : g.RidesOn g := ⟨.refl Record.ridesOn_refl _, rfl⟩

theorem Irg.RidesOn.of_eq {g g' : Irg} (h : g' = g) : g.RidesOn g' := h ▸ .refl g

theorem Consumed.ridesOn {c : Credential} {ev : Evaluation} {s t : State} (h : Consumed c ev s t)
    (hd : distinctKeys s.irg.records) : s.irg.RidesOn t.irg := by
  cases h with
  | reported => exact .refl _
  | taken => exact ⟨follow_consume _ _, rfl⟩
  | parked counter session r _ _ hr hride => exact ⟨follow_startWrite hd (recordOf_eq_some hr) hride, rfl⟩

theorem endParkedWrite_ridesOn (done : Bool) (s : State) : s.irg.RidesOn (endParkedWrite done s).1.irg := by
  unfold endParkedWrite
  split
  · simp only [withVen_irg]
    split
    · exact ⟨follow_endWrite _ _ _, rfl⟩
    · exact .refl _
  · exact .refl _

theorem endResolutionWrite_ridesOn (done : Bool) (s : State) : s.irg.RidesOn (endResolutionWrite done s).1.irg := by
  unfold endResolutionWrite
  split
  · simp only [withCtb_irg, journal_irg]
    exact ⟨follow_endWrite _ _ _, rfl⟩
  · exact .refl _

theorem endWrite_ridesOn (done down : Bool) (s : State) : s.irg.RidesOn (endWrite done down s).irg := by
  unfold endWrite
  split
  · exact .refl _
  simp only [withCiu_irg]
  split
  · exact endParkedWrite_ridesOn done s
  · exact endResolutionWrite_ridesOn done s

theorem cardDown_ridesOn (s : State) : s.irg.RidesOn (cardDown s).irg := by
  unfold cardDown
  split
  · exact .refl _
  · exact .of_eq (by simp)
  · exact .refl _
  · exact endWrite_ridesOn false true s
  · exact .refl _

theorem cardUp_ridesOn (identifier : List Byte) (s : State) : s.irg.RidesOn (cardUp identifier s).irg := by
  rw [cardUp, cardUpAbsent_irg]
  exact cardDown_ridesOn s

theorem written_ridesOn (result : WriteResult) (s : State) : s.irg.RidesOn (written result s).irg := by
  unfold written
  split
  · exact endWrite_ridesOn _ _ s
  · exact .refl _

theorem writeTimerExpiry_ridesOn (s : State) : s.irg.RidesOn (writeTimerExpiry s).irg := by
  unfold writeTimerExpiry
  split
  · exact endWrite_ridesOn _ _ s
  · exact .refl _

theorem takeCaseRide_ridesOn (c : Case) {s : State} (hd : distinctKeys s.irg.records) :
    s.irg.RidesOn (takeCaseRide c s).1.irg := by
  unfold takeCaseRide
  split
  · exact .refl _
  split
  · exact .refl _
  next r hr =>
    have hfound : findRecord c.key s.irg.records = some r := by
      split at hr
      · exact hr
      · simp at hr
    split
    · exact .refl _
    · exact .refl _
    · exact .refl _
    next hride =>
      split
      · exact .refl _
      split
      · exact ⟨follow_consume _ _, rfl⟩
      · split
        · exact ⟨follow_startWrite hd hfound (.inl hride), rfl⟩
        · exact .refl _
      · exact .refl _

theorem decisionEffects_ridesOn (d : CaseOutcome) (c : Case) {s : State} (hd : distinctKeys s.irg.records) :
    s.irg.RidesOn (decisionEffects d c s).1.irg := by
  unfold decisionEffects
  split
  · exact takeCaseRide_ridesOn c hd
  · split
    next q _ =>
      have hcharge : Follow (fun r r' => r'.ride = r.ride ∧ r'.caseLink = r.caseLink ∧ r'.count = r.count)
          s.irg.records (modifyRecord c.key (chargeRecord c q) s).irg.records :=
        follow_updateRecord (fun _ => ⟨rfl, rfl, rfl⟩) (fun _ => rfl) fun _ _ _ => ⟨rfl, rfl, rfl⟩
      obtain ⟨hfollow, hpassback⟩ := takeCaseRide_ridesOn c (hcharge.distinctKeys hd)
      refine ⟨hcharge.trans hfollow fun a b c hab hbc => ?_, hpassback⟩
      obtain ⟨hride, hlink, hcount⟩ := hab
      obtain ⟨hmove, hlink', hcount'⟩ := hbc
      exact ⟨hride ▸ hmove, hlink'.trans hlink, hcount'.trans hcount⟩
    · exact takeCaseRide_ridesOn c hd
  · exact .refl _

/-! ### A sighting (R102 to R104) -/

/-- The register after the lookup of the REGISTER stage and the update of JUDGE. -/
def sightedRecords (key : CredKey) (seconds carriage : Nat) (rs : List Record) : List Record :=
  updateRecord key (seenUpdate seconds carriage) (registerLookup key seconds carriage rs).1

theorem follow_seen (key : CredKey) (seconds carriage : Nat) (rs : List Record) :
    Follow Record.sameState rs (updateRecord key (seenUpdate seconds carriage) rs) :=
  follow_updateRecord (fun _ => ⟨rfl, rfl⟩) (fun _ => rfl) fun _ _ _ => ⟨rfl, rfl⟩

theorem sightedRecords_distinctKeys {key : CredKey} {seconds carriage : Nat} {rs : List Record} (h : distinctKeys rs) :
    distinctKeys (sightedRecords key seconds carriage rs) :=
  (follow_seen key seconds carriage _).distinctKeys (registerLookup_distinctKeys h)

theorem updateRecord_eq_self {key : CredKey} {f : Record → Record} {rs : List Record} (h : findRecord key rs = none) :
    updateRecord key f rs = rs :=
  (List.map_congr_left fun r hr => if_neg (findRecord_eq_none.1 h r hr)).trans (List.map_id rs)

/-- What the two stages leave of the block: the register with the sighting recorded, where it can be. -/
theorem judged_state (c : Credential) (ev : Evaluation) (s : State) :
    (judgeStage c (registerStage c ev s).1 (registerStage c ev s).2).2 =
      { s with irg := { s.irg with
        records := sightedRecords c.key ev.snapshot.seconds ev.carriage s.irg.records } } := by
  obtain ⟨fs, hev⟩ := registerStage_evaluation c ev s
  rw [judgeStage_state, hev]
  split
  next => rfl
  next hnone =>
    have hfind : findRecord c.key (registerLookup c.key ev.snapshot.seconds ev.carriage s.irg.records).1 = none := by
      refine Classical.byContradiction fun hsome => ?_
      have hstatus := mt registerLookup_full_iff.1 hsome
      simp [recordOf, registerStage, hstatus, Option.isSome_iff_ne_none, hsome] at hnone
    rw [sightedRecords, updateRecord_eq_self hfind]
    rfl

end Sys2Proof.Machine
end

section
/-! Every command keeps the register and the Case Table in order, their links naming each other (R99, R100, R115 to
R119). -/

namespace Sys2Proof.Machine

/-- The register and the Case Table are in order, and their links name each other. -/
def RegisterOk (s : State) : Prop := s.irg.ok ∧ s.ctb.ok ∧ linksOk s.irg.records s.ctb.cases

theorem Irg.distinctKeys {g : Irg} (h : g.ok) : Machine.distinctKeys g.records := h.2.1

theorem RegisterOk.distinctKeys {s : State} (h : RegisterOk s) : Machine.distinctKeys s.irg.records :=
  Irg.distinctKeys h.1

/-! ### Changes that leave the links (R107 to R109) -/

theorem linksOk_of_follow {rs rs' : List Record} {cs : List Case}
    (hf : Follow (fun r r' => r'.caseLink = r.caseLink) rs rs') (h : linksOk rs cs) : linksOk rs' cs := by
  obtain ⟨hcases, hrecords⟩ := h
  refine ⟨fun c hc hl => ?_, fun r' hr' n hn => ?_⟩
  · obtain ⟨r, hr, hk, hlink⟩ := hcases c hc hl
    obtain ⟨r', hr', hk', hsame⟩ := hf.mem_left hr
    exact ⟨r', hr', hk'.trans hk, hsame.trans hlink⟩
  · obtain ⟨r, hr, hk', hsame⟩ := hf.mem_right hr'
    obtain ⟨c, hc, hserial, hk, hl⟩ := hrecords r hr n (hsame.symm.trans hn)
    exact ⟨c, hc, hserial, hk.trans hk'.symm, hl⟩

theorem Irg.ok_of_follow {g : Irg} {rs' : List Record}
    (hf : Follow (fun r r' => 1 ≤ r.count ∧ r.count ≤ 255 → 1 ≤ r'.count ∧ r'.count ≤ 255) g.records rs') (h : g.ok) :
    ({ g with records := rs' } : Irg).ok := by
  obtain ⟨hlen, hd, hpassback, hcounts⟩ := h
  refine ⟨hf.length_eq ▸ hlen, hf.distinctKeys hd, hpassback, fun r' hr' => ?_⟩
  obtain ⟨r, hr, -, hkeep⟩ := hf.mem_right hr'
  exact hkeep (hcounts r hr)

/-- A change of ride states leaves all in order; the resolution write entry plays no part. -/
theorem RegisterOk.of_ridesOn {s t : State} (hr : s.irg.RidesOn t.irg)
    (hc : ∃ resolution, t.ctb = { s.ctb with resolution := resolution }) (h : RegisterOk s) : RegisterOk t := by
  obtain ⟨hfollow, hpassback⟩ := hr
  obtain ⟨resolution, hctb⟩ := hc
  obtain ⟨hirg, hctbok, hlinks⟩ := h
  have hirg' : ({ s.irg with records := t.irg.records } : Irg).ok :=
    Irg.ok_of_follow (hfollow.imp fun r r' hride hcount => by rwa [hride.2.2]) hirg
  refine ⟨?_, hctb ▸ hctbok, ?_⟩
  · simpa only [← hpassback] using hirg'
  · rw [hctb]
    exact linksOk_of_follow (hfollow.imp fun r r' hride => hride.2.1) hlinks

/-! ### Sightings (R102 to R104) -/

theorem satSucc_bounds (n : Nat) (h : n ≤ 255) : 1 ≤ satSucc 255 n ∧ satSucc 255 n ≤ 255 := by
  rw [satSucc_eq_min h]
  omega

theorem linksOk_registerLookup {key : CredKey} {seconds carriage : Nat} {rs : List Record} {cs : List Case}
    (h : linksOk rs cs) : linksOk (registerLookup key seconds carriage rs).1 cs := by
  obtain ⟨hcases, hrecords⟩ := h
  refine ⟨fun c hc hl => ?_, fun r hr n hn => ?_⟩
  · obtain ⟨r, hr, hk, hlink⟩ := hcases c hc hl
    exact ⟨r, mem_registerLookup_of_protected hr (by simp [evictable, hlink]), hk, hlink⟩
  · rcases mem_registerLookup hr with hold | ⟨-, rfl⟩
    · exact hrecords r hold n hn
    · simp [newRecord] at hn

/-- The record of a sighting has a count of 1 or one higher, the others theirs (R104). -/
theorem sightedRecords_count {key : CredKey} {seconds carriage : Nat} {rs : List Record} {r : Record}
    (h : ∀ r ∈ rs, 1 ≤ r.count ∧ r.count ≤ 255) (hr : r ∈ sightedRecords key seconds carriage rs) :
    1 ≤ r.count ∧ r.count ≤ 255 := by
  obtain ⟨q, hq, rfl⟩ := List.mem_map.1 hr
  rcases mem_registerLookup hq with hold | ⟨-, rfl⟩
  · split
    · exact satSucc_bounds _ (h q hold).2
    · exact h q hold
  · have hk : (newRecord key seconds carriage).key = key := rfl
    rw [if_pos hk]
    exact satSucc_bounds _ (Nat.zero_le _)

theorem RegisterOk.sighted {s : State} (key : CredKey) (seconds carriage : Nat) (h : RegisterOk s) :
    RegisterOk { s with irg := { s.irg with records := sightedRecords key seconds carriage s.irg.records } } := by
  obtain ⟨⟨hlen, hd, hpassback, hcounts⟩, hctb, hlinks⟩ := h
  have hfollow := follow_seen key seconds carriage (registerLookup key seconds carriage s.irg.records).1
  refine ⟨⟨?_, hfollow.distinctKeys (registerLookup_distinctKeys hd), hpassback, fun r => sightedRecords_count hcounts⟩,
    hctb, linksOk_of_follow (hfollow.imp fun _ _ hsame => hsame.2) (linksOk_registerLookup hlinks)⟩
  exact hfollow.length_eq ▸ registerLookup_length hlen

theorem afterCheck_registerOk {c : Credential} {ev : Evaluation} {s : State} (hc : ev.credential.isSome = true)
    (h : RegisterOk s) : RegisterOk (afterCheck c ev s) := by
  unfold afterCheck
  simp only
  split
  · exact h
  have hcred : (screenStage c s { ev with trust := .trusted }).credential.isSome = true := by
    rwa [screenStage_credential]
  obtain ⟨ev', -, -, hconsumed⟩ := trustedStages_consumed (c := c) (s := s) hcred
  rw [judged_state] at hconsumed
  have hsighted := h.sighted c.key (screenStage c s { ev with trust := .trusted }).snapshot.seconds
    (screenStage c s { ev with trust := .trusted }).carriage
  exact hsighted.of_ridesOn (hconsumed.ridesOn hsighted.distinctKeys) ⟨s.ctb.resolution, by simp⟩

theorem checkComplete_registerOk {s : State} (h : RegisterOk s) : RegisterOk (checkComplete s) := by
  unfold checkComplete
  split
  case h_2 => exact h
  next ev check _ =>
    unfold finishCheck
    split
    case h_2 => exact h
    next c hc =>
      obtain ⟨fs, hraise⟩ := Evaluation.raiseIf_onlyFindings (!check.matches) .checkMismatch ev
      exact afterCheck_registerOk (by simp [hraise, hc]) h

/-! ### Opening a case (R117, R118) -/

theorem serialAfter_bounds (n : Nat) : 1 ≤ serialAfter n ∧ serialAfter n ≤ 65535 := by
  unfold serialAfter
  split <;> omega

theorem serialAfter_cases (n : Nat) : (n < 65535 ∧ serialAfter n = n + 1) ∨ (65535 ≤ n ∧ serialAfter n = 1) := by
  unfold serialAfter
  split
  next h => exact .inl ⟨h, rfl⟩
  next h => exact .inr ⟨Nat.not_lt.1 h, rfl⟩

theorem freshSerial_bounds (held : List Nat) (fuel : Nat) {n : Nat} (h1 : 1 ≤ n) (h2 : n ≤ 65535) :
    1 ≤ freshSerial held fuel n ∧ freshSerial held fuel n ≤ 65535 := by
  induction fuel generalizing n with
  | zero => exact ⟨h1, h2⟩
  | succ fuel ih =>
    unfold freshSerial
    split
    · exact ih (serialAfter_bounds n).1 (serialAfter_bounds n).2
    · exact ⟨h1, h2⟩

/-- The serials that are tried for a new case. -/
def triedSerials (n : Nat) : List Nat :=
  [n, serialAfter n, serialAfter (serialAfter n), serialAfter (serialAfter (serialAfter n))]

theorem triedSerials_nodup (n : Nat) : (triedSerials n).Nodup := by
  simp only [triedSerials, List.nodup_cons, List.mem_cons, List.not_mem_nil, or_false, not_or, not_false_eq_true,
    List.nodup_nil, and_true]
  have first := serialAfter_cases n
  have second := serialAfter_cases (serialAfter n)
  have third := serialAfter_cases (serialAfter (serialAfter n))
  omega

/-- With at most three slots taken one of the four tried serials is in none (R117). -/
theorem freshSerial_not_mem {held : List Nat} (hlen : held.length < 4) (n : Nat) :
    freshSerial held 4 n ∉ held := by
  intro hmem
  have hall : ∀ m ∈ triedSerials n, m ∈ held := by
    simp only [triedSerials, List.mem_cons, List.not_mem_nil, or_false, forall_eq_or_imp, forall_eq]
    simp only [freshSerial, List.contains_eq_mem, decide_eq_true_eq] at hmem
    split at hmem
    case isFalse hnot => exact absurd hmem hnot
    next ha =>
      split at hmem
      case isFalse hnot => exact absurd hmem hnot
      next hb =>
        split at hmem
        case isFalse hnot => exact absurd hmem hnot
        next hc =>
          split at hmem
          case isFalse hnot => exact absurd hmem hnot
          next hd => exact ⟨ha, hb, hc, hd⟩
  have hle := (triedSerials_nodup n).length_le_of_subset hall
  simp only [triedSerials, List.length_cons, List.length_nil] at hle
  omega

theorem linksRecord_iff {ev : Evaluation} {key : CredKey} {s : State} :
    linksRecord ev key s = true ↔ ∃ r, recordOf ev key s = some r ∧ r.caseLink = none := by
  unfold linksRecord
  split
  next r hr => simp [hr]
  next hr => simp [hr]

theorem heldSerials_length (c : Ctb) : (heldSerials c).length = heldSlots c := by
  simp [heldSerials, heldSlots]

theorem openCase_registerOk {c : Credential} {ev : Evaluation} {s : State} (h : RegisterOk s) :
    RegisterOk (openCase c ev s).1 := by
  unfold openCase
  split
  case isFalse => exact h
  next hroom =>
    obtain ⟨hirg, ⟨hslots, hnodup, hserials, hnext, hnext', htimeout⟩, hcases, hrecords⟩ := h
    obtain ⟨hlow, hhigh⟩ := freshSerial_bounds (heldSerials s.ctb) 4 hnext hnext'
    have hfresh := freshSerial_not_mem (heldSerials_length s.ctb ▸ hroom) s.ctb.nextSerial
    simp only
    generalize freshSerial (heldSerials s.ctb) 4 s.ctb.nextSerial = serial at hlow hhigh hfresh ⊢
    obtain ⟨hafter, hafter'⟩ := serialAfter_bounds serial
    have hnotin : serial ∉ s.ctb.cases.map (·.serial) ∧ serial ∉ s.ctb.closedWaiting.map (·.serial) := by
      simpa [heldSerials, not_or] using hfresh
    have hctb (linked : Bool) : ({ s.ctb with cases := s.ctb.cases ++ [newCase serial linked c ev s]
                                              nextSerial := serialAfter serial } : Ctb).ok := by
      refine ⟨?_, ?_, ?_, hafter, hafter', htimeout⟩
      · simp only [List.length_append, List.length_singleton]
        simp only [heldSlots] at hroom
        omega
      · simp only [List.map_append, List.map_singleton, List.append_assoc]
        exact (List.perm_middle.nodup_iff).2 (List.nodup_cons.2 ⟨by simpa [heldSerials, newCase] using hfresh, hnodup⟩)
      · intro d hd
        rcases List.mem_append.1 hd with hold | hnew
        · exact hserials d hold
        · rw [List.mem_singleton.1 hnew]
          exact ⟨hlow, hhigh⟩
    cases hlinked : linksRecord ev c.key s with
    | false =>
      refine ⟨hirg, hctb false, fun d hd hl => ?_, fun r hr n hn => ?_⟩
      · rcases List.mem_append.1 hd with hold | hnew
        · exact hcases d hold hl
        · rw [List.mem_singleton.1 hnew] at hl
          simp [newCase] at hl
      · obtain ⟨d, hd, hrest⟩ := hrecords r hr n hn
        exact ⟨d, List.mem_append_left _ hd, hrest⟩
    | true =>
      obtain ⟨r, hr, hfree⟩ := linksRecord_iff.1 hlinked
      obtain ⟨hmem, hkey⟩ := findRecord_eq_some (recordOf_eq_some hr)
      have hmod : Follow (fun q q' => q'.count = q.count ∧ (q.key ≠ c.key → q'.caseLink = q.caseLink) ∧
          (q.key = c.key → q'.caseLink = some serial)) s.irg.records
          (updateRecord c.key (fun r => { r with caseLink := some serial }) s.irg.records) := by
        refine follow_map fun q _ => ?_
        split
        next hk => exact ⟨rfl, rfl, fun hne => absurd hk hne, fun _ => rfl⟩
        next hk => exact ⟨rfl, rfl, fun _ => rfl, fun he => absurd he hk⟩
      refine ⟨Irg.ok_of_follow (hmod.imp fun _ _ hq hcount => hq.1 ▸ hcount) hirg, hctb true, fun d hd hl => ?_,
        fun q' hq' n hn => ?_⟩
      · rcases List.mem_append.1 hd with hold | hnew
        · obtain ⟨q, hq, hqk, hlink⟩ := hcases d hold hl
          obtain ⟨q', hq', hk', -, hsame, -⟩ := hmod.mem_left hq
          have hother : q.key ≠ c.key := by
            intro hk
            rw [(Irg.distinctKeys hirg).eq_of_key hq hmem (hk.trans hkey.symm), hfree] at hlink
            simp at hlink
          exact ⟨q', hq', hk'.trans hqk, (hsame hother).trans hlink⟩
        · rw [List.mem_singleton.1 hnew]
          obtain ⟨q', hq', hk', -, -, hset⟩ := hmod.mem_left hmem
          exact ⟨q', hq', hk'.trans hkey, hset hkey⟩
      · obtain ⟨q, hq, hk', -, hsame, hset⟩ := hmod.mem_right hq'
        by_cases hk : q.key = c.key
        · obtain rfl : serial = n := Option.some.inj ((hset hk).symm.trans hn)
          exact ⟨newCase serial true c ev s, by simp, rfl, (hk'.trans hk).symm, rfl⟩
        · obtain ⟨d, hd, hserial, hdk, hl⟩ := hrecords q hq n ((hsame hk).symm.trans hn)
          exact ⟨d, List.mem_append_left _ hd, hserial, hdk.trans hk'.symm, hl⟩

theorem openForAction_registerOk {ev : Evaluation} {s : State} (h : RegisterOk s) :
    RegisterOk (openForAction ev s).1 := by
  unfold openForAction
  split
  · exact openCase_registerOk h
  · exact h

theorem issue_registerOk {ofParked : Bool} {s : State} (h : RegisterOk s) : RegisterOk (issue ofParked s) := by
  have hverdict (ev : Evaluation) : RegisterOk (issueVerdict ev s) := by
    have hopened := openForAction_registerOk (ev := ev) h
    unfold issueVerdict releaseCard
    simp only
    split
    · exact hopened
    · exact hopened
  unfold issue
  split
  · exact h
  split
  · split
    · split
      · exact hverdict _
      · exact h
    · exact h
  · split
    · exact hverdict _
    · exact h

end Sys2Proof.Machine
end

section
/-! Closing a case keeps the register and the Case Table in order (R119), and so does every command. -/

namespace Sys2Proof.Machine

/-! ### Closing a case (R119) -/

theorem detachCase_ctb (c : Case) (s : State) :
    (detachCase c s).ctb = { s.ctb with cases := s.ctb.cases.filter (fun d => d.serial != c.serial) } := by
  unfold detachCase
  simp only
  split <;> rfl

theorem detachCase_irg (c : Case) (s : State) :
    (detachCase c s).irg = if c.linked then
      { s.irg with records := updateRecord c.key (fun r => { r with caseLink := none }) s.irg.records } else s.irg := by
  unfold detachCase
  simp only
  split <;> rfl

/-- A record moves but for its case link. -/
theorem follow_unlink (key : CredKey) (rs : List Record) :
    Follow (fun r r' => r'.ride = r.ride ∧ r'.count = r.count ∧ (r.key ≠ key → r'.caseLink = r.caseLink) ∧
      (r.key = key → r'.caseLink = none)) rs (updateRecord key (fun r => { r with caseLink := none }) rs) := by
  refine follow_map fun q _ => ?_
  split
  next hk => exact ⟨rfl, rfl, rfl, fun hne => absurd hk hne, fun _ => rfl⟩
  next hk => exact ⟨rfl, rfl, rfl, fun _ => rfl, fun he => absurd he hk⟩

section
variable {s : State} {c : Case}

theorem Ctb.eq_of_serial {t : Ctb} {a b : Case} (h : t.ok) (ha : a ∈ t.cases) (hb : b ∈ t.cases)
    (hs : a.serial = b.serial) : a = b := by
  obtain ⟨-, hnodup, -⟩ := h
  exact eq_of_nodup_map (List.nodup_append.1 hnodup).1 ha hb hs

/-- The slot of the case that leaves is free, and its serial in no slot (R119). -/
theorem detachCase_slots (hc : c ∈ s.ctb.cases) (h : s.ctb.ok) :
    (detachCase c s).ctb.cases.length + s.ctb.closedWaiting.length < 4 ∧
      c.serial ∉ (detachCase c s).ctb.cases.map (·.serial) ∧ c.serial ∉ s.ctb.closedWaiting.map (·.serial) := by
  obtain ⟨hslots, hnodup, -⟩ := h
  have hlt : (s.ctb.cases.filter (fun d => d.serial != c.serial)).length < s.ctb.cases.length :=
    List.length_filter_lt_length_iff_exists.2 ⟨c, hc, by simp⟩
  have hdisjoint := (List.nodup_append.1 hnodup).2.2
  rw [detachCase_ctb]
  refine ⟨by simp only; omega, by simp, fun hmem => ?_⟩
  exact hdisjoint _ (List.mem_map.2 ⟨c, hc, rfl⟩) _ hmem rfl

theorem detachCase_ctb_ok (h : s.ctb.ok) : (detachCase c s).ctb.ok := by
  obtain ⟨hslots, hnodup, hserials, hrest⟩ := h
  rw [detachCase_ctb]
  have hsub : (s.ctb.cases.filter (fun d => d.serial != c.serial)).Sublist s.ctb.cases := List.filter_sublist
  refine ⟨?_, hnodup.sublist ((hsub.map _).append_right _), fun d hd => hserials d (hsub.mem hd), hrest⟩
  have hle := hsub.length_le
  simp only
  omega

theorem detachCase_links (hc : c ∈ s.ctb.cases) (h : RegisterOk s) :
    linksOk (detachCase c s).irg.records (detachCase c s).ctb.cases := by
  obtain ⟨hirg, hctb, hcases, hrecords⟩ := h
  have hd := Irg.distinctKeys hirg
  have hkept (d : Case) : d ∈ s.ctb.cases.filter (fun d => d.serial != c.serial) ↔
      d ∈ s.ctb.cases ∧ d.serial ≠ c.serial := by
    simp [List.mem_filter]
  rw [detachCase_ctb, detachCase_irg]
  cases hl : c.linked with
  | false =>
    refine ⟨fun d hdmem hdl => hcases d ((hkept d).1 hdmem).1 hdl, fun r hr n hn => ?_⟩
    obtain ⟨d, hdmem, hserial, hdk, hdl⟩ := hrecords r hr n hn
    refine ⟨d, (hkept d).2 ⟨hdmem, fun hsame => ?_⟩, hserial, hdk, hdl⟩
    rw [Ctb.eq_of_serial hctb hdmem hc hsame, hl] at hdl
    simp at hdl
  | true =>
    obtain ⟨q, hq, hqk, hqlink⟩ := hcases c hc hl
    have hf := follow_unlink c.key s.irg.records
    refine ⟨fun d hdmem hdl => ?_, fun r' hr' n hn => ?_⟩
    · obtain ⟨hdold, hne⟩ := (hkept d).1 hdmem
      obtain ⟨r, hr, hrk, hlink⟩ := hcases d hdold hdl
      obtain ⟨r', hr', hk', -, -, hsame, -⟩ := hf.mem_left hr
      have hother : r.key ≠ c.key := by
        intro hk
        rw [hd.eq_of_key hr hq (hk.trans hqk.symm), hqlink] at hlink
        exact hne (Option.some.inj hlink).symm
      exact ⟨r', hr', hk'.trans hrk, (hsame hother).trans hlink⟩
    · obtain ⟨r, hr, hk', -, -, hsame, hnone⟩ := hf.mem_right hr'
      have hother : r.key ≠ c.key := by
        intro hk
        simp [hnone hk] at hn
      obtain ⟨d, hdmem, hserial, hdk, hdl⟩ := hrecords r hr n ((hsame hother).symm.trans hn)
      refine ⟨d, (hkept d).2 ⟨hdmem, fun heq => ?_⟩, hserial, hdk.trans hk'.symm, hdl⟩
      rw [Ctb.eq_of_serial hctb hdmem hc heq] at hdk
      exact hother hdk.symm

theorem detachCase_irg_ok (h : s.irg.ok) : (detachCase c s).irg.ok := by
  rw [detachCase_irg]
  split
  · exact Irg.ok_of_follow ((follow_unlink c.key s.irg.records).imp fun _ _ hq hcount => hq.2.1 ▸ hcount) h
  · exact h

theorem detachCase_registerOk (hc : c ∈ s.ctb.cases) (h : RegisterOk s) : RegisterOk (detachCase c s) :=
  ⟨detachCase_irg_ok h.1, detachCase_ctb_ok h.2.1, detachCase_links hc h⟩

end

theorem queueCaseClosed_ctb (closed : ClosedCase) (s : State) :
    (queueCaseClosed closed s).ctb = s.ctb ∨
      (queueCaseClosed closed s).ctb = { s.ctb with closedWaiting := s.ctb.closedWaiting ++ [closed] } := by
  unfold queueCaseClosed
  split
  · exact .inl rfl
  · exact .inr rfl

theorem Ctb.ok_queued {t : Ctb} {closed : ClosedCase} (hroom : t.cases.length + t.closedWaiting.length < 4)
    (hc : closed.serial ∉ t.cases.map (·.serial)) (hw : closed.serial ∉ t.closedWaiting.map (·.serial)) (h : t.ok) :
    ({ t with closedWaiting := t.closedWaiting ++ [closed] } : Ctb).ok := by
  obtain ⟨-, hnodup, hserials, hrest⟩ := h
  refine ⟨by simp only [List.length_append, List.length_singleton]; omega, ?_, hserials, hrest⟩
  rw [List.map_append, List.map_singleton, ← List.append_assoc]
  refine (List.perm_append_singleton _ _).nodup_iff.2 (List.nodup_cons.2 ⟨?_, hnodup⟩)
  rw [List.mem_append, not_or]
  exact ⟨hc, hw⟩

/-- The cases that are left when a case closes. -/
theorem closeCase_cases (o : CaseOutcome) (r : RideOutcome) (n : Option Nat) (c : Case) (s : State) :
    (closeCase o r n c s).ctb.cases = s.ctb.cases.filter (fun d => d.serial != c.serial) := by
  have hqueue := queueCaseClosed_ctb (closedOf o r n c) (journal (caseEndRecord (closedOf o r n c)) (detachCase c s))
  rw [closeCase]
  rcases hqueue with he | he <;> simp only [he, journal_ctb, detachCase_ctb]

theorem closeCase_registerOk {o : CaseOutcome} {r : RideOutcome} {n : Option Nat} {c : Case} {s : State}
    (hc : c ∈ s.ctb.cases) (h : RegisterOk s) : RegisterOk (closeCase o r n c s) := by
  obtain ⟨hirg, hctb, hlinks⟩ := detachCase_registerOk hc h
  obtain ⟨hroom, hnotcase, hnotwaiting⟩ := detachCase_slots hc h.2.1
  have hwaiting : (detachCase c s).ctb.closedWaiting = s.ctb.closedWaiting := by rw [detachCase_ctb]
  rw [closeCase]
  refine ⟨?_, ?_, ?_⟩
  · rwa [queueCaseClosed_irg, journal_irg]
  · rcases queueCaseClosed_ctb (closedOf o r n c) (journal (caseEndRecord (closedOf o r n c)) (detachCase c s))
      with he | he <;> rw [he, journal_ctb]
    · exact hctb
    · rw [← hwaiting] at hroom hnotwaiting
      exact Ctb.ok_queued hroom hnotcase hnotwaiting hctb
  · rw [queueCaseClosed_irg, journal_irg]
    rcases queueCaseClosed_ctb (closedOf o r n c) (journal (caseEndRecord (closedOf o r n c)) (detachCase c s))
      with he | he <;> rw [he, journal_ctb] <;> exact hlinks

/-- Several cases close one after the other; each stays OPEN until its turn. -/
theorem closeCases_registerOk {f : State → Case → State} {cs : List Case} {s : State}
    (hf : ∀ c s, c ∈ s.ctb.cases → RegisterOk s → RegisterOk (f s c))
    (hcases : ∀ c s, (f s c).ctb.cases = s.ctb.cases.filter (fun d => d.serial != c.serial))
    (hdistinct : (cs.map (·.serial)).Nodup) (hmem : ∀ c ∈ cs, c ∈ s.ctb.cases) (h : RegisterOk s) :
    RegisterOk (cs.foldl f s) := by
  induction cs generalizing s with
  | nil => exact h
  | cons c cs ih =>
    rw [List.map_cons, List.nodup_cons] at hdistinct
    refine ih hdistinct.2 (fun d hd => ?_) (hf c s (hmem c List.mem_cons_self) h)
    rw [hcases, List.mem_filter]
    refine ⟨hmem d (List.mem_cons_of_mem c hd), ?_⟩
    have hne : d.serial ≠ c.serial := fun he => hdistinct.1 (List.mem_map.2 ⟨d, hd, he⟩)
    simpa using hne

theorem Ctb.serials_nodup {t : Ctb} (h : t.ok) : (t.cases.map (·.serial)).Nodup := by
  obtain ⟨-, hnodup, -⟩ := h
  exact (List.nodup_append.1 hnodup).1

theorem timeOutCases_registerOk {s : State} (h : RegisterOk s) : RegisterOk (timeOutCases s) := by
  have hsub : (s.ctb.cases.filter (deadlineReached s)).Sublist s.ctb.cases := List.filter_sublist
  exact closeCases_registerOk (f := fun s c => timeOutCase c s) (fun c s hc h => closeCase_registerOk hc h)
    (fun c s => closeCase_cases _ _ _ c s) ((Ctb.serials_nodup h.2.1).sublist (hsub.map _)) (fun c hc => hsub.mem hc) h

/-! ### Close completion (R40) -/

theorem completeCase_ctb (s : State) (c : Case) :
    (completeCase s c).ctb = { s.ctb with cases := s.ctb.cases.filter (fun d => d.serial != c.serial) } := by
  simp only [completeCase, journalWith_ctb, detachCase_ctb]

theorem completeCase_registerOk {s : State} {c : Case} (hc : c ∈ s.ctb.cases) (h : RegisterOk s) :
    RegisterOk (completeCase s c) := by
  have hdetached := detachCase_registerOk hc h
  unfold completeCase
  simp only
  refine ⟨?_, ?_, ?_⟩
  · rw [journalWith_irg]
    exact hdetached.1
  · rw [journalWith_ctb]
    exact hdetached.2.1
  · rw [journalWith_irg, journalWith_ctb]
    exact hdetached.2.2

/-- After all cases have closed none is left. -/
theorem completeCases_cases {cs : List Case} {s : State} (h : ∀ d ∈ s.ctb.cases, d ∈ cs) :
    (cs.foldl completeCase s).ctb.cases = [] := by
  induction cs generalizing s with
  | nil => exact List.eq_nil_iff_forall_not_mem.2 fun d hd => by simpa using h d hd
  | cons c cs ih =>
    refine ih fun d hd => ?_
    rw [completeCase_ctb] at hd
    obtain ⟨hmem, hne⟩ := List.mem_filter.1 hd
    refine (List.mem_cons.1 (h d hmem)).resolve_left ?_
    rintro rfl
    simp at hne

theorem closeCompletion_registerOk {s : State} (h : RegisterOk s) : RegisterOk (closeCompletion s) := by
  unfold closeCompletion
  split
  case h_2 => exact h
  next j _ =>
    split
    case isFalse => exact h
    obtain ⟨⟨-, -, hpassback, -⟩, hctb, -⟩ : RegisterOk (s.ctb.cases.foldl completeCase s) :=
      closeCases_registerOk (fun c s hc h => completeCase_registerOk hc h)
        (fun c s => congrArg Ctb.cases (completeCase_ctb s c)) (Ctb.serials_nodup h.2.1) (fun c hc => hc) h
    have hnone := completeCases_cases (cs := s.ctb.cases) (s := s) fun d hd => hd
    have hirg' : (completeClose j s).irg =
        { (s.ctb.cases.foldl completeCase s).irg with records := [] } := by
      simp [completeClose]
    have hctb' : (completeClose j s).ctb = (s.ctb.cases.foldl completeCase s).ctb := by
      simp [completeClose]
    refine ⟨?_, ?_, ?_⟩
    · rw [hirg']
      exact ⟨by simp, List.Pairwise.nil, hpassback, nofun⟩
    · rwa [hctb']
    · rw [hirg', hctb', hnone]
      exact linksOk_nil

/-! ### The rest of the Case Table -/

theorem setQuote_registerOk {serial : Nat} {q : Quote} {s : State} (h : RegisterOk s) :
    RegisterOk (withCtb { s.ctb with cases := setQuote serial q s.ctb.cases } s) := by
  obtain ⟨hirg, ⟨hslots, hnodup, hserials, hrest⟩, hcases, hrecords⟩ := h
  have hsame (c : Case) : (if c.serial = serial then { c with quote := some q } else c).serial = c.serial ∧
      (if c.serial = serial then { c with quote := some q } else c).key = c.key ∧
      (if c.serial = serial then { c with quote := some q } else c).linked = c.linked := by
    split <;> exact ⟨rfl, rfl, rfl⟩
  have hmap : (setQuote serial q s.ctb.cases).map (·.serial) = s.ctb.cases.map (·.serial) := by
    simp only [setQuote, List.map_map]
    exact List.map_congr_left fun c _ => (hsame c).1
  refine ⟨hirg, ⟨?_, ?_, fun d hd => ?_, hrest⟩, fun d hd hl => ?_, fun r hr n hn => ?_⟩
  · simpa [setQuote] using hslots
  · simpa only [withCtb_ctb, hmap] using hnodup
  · obtain ⟨c, hc, rfl⟩ := List.mem_map.1 hd
    rw [(hsame c).1]
    exact hserials c hc
  · obtain ⟨c, hc, rfl⟩ := List.mem_map.1 hd
    rw [(hsame c).2.2] at hl
    rw [(hsame c).1, (hsame c).2.1]
    exact hcases c hc hl
  · obtain ⟨c, hc, hserial, hk, hl⟩ := hrecords r hr n hn
    refine ⟨_, List.mem_map.2 ⟨c, hc, rfl⟩, ?_⟩
    rw [(hsame c).1, (hsame c).2.1, (hsame c).2.2]
    exact ⟨hserial, hk, hl⟩

theorem caseClosedQueued_registerOk {s : State} (h : RegisterOk s) : RegisterOk (caseClosedQueued s) := by
  unfold caseClosedQueued
  split
  · exact h
  next closed rest hw =>
    split
    case isFalse => exact h
    obtain ⟨hirg, ⟨hslots, hnodup, hrest⟩, hlinks⟩ := h
    rw [hw] at hslots hnodup
    refine ⟨hirg, ⟨?_, ?_, hrest⟩, hlinks⟩
    · simp only [List.length_cons] at hslots ⊢
      omega
    · rw [List.map_cons] at hnodup
      exact hnodup.sublist ((List.sublist_cons_self _ _).append_left _)

theorem endResolutionWrite_ctb (done : Bool) (s : State) :
    ∃ resolution, (endResolutionWrite done s).1.ctb = { s.ctb with resolution := resolution } := by
  unfold endResolutionWrite
  split
  · exact ⟨none, by simp⟩
  · exact ⟨s.ctb.resolution, rfl⟩

theorem endWrite_ctb (done down : Bool) (s : State) :
    ∃ resolution, (endWrite done down s).ctb = { s.ctb with resolution := resolution } := by
  unfold endWrite
  split
  · exact ⟨s.ctb.resolution, rfl⟩
  rw [withCiu_ctb]
  split
  · exact ⟨s.ctb.resolution, by simp⟩
  · exact endResolutionWrite_ctb done s

theorem cardDown_ctb (s : State) : ∃ resolution, (cardDown s).ctb = { s.ctb with resolution := resolution } := by
  have same : ∃ resolution, s.ctb = { s.ctb with resolution := resolution } := ⟨s.ctb.resolution, rfl⟩
  unfold cardDown
  split
  · exact same
  · simpa using same
  · exact same
  · exact endWrite_ctb false true s
  · exact same

theorem cardUp_ctb (identifier : List Byte) (s : State) :
    ∃ resolution, (cardUp identifier s).ctb = { s.ctb with resolution := resolution } := by
  rw [cardUp, cardUpAbsent_ctb]
  exact cardDown_ctb s

theorem written_ctb (result : WriteResult) (s : State) :
    ∃ resolution, (written result s).ctb = { s.ctb with resolution := resolution } := by
  unfold written
  split
  · exact endWrite_ctb _ _ s
  · exact ⟨s.ctb.resolution, rfl⟩

theorem writeTimerExpiry_ctb (s : State) :
    ∃ resolution, (writeTimerExpiry s).ctb = { s.ctb with resolution := resolution } := by
  unfold writeTimerExpiry
  split
  · exact endWrite_ctb _ _ s
  · exact ⟨s.ctb.resolution, rfl⟩

theorem takeCaseRide_ctb (c : Case) (s : State) :
    ∃ resolution, (takeCaseRide c s).1.ctb = { s.ctb with resolution := resolution } := by
  have same : ∃ resolution, s.ctb = { s.ctb with resolution := resolution } := ⟨s.ctb.resolution, rfl⟩
  unfold takeCaseRide
  split
  · exact same
  split
  · exact same
  split
  · exact same
  · exact same
  · exact same
  split
  · exact same
  split
  · exact same
  · split
    · exact ⟨_, rfl⟩
    · exact same
  · exact same

theorem decisionEffects_ctb (d : CaseOutcome) (c : Case) (s : State) :
    ∃ resolution, (decisionEffects d c s).1.ctb = { s.ctb with resolution := resolution } := by
  unfold decisionEffects
  split
  · exact takeCaseRide_ctb c s
  · split
    · exact takeCaseRide_ctb c (modifyRecord _ _ s)
    · exact takeCaseRide_ctb c s
  · exact ⟨s.ctb.resolution, rfl⟩

/-! ### Every command -/

theorem RegisterOk.of_eq {s t : State} (hi : t.irg = s.irg) (hc : t.ctb = s.ctb) (h : RegisterOk s) : RegisterOk t := by
  unfold RegisterOk
  rwa [hi, hc]

theorem effect_registerOk (c : Instr) {s : State} (h : RegisterOk s) : RegisterOk (effect c s) := by
  by_cases hreach : reachesRegister c = false ∧ reachesCases c = false
  · exact h.of_eq (effect_irg s hreach.1) (effect_ctb s hreach.2)
  have request {kind : Nat} {P : State → State → Prop} {handle : List Byte → State → Answer}
      (hh : Handles kind P handle) (hp : ∀ s t, P s t → RegisterOk s → RegisterOk t) :
      RegisterOk (takeRequest kind handle s) :=
    takeRequest_preserves hh (fun _ _ h => h) hp h
  have running {f : State → State} (hf : ∀ s, RegisterOk s → RegisterOk (f s)) : RegisterOk (whenRunning f s) :=
    whenRunning_keeps (P := RegisterOk) (hf s) h
  have received {own : CardReceived → State → State} {idle : Bool} {frame : List Byte}
      (hown : ∀ r s, RegisterOk s → RegisterOk (own r s)) : RegisterOk (whenRunning (receiveFrame own idle frame) s) :=
    receiveFrame_keeps (Q := RegisterOk) (fun _ h => h) (fun _ h => h.of_eq (by simp) (by simp))
      (fun r s _ => hown r s) h
  cases c <;> try exact absurd ⟨rfl, rfl⟩ hreach
  case powerOn | resetNLow | resetNHigh =>
    exact hardResets_keeps (Q := RegisterOk) rfl (fun _ _ _ _ _ _ => ⟨Irg.reset_ok, Ctb.reset_ok, linksOk_nil⟩) h
  case reset =>
    refine request handles_reset ?_
    rintro s _ rfl ⟨⟨-, -, hpassback, -⟩, ⟨-, -, -, hrest⟩, -⟩
    exact ⟨⟨Nat.zero_le _, List.Pairwise.nil, hpassback, nofun⟩, ⟨Nat.zero_le _, List.Pairwise.nil, nofun, hrest⟩,
      linksOk_nil⟩
  -- closing cases
  case clockSet =>
    refine request handles_clockSet ?_
    rintro s _ ⟨seconds, millis, -, -, rfl⟩ h
    exact timeOutCases_registerOk h
  case closeCompletion => exact running fun _ h => closeCompletion_registerOk h
  case caseDeadlineReached => exact running fun _ h => timeOutCases_registerOk h
  case caseResolve =>
    refine request handles_caseResolve ?_
    rintro s _ ⟨serial, c, d, hfound, -, rfl⟩ h
    have hc : c ∈ s.ctb.cases := List.mem_of_find?_eq_some hfound
    have heffects := h.of_ridesOn (decisionEffects_ridesOn d c h.distinctKeys) (decisionEffects_ctb d c s)
    refine closeCase_registerOk ?_ heffects
    obtain ⟨resolution, hctb⟩ := decisionEffects_ctb d c s
    rwa [hctb]
  case caseClosedQueued => exact running fun _ h => caseClosedQueued_registerOk h
  -- the settings
  case caseQuote =>
    refine request handles_caseQuote ?_
    rintro s _ ⟨serial, q, rfl⟩ h
    exact setQuote_registerOk h
  case caseTimeout =>
    refine request handles_caseTimeout ?_
    rintro s _ ⟨minutes, hlow, hhigh, rfl⟩ ⟨hirg, ⟨hslots, hnodup, hserials, hnext, hnext', -⟩, hlinks⟩
    exact ⟨hirg, ⟨hslots, hnodup, hserials, hnext, hnext', hlow, hhigh⟩, hlinks⟩
  case passbackSet =>
    refine request handles_passbackSet ?_
    rintro s _ ⟨w, hw, rfl⟩ ⟨⟨hlen, hd, -, hcounts⟩, hrest⟩
    exact ⟨⟨hlen, hd, hw, hcounts⟩, hrest⟩
  -- the engine and the card line
  case checkComplete => exact running fun _ h => checkComplete_registerOk h
  case issue ofParked => exact running fun _ h => issue_registerOk h
  case writeTimerExpiry =>
    exact running fun s h => h.of_ridesOn (writeTimerExpiry_ridesOn s) (writeTimerExpiry_ctb s)
  case cardUp idle frame =>
    refine received ?_
    rintro (identifier | _ | _ | _) s h
    · exact h.of_ridesOn (cardUp_ridesOn identifier s) (cardUp_ctb identifier s)
    all_goals exact h
  case cardDown idle frame =>
    refine received ?_
    rintro (_ | _ | _ | _) s h
    case cardDown => exact h.of_ridesOn (cardDown_ridesOn s) (cardDown_ctb s)
    all_goals exact h
  case written idle frame =>
    refine received ?_
    rintro (_ | _ | _ | result) s h
    case written => exact h.of_ridesOn (written_ridesOn result s) (written_ctb result s)
    all_goals exact h

/-- Settles O57: every command keeps the two in order with their links, and a step is a command or nothing. -/
theorem registerAndCasesStayInOrder : Obligations.RegisterAndCasesStayInOrder := fun _ _ h hirg hctb hlinks =>
  step_keeps (Q := RegisterOk) (fun c _ => effect_registerOk c) (fun _ _ h => h) h ⟨hirg, hctb, hlinks⟩

end Sys2Proof.Machine
end

section
/-! Ride states move along the table of R107, and a record with a ride or a case stays (R103, R107). -/

namespace Sys2Proof.Machine

/-- What the reception of a card-line frame is: nothing, a line error, or the row's own effect, the wait for a gap being
over (R132, R133). -/
theorem receiveFrame_effect (own : CardReceived → State → State) (idle : Bool) (frame : List Byte) (s : State) :
    whenRunning (receiveFrame own idle frame) s = s ∨
      whenRunning (receiveFrame own idle frame) s = lineError .check (setAwaitsGap false s) ∨
      ∃ r, decodeCardFrame frame = some r ∧ whenRunning (receiveFrame own idle frame) s = own r (setAwaitsGap false s) := by
  unfold whenRunning
  split
  case isFalse => exact .inl rfl
  rcases receiveFrame_cases own idle frame s with ⟨-, he⟩ | ⟨r, hd, he⟩ <;> rw [he]
  · rcases whenListening_cases idle (lineError .check) s with ⟨-, hl⟩ | ⟨-, -, hl⟩ <;> rw [hl]
    · exact .inr (.inl rfl)
    · exact .inl rfl
  · rcases whenListening_cases idle (own r) s with ⟨-, hl⟩ | ⟨-, -, hl⟩ <;> rw [hl]
    · exact .inr (.inr ⟨r, hd, rfl⟩)
    · exact .inl rfl

/-- What holds of the register's moves by a row holds of them by its reception. -/
theorem receiveFrame_irg {R : Irg → Irg → Prop} {own : CardReceived → State → State} {idle : Bool} {frame : List Byte}
    {s : State} (hrefl : ∀ g, R g g) (hown : ∀ r t, R t.irg (own r t).irg) :
    R s.irg (whenRunning (receiveFrame own idle frame) s).irg := by
  rcases receiveFrame_effect own idle frame s with he | he | ⟨r, -, he⟩ <;> rw [he]
  · exact hrefl _
  · simpa using hrefl s.irg
  · simpa using hown r (setAwaitsGap false s)

/-- What holds of the register's moves by a handling holds of them by the take of its request. -/
theorem takeRequest_irg {R : Irg → Irg → Prop} {kind : Nat} {P : State → State → Prop} {h : List Byte → State → Answer}
    {s : State} (hh : Handles kind P h) (hrefl : ∀ g, R g g) (hp : ∀ u t, P u t → u.irg = s.irg → R u.irg t.irg) :
    R s.irg (takeRequest kind h s).irg := by
  rcases takeRequest_cases hh s with he | ⟨frame, rest, reply, t, -, -, ht, he⟩ <;> rw [he]
  · exact hrefl _
  · rcases ht with rfl | ht
    · exact hrefl _
    · exact hp (reserveSlot rest s) t ht rfl

/-- The ride state moves along the transitions (R107). -/
def Record.movesRide (r r' : Record) : Prop := r.ride.mayBecome r'.ride

theorem Record.movesRide_refl (r : Record) : r.movesRide r := RideState.mayBecome_refl r.ride

/-- The register's records move their ride states. -/
def Irg.MovesRides (g g' : Irg) : Prop := Follow Record.movesRide g.records g'.records

theorem Irg.MovesRides.refl (g : Irg) : g.MovesRides g := Follow.refl Record.movesRide_refl _

theorem Irg.RidesOn.movesRides {g g' : Irg} (h : g.RidesOn g') : g.MovesRides g' := h.1.imp fun _ _ hr => hr.1

/-- The register's records keep their ride states. -/
def Irg.KeepsRides (g g' : Irg) : Prop := Follow (fun r r' => r'.ride = r.ride) g.records g'.records

theorem Irg.KeepsRides.refl (g : Irg) : g.KeepsRides g :=
  Follow.refl (R := fun r r' => r'.ride = r.ride) (fun _ => rfl) _

theorem Irg.KeepsRides.trans {f g h : Irg} (hfg : f.KeepsRides g) (hgh : g.KeepsRides h) : f.KeepsRides h :=
  Follow.trans hfg hgh fun _ _ _ hab hbc => hbc.trans hab

theorem Irg.KeepsRides.movesRides {g g' : Irg} (h : g.KeepsRides g') : g.MovesRides g' :=
  Follow.imp h fun r r' hr => by
    rw [Record.movesRide, hr]
    exact RideState.mayBecome_refl r.ride

theorem Irg.MovesRides.keeps {f g h : Irg} (hfg : f.MovesRides g) (hgh : g.KeepsRides h) : f.MovesRides h :=
  Follow.trans hfg hgh fun a b c hab hbc => by
    rw [Record.movesRide, hbc]
    exact hab

/-! ### Cases leave the ride states -/

theorem detachCase_keepsRides (c : Case) (s : State) : s.irg.KeepsRides (detachCase c s).irg := by
  rw [detachCase_irg]
  split
  · exact (follow_unlink c.key s.irg.records).imp fun _ _ hr => hr.1
  · exact .refl _

theorem closeCase_keepsRides (o : CaseOutcome) (r : RideOutcome) (n : Option Nat) (c : Case) (s : State) :
    s.irg.KeepsRides (closeCase o r n c s).irg := by
  rw [closeCase, queueCaseClosed_irg, journal_irg]
  exact detachCase_keepsRides c s

theorem timeOutCases_keepsRides (s : State) : s.irg.KeepsRides (timeOutCases s).irg :=
  List.foldlRecOn (motive := fun t : State => s.irg.KeepsRides t.irg) _ _ (.refl _) fun t ht c _ =>
    ht.trans (closeCase_keepsRides .timedOut .none c.rides c t)

theorem openForAction_keepsRides (ev : Evaluation) (s : State) : s.irg.KeepsRides (openForAction ev s).1.irg := by
  unfold openForAction
  split
  case h_2 => exact .refl _
  next c _ _ =>
    unfold openCase
    split
    case isFalse => exact .refl _
    simp only
    split
    · exact follow_updateRecord (fun _ => rfl) (fun _ => rfl) fun _ _ _ => rfl
    · exact .refl _

theorem issueVerdict_keepsRides (ev : Evaluation) (s : State) : s.irg.KeepsRides (issueVerdict ev s).irg := by
  simp only [issueVerdict, releaseCard_irg, journal_irg]
  exact openForAction_keepsRides ev s

theorem issue_keepsRides (ofParked : Bool) (s : State) : s.irg.KeepsRides (issue ofParked s).irg := by
  unfold issue
  split
  · exact .refl _
  split
  · split
    · split
      · exact issueVerdict_keepsRides _ s
      · exact .refl _
    · exact .refl _
  · split
    · exact issueVerdict_keepsRides _ s
    · exact .refl _

/-! ### What every command leaves of the records -/

/-- What O60 asks of the records before and after a command. -/
def RidesAllowed (rs rs' : List Record) : Prop :=
  (∀ r ∈ rs, ∀ r' ∈ rs', r'.key = r.key → r.ride.mayBecome r'.ride) ∧
    ∀ r ∈ rs, evictable r = false → ∃ r' ∈ rs', r'.key = r.key

theorem Follow.ridesAllowed {rs rs' : List Record} (h : Follow Record.movesRide rs rs') (hd : Machine.distinctKeys rs) :
    RidesAllowed rs rs' := by
  refine ⟨fun r hr r' hr' hk => h.rel_of_key hd hr hr' hk, fun r hr _ => ?_⟩
  obtain ⟨r', hr', hk, -⟩ := h.mem_left hr
  exact ⟨r', hr', hk⟩

/-- A sighting, and a ride that moves after it, in one step (R102 to R104, R107). -/
theorem ridesAllowed_sighted {key : CredKey} {seconds carriage : Nat} {rs rs' : List Record} (hd : distinctKeys rs)
    (h : Follow Record.movesRide (sightedRecords key seconds carriage rs) rs') : RidesAllowed rs rs' := by
  have hseen := follow_seen key seconds carriage (registerLookup key seconds carriage rs).1
  have hfollow : Follow Record.movesRide (registerLookup key seconds carriage rs).1 rs' :=
    Follow.trans hseen h fun a b c hab hbc => by
      rw [Record.movesRide, ← hab.1]
      exact hbc
  refine ⟨fun r hr r' hr' hk => ?_, fun r hr hp => ?_⟩
  · obtain ⟨q, hq, hqk, hmove⟩ := hfollow.mem_right hr'
    rcases mem_registerLookup hq with hold | ⟨hnone, rfl⟩
    · rwa [hd.eq_of_key hr hold (hk.symm.trans hqk)]
    · exact absurd (hk.symm.trans hqk) (findRecord_eq_none.1 hnone r hr)
  · obtain ⟨r', hr', hk, -⟩ := hfollow.mem_left (mem_registerLookup_of_protected hr hp)
    exact ⟨r', hr', hk⟩

theorem afterCheck_ridesAllowed {c : Credential} {ev : Evaluation} {s : State} (hc : ev.credential.isSome = true)
    (hd : distinctKeys s.irg.records) : RidesAllowed s.irg.records (afterCheck c ev s).irg.records := by
  have same := Follow.ridesAllowed (Follow.refl Record.movesRide_refl s.irg.records) hd
  unfold afterCheck
  simp only
  split
  · exact same
  have hcred : (screenStage c s { ev with trust := .trusted }).credential.isSome = true := by
    rwa [screenStage_credential]
  obtain ⟨ev', -, -, hconsumed⟩ := trustedStages_consumed (c := c) (s := s) hcred
  rw [judged_state] at hconsumed
  exact ridesAllowed_sighted hd (hconsumed.ridesOn (sightedRecords_distinctKeys hd)).movesRides

theorem checkComplete_ridesAllowed {s : State} (hd : distinctKeys s.irg.records) :
    RidesAllowed s.irg.records (checkComplete s).irg.records := by
  have same := Follow.ridesAllowed (Follow.refl Record.movesRide_refl s.irg.records) hd
  unfold checkComplete
  split
  case h_2 => exact same
  next ev check _ =>
    unfold finishCheck
    split
    case h_2 => exact same
    next c hc =>
      obtain ⟨fs, hraise⟩ := Evaluation.raiseIf_onlyFindings (!check.matches) .checkMismatch ev
      exact afterCheck_ridesAllowed (by simp [hraise, hc]) hd

/-- A command that neither clears the register nor records a sighting moves the ride states of the records it holds. -/
theorem effect_movesRides {c : Instr} (hcheck : c ≠ .checkComplete) (hclose : c ≠ .closeCompletion) (hreset : c ≠ .reset)
    (hhard : hardResets c = false) {s : State} (hd : distinctKeys s.irg.records) :
    s.irg.MovesRides (effect c s).irg := by
  by_cases hreach : reachesRegister c = false
  · rw [effect_irg s hreach]
    exact .refl _
  have running {f : State → State} (hf : s.irg.MovesRides (f s).irg) : s.irg.MovesRides (whenRunning f s).irg := by
    unfold whenRunning
    split
    · exact hf
    · exact .refl _
  cases c <;> try exact absurd rfl hreach
  case powerOn | resetNLow | resetNHigh => cases hhard
  case checkComplete => exact absurd rfl hcheck
  case closeCompletion => exact absurd rfl hclose
  case reset => exact absurd rfl hreset
  case clockSet =>
    refine takeRequest_irg handles_clockSet .refl ?_
    rintro u _ ⟨seconds, millis, -, -, rfl⟩ -
    exact (timeOutCases_keepsRides
      (withJcu { u.jcu with clock := u.jcu.clock.setTo seconds millis } u)).movesRides
  case caseDeadlineReached => exact running (timeOutCases_keepsRides s).movesRides
  case caseResolve =>
    refine takeRequest_irg handles_caseResolve .refl ?_
    rintro u _ ⟨serial, c, d, -, -, rfl⟩ hu
    exact (decisionEffects_ridesOn d c (hu ▸ hd)).movesRides.keeps (closeCase_keepsRides _ _ _ c _)
  case passbackSet =>
    refine takeRequest_irg handles_passbackSet .refl ?_
    rintro u _ ⟨w, -, rfl⟩ -
    exact .refl _
  case issue ofParked => exact running (issue_keepsRides ofParked s).movesRides
  case writeTimerExpiry => exact running (writeTimerExpiry_ridesOn s).movesRides
  case cardUp idle frame =>
    refine receiveFrame_irg .refl ?_
    rintro (identifier | _ | _ | _) t
    · exact (cardUp_ridesOn identifier t).movesRides
    all_goals exact .refl _
  case cardDown idle frame =>
    refine receiveFrame_irg .refl ?_
    rintro (_ | _ | _ | _) t
    case cardDown => exact (cardDown_ridesOn t).movesRides
    all_goals exact .refl _
  case written idle frame =>
    refine receiveFrame_irg .refl ?_
    rintro (_ | _ | _ | result) t
    case written => exact (written_ridesOn result t).movesRides
    all_goals exact .refl _

/-- A command that clears the register leaves no record whose ride state could have moved. -/
theorem effect_cleared {c : Instr} (h : c = .closeCompletion ∨ c = .reset ∨ hardResets c = true) (s : State) :
    (effect c s).irg.records = [] ∨ (effect c s).irg = s.irg := by
  rcases h with rfl | rfl | h
  · refine whenRunning_keeps (P := fun t => t.irg.records = [] ∨ t.irg = s.irg) (fun h => ?_) (.inr rfl)
    unfold closeCompletion
    split
    · split
      · exact .inl (by simp [completeClose])
      · exact .inr rfl
    · exact .inr rfl
  · refine takeRequest_preserves (Q := fun t => t.irg.records = [] ∨ t.irg = s.irg) handles_reset (fun _ _ h => h) ?_
      (.inr rfl)
    rintro u _ rfl -
    exact .inl rfl
  · exact hardResets_keeps (Q := fun t => t.irg.records = [] ∨ t.irg = s.irg) h (fun _ _ _ _ _ _ => .inl rfl) (.inr rfl)

/-- Settles O60: by the command, CHECK_COMPLETE through the sighting it records. -/
theorem rideStatesMoveAsAllowed : Obligations.RideStatesMoveAsAllowed := by
  intro c s t h hd
  obtain rfl := eq_effect_of_exec h
  have same := Follow.ridesAllowed (Follow.refl Record.movesRide_refl s.irg.records) hd
  have hprotected (r : Record) : evictable r = false ↔ r.ride ≠ .none ∨ r.caseLink ≠ none := by
    cases hl : r.caseLink <;> simp [evictable, hl]
  by_cases hclear : c = .closeCompletion ∨ c = .reset ∨ hardResets c = true
  · refine ⟨fun r hr r' hr' hk => ?_, fun h1 h2 h3 => ?_⟩
    · rcases effect_cleared hclear s with he | he
      · simp [he] at hr'
      · rw [he] at hr'
        exact same.1 r hr r' hr' hk
    · simp [h1, h2, h3] at hclear
  have hallowed : RidesAllowed s.irg.records (effect c s).irg.records := by
    simp only [not_or] at hclear
    obtain ⟨hclose, hreset, hhard⟩ := hclear
    by_cases hcheck : c = .checkComplete
    · subst hcheck
      exact whenRunning_keeps (P := fun t => RidesAllowed s.irg.records t.irg.records)
        (fun _ => checkComplete_ridesAllowed hd) same
    · exact (effect_movesRides hcheck hclose hreset (by simpa using hhard) hd).ridesAllowed hd
  exact ⟨hallowed.1, fun _ _ _ r hr hp => hallowed.2 r hr ((hprotected r).2 hp)⟩

end Sys2Proof.Machine
end

section
/-! Every command keeps the card unit in order, and the one owner of the write in flight (R58, R81 to R83, R125, R133 to
R146). -/

namespace Sys2Proof.Machine

/-! ### The card unit, state by state -/

/-- The error counts of the card line are in their ranges (R133). -/
def ErrorCounts.ok (c : ErrorCounts) : Prop :=
  c.framing ≤ 65535 ∧ c.check ≤ 65535 ∧ c.sequence ≤ 65535 ∧ c.timeout ≤ 65535 ∧ c.format ≤ 65535

theorem ErrorCounts.bump_ok {c : ErrorCounts} (event : CardEventKind) (h : c.ok) : (c.bump event).ok := by
  obtain ⟨hframing, hcheck, hsequence, htimeout, hformat⟩ := h
  cases event with
  | framing => exact ⟨satSucc_le hframing, hcheck, hsequence, htimeout, hformat⟩
  | check => exact ⟨hframing, satSucc_le hcheck, hsequence, htimeout, hformat⟩
  | sequence => exact ⟨hframing, hcheck, satSucc_le hsequence, htimeout, hformat⟩
  | timeout => exact ⟨hframing, hcheck, hsequence, satSucc_le htimeout, hformat⟩
  | format => exact ⟨hframing, hcheck, hsequence, htimeout, satSucc_le hformat⟩
  | busy => exact ⟨hframing, hcheck, hsequence, htimeout, hformat⟩
  | removedEarly => exact ⟨hframing, hcheck, hsequence, htimeout, hformat⟩

/-- What is asked of the card unit whatever its state: its session tag, its image and its counts. -/
def Ciu.fieldsOk (c : Ciu) : Prop := c.tag < 65536 ∧ c.image.length ≤ 6 ∧ c.counts.ok

/-- What is asked of the card unit in its state (R134, R135, R139). -/
def Ciu.stateOk (c : Ciu) : Prop :=
  (c.state = .absent → c.held = false ∧ c.identifier = none) ∧
    (c.state = .reading ∨ c.state = .queued ∨ c.state = .writing → c.held = true) ∧
    (c.state = .reading → c.image.length ≤ 5) ∧ (c.state ≠ .absent → c.identifier.isSome = true) ∧
    (c.readTimer.isSome = true → c.state = .reading) ∧ (c.write.isSome = true ↔ c.state = .writing)

theorem Ciu.ok_iff (c : Ciu) : c.ok ↔ c.fieldsOk ∧ c.stateOk := by
  simp only [Ciu.ok, Ciu.fieldsOk, Ciu.stateOk, ErrorCounts.ok, and_assoc]

section
variable {c : Ciu}

theorem Ciu.fields_ok (h : c.ok) : c.fieldsOk := ((Ciu.ok_iff c).1 h).1

theorem Ciu.write_eq_none (h : c.ok) (hs : c.state ≠ .writing) : c.write = none := by
  obtain ⟨-, -, -, -, -, -, hwrite⟩ := (Ciu.ok_iff c).1 h
  simpa using mt hwrite.1 hs

theorem Ciu.readTimer_eq_none (h : c.ok) (hs : c.state ≠ .reading) : c.readTimer = none := by
  obtain ⟨-, -, -, -, -, htimer, -⟩ := (Ciu.ok_iff c).1 h
  simpa using mt htimer hs

theorem Ciu.held_eq_true (h : c.ok) (hs : c.state = .reading ∨ c.state = .queued ∨ c.state = .writing) :
    c.held = true := by
  obtain ⟨-, -, hheld, -⟩ := (Ciu.ok_iff c).1 h
  exact hheld hs

theorem Ciu.identifier_isSome (h : c.ok) (hs : c.state ≠ .absent) : c.identifier.isSome = true := by
  obtain ⟨-, -, -, -, hid, -⟩ := (Ciu.ok_iff c).1 h
  exact hid hs

theorem Ciu.ok_absent (hf : c.fieldsOk) (hs : c.state = .absent) (hh : c.held = false) (hid : c.identifier = none)
    (ht : c.readTimer = none) (hw : c.write = none) : c.ok :=
  (Ciu.ok_iff c).2 ⟨hf, by simp [Ciu.stateOk, hs, hh, hid, ht, hw]⟩

theorem Ciu.ok_reading (hf : c.fieldsOk) (hs : c.state = .reading) (hh : c.held = true)
    (hid : c.identifier.isSome = true) (hi : c.image.length ≤ 5) (hw : c.write = none) : c.ok :=
  (Ciu.ok_iff c).2 ⟨hf, by simp [Ciu.stateOk, hs, hh, hid, hi, hw]⟩

theorem Ciu.ok_queued (hf : c.fieldsOk) (hs : c.state = .queued) (hh : c.held = true)
    (hid : c.identifier.isSome = true) (ht : c.readTimer = none) (hw : c.write = none) : c.ok :=
  (Ciu.ok_iff c).2 ⟨hf, by simp [Ciu.stateOk, hs, hh, hid, ht, hw]⟩

theorem Ciu.ok_writing (hf : c.fieldsOk) (hs : c.state = .writing) (hh : c.held = true)
    (hid : c.identifier.isSome = true) (ht : c.readTimer = none) (hw : c.write.isSome = true) : c.ok :=
  (Ciu.ok_iff c).2 ⟨hf, by simp [Ciu.stateOk, hs, hh, hid, ht, hw]⟩

theorem Ciu.ok_settled (hf : c.fieldsOk) (hs : c.state = .settled) (hid : c.identifier.isSome = true)
    (ht : c.readTimer = none) (hw : c.write = none) : c.ok :=
  (Ciu.ok_iff c).2 ⟨hf, by simp [Ciu.stateOk, hs, hid, ht, hw]⟩

theorem settleUnheld_ok (hf : c.fieldsOk) (hid : c.identifier.isSome = true) (hw : c.write = none) :
    (settleUnheld c).ok :=
  Ciu.ok_settled hf rfl hid rfl hw

/-- The card leaves: the unit is ABSENT (R142). -/
theorem leaveField_ok (hf : c.fieldsOk) (ht : c.readTimer = none) (hw : c.write = none) : (leaveField c).ok :=
  Ciu.ok_absent hf rfl rfl rfl ht hw

theorem startWrite_ok {owner : WriteOwner} {counter : Counter} {serial session : Nat} {state : CardState} (h : c.ok)
    (hp : sessionPresent state session c = true) (hs : state ≠ .absent ∧ state ≠ .reading) :
    (startWrite owner counter serial c).ok := by
  simp only [sessionPresent, Bool.and_eq_true, beq_iff_eq] at hp
  obtain ⟨⟨hheld, -⟩, hstate⟩ := hp
  have hfields := Ciu.fields_ok h
  have hid := Ciu.identifier_isSome h (hstate ▸ hs.1)
  have htimer := Ciu.readTimer_eq_none h (hstate ▸ hs.2)
  exact Ciu.ok_writing hfields rfl hheld hid htimer rfl

theorem releaseAtIssue_ok {verdict : Verdict} {session : Nat} (h : c.ok) : (releaseAtIssue verdict session c).ok := by
  unfold releaseAtIssue
  split
  case isFalse => exact h
  next hp =>
    simp only [sessionPresent, Bool.and_eq_true, beq_iff_eq] at hp
    have hs := hp.2
    have hfields := Ciu.fields_ok h
    have hid := Ciu.identifier_isSome h (by simp [hs])
    have htimer := Ciu.readTimer_eq_none h (by simp [hs])
    have hwrite := Ciu.write_eq_none h (by simp [hs])
    exact Ciu.ok_settled hfields rfl hid htimer hwrite

end

/-! ### Reports and errors -/

section
variable {s : State}

/-- A report counts its event, unless quiet errors apply, and changes nothing else of the unit (R148, R150). -/
theorem reportCard_ciu (event : CardEventKind) (session : Option Nat) (after : CardState) (s : State) :
    (reportCard event session after s).ciu =
      { s.ciu with counts := if quietNow s then s.ciu.counts else s.ciu.counts.bump event } := by
  unfold reportCard
  split <;> rfl

theorem countsAfter_ok {event : CardEventKind} (h : s.ciu.counts.ok) :
    (if quietNow s then s.ciu.counts else s.ciu.counts.bump event).ok := by
  split
  · exact h
  · exact ErrorCounts.bump_ok event h

theorem reportCard_ciu_ok {event : CardEventKind} {session : Option Nat} {after : CardState} (h : s.ciu.ok) :
    (reportCard event session after s).ciu.ok := by
  obtain ⟨⟨htag, himage, hcounts⟩, hstate⟩ := (Ciu.ok_iff _).1 h
  rw [reportCard_ciu]
  exact (Ciu.ok_iff _).2 ⟨⟨htag, himage, countsAfter_ok hcounts⟩, hstate⟩

theorem failRead_ciu_ok {event : CardEventKind} (hf : s.ciu.fieldsOk) (hid : s.ciu.identifier.isSome = true)
    (hw : s.ciu.write = none) : (failRead event s).ciu.ok := by
  obtain ⟨htag, -, hcounts⟩ := hf
  rw [failRead, withCiu_ciu, reportCard_ciu]
  exact settleUnheld_ok ⟨htag, Nat.zero_le _, countsAfter_ok hcounts⟩ hid hw

theorem answerBusy_ciu_ok (hf : s.ciu.fieldsOk) (hid : s.ciu.identifier.isSome = true) (hw : s.ciu.write = none) :
    (answerBusy s).ciu.ok := by
  obtain ⟨htag, himage, hcounts⟩ := hf
  rw [answerBusy, withCiu_ciu, reportCard_ciu]
  exact settleUnheld_ok ⟨htag, himage, countsAfter_ok hcounts⟩ hid hw

theorem failRead_write (event : CardEventKind) (s : State) : (failRead event s).ciu.write = s.ciu.write := by
  rw [failRead, withCiu_ciu, reportCard_ciu]
  rfl

theorem answerBusy_write (s : State) : (answerBusy s).ciu.write = s.ciu.write := by
  rw [answerBusy, withCiu_ciu, reportCard_ciu]
  rfl

theorem failRead_ciu_ok_of_reading {event : CardEventKind} (hs : s.ciu.state = .reading) (h : s.ciu.ok) :
    (failRead event s).ciu.ok :=
  failRead_ciu_ok (Ciu.fields_ok h) (Ciu.identifier_isSome h (by simp [hs])) (Ciu.write_eq_none h (by simp [hs]))

theorem lineError_ciu_ok {event : CardEventKind} (h : s.ciu.ok) : (lineError event s).ciu.ok := by
  unfold lineError
  split
  next hs => exact failRead_ciu_ok_of_reading hs h
  next => exact reportCard_ciu_ok h

theorem lineError_write (event : CardEventKind) (s : State) : (lineError event s).ciu.write = s.ciu.write := by
  unfold lineError
  split
  · exact failRead_write event s
  · rw [reportCard_ciu]

/-! ### Reading -/

theorem completeRead_ciu_ok {image : List (List Byte)} (hf : s.ciu.fieldsOk) (hh : s.ciu.held = true)
    (hid : s.ciu.identifier.isSome = true) (hw : s.ciu.write = none) : (completeRead image s).ciu.ok := by
  simp only [completeRead]
  split
  · exact failRead_ciu_ok hf hid hw
  split
  · exact failRead_ciu_ok hf hid hw
  split
  · exact answerBusy_ciu_ok hf hid hw
  · rw [withCiu_ciu, addEntry_ciu, wake_ciu]
    exact Ciu.ok_queued hf rfl hh hid rfl hw

theorem completeRead_write (image : List (List Byte)) (s : State) : (completeRead image s).ciu.write = s.ciu.write := by
  simp only [completeRead]
  split
  · exact failRead_write _ s
  split
  · exact failRead_write _ s
  split
  · exact answerBusy_write s
  · rw [withCiu_ciu, addEntry_ciu, wake_ciu]

theorem block_ciu_ok {index : Byte} {data : List Byte} (h : s.ciu.ok) : (block index data s).ciu.ok := by
  unfold block
  split
  case isFalse => exact h
  next hs =>
    obtain ⟨htag, -, hcounts⟩ := Ciu.fields_ok h
    have hheld := Ciu.held_eq_true h (.inl hs)
    have hid := Ciu.identifier_isSome h (by simp [hs])
    have hwrite := Ciu.write_eq_none h (by simp [hs])
    simp only [takeBlock]
    split
    next hindex =>
      obtain ⟨hlen, hmost⟩ := hindex
      have hfields (timer : Option Nat) :
          ({ s.ciu with image := s.ciu.image ++ [data], readTimer := timer } : Ciu).fieldsOk :=
        ⟨htag, by simp only [List.length_append, List.length_singleton]; omega, hcounts⟩
      split
      · exact completeRead_ciu_ok (s := withCiu _ s) (hfields _) hheld hid hwrite
      next hshort =>
        have himage : (s.ciu.image ++ [data]).length ≤ 5 := by
          simp only [List.length_append, List.length_singleton]
          omega
        exact Ciu.ok_reading (hfields _) hs hheld hid himage hwrite
    next => exact failRead_ciu_ok_of_reading hs h

theorem block_write (index : Byte) (data : List Byte) (s : State) : (block index data s).ciu.write = s.ciu.write := by
  unfold block
  split
  case isFalse => rfl
  simp only [takeBlock]
  split
  · split
    · exact completeRead_write _ (withCiu _ s)
    · rfl
  · exact failRead_write _ s

theorem readTimerExpiry_ciu_ok (h : s.ciu.ok) : (readTimerExpiry s).ciu.ok := by
  unfold readTimerExpiry
  split
  next hdue =>
    simp only [Bool.and_eq_true, decide_eq_true_eq] at hdue
    exact failRead_ciu_ok_of_reading hdue.1 h
  next => exact h

theorem readTimerExpiry_write (s : State) : (readTimerExpiry s).ciu.write = s.ciu.write := by
  unfold readTimerExpiry
  split
  · exact failRead_write _ s
  · rfl

/-! ### A card comes -/

theorem cardUpAbsent_ciu_ok {identifier : List Byte} (hs : s.ciu.state = .absent) (h : s.ciu.ok) :
    (cardUpAbsent identifier s).ciu.ok := by
  obtain ⟨htag, himage, hcounts⟩ := Ciu.fields_ok h
  have hwrite := Ciu.write_eq_none h (by simp [hs])
  simp only [cardUpAbsent]
  split
  · exact Ciu.ok_reading ⟨Nat.mod_lt _ (by decide), Nat.zero_le _, hcounts⟩ rfl rfl rfl (Nat.zero_le _) hwrite
  · exact answerBusy_ciu_ok (s := withCiu _ s) ⟨htag, himage, hcounts⟩ rfl hwrite

theorem cardUpAbsent_write (identifier : List Byte) (s : State) :
    (cardUpAbsent identifier s).ciu.write = s.ciu.write := by
  simp only [cardUpAbsent]
  split
  · rfl
  · exact answerBusy_write (withCiu _ s)

/-! ### Frames that go out -/

theorem startTimer_ok {f : CardFrame} {now : Nat} {c : Ciu} (h : c.ok) : (startTimer f now c).ok := by
  obtain ⟨hfields, habsent, hheld, himage, hid, htimer, hwrite⟩ := (Ciu.ok_iff c).1 h
  unfold startTimer
  split
  · split
    next hs => exact (Ciu.ok_iff _).2 ⟨hfields, habsent, hheld, himage, hid, fun _ => hs.1, hwrite⟩
    next => exact h
  · split
    · exact (Ciu.ok_iff _).2 ⟨hfields, habsent, hheld, himage, hid, htimer, by simpa using hwrite⟩
    · exact h
  · exact h

theorem startTimer_owner (f : CardFrame) (now : Nat) (c : Ciu) :
    (startTimer f now c).write.map (·.owner) = c.write.map (·.owner) := by
  unfold startTimer
  split
  · split <;> rfl
  · split
    · cases c.write <;> rfl
    · rfl
  · rfl

theorem Ciu.ok_sending {c : Ciu} {frames : List CardFrame} (h : c.ok) : ({ c with sending := frames } : Ciu).ok := h

theorem cardFrameSent_ciu_ok (h : s.ciu.ok) : (cardFrameSent s).ciu.ok := by
  unfold cardFrameSent
  split
  · exact h
  · exact startTimer_ok (Ciu.ok_sending h)

theorem cardFrameSent_owner (s : State) : (cardFrameSent s).ciu.write.map (·.owner) = s.ciu.write.map (·.owner) := by
  unfold cardFrameSent
  split
  · rfl
  · exact startTimer_owner _ _ _

end

/-! ### The owner of the write -/

/-- The card unit is in order and the write in flight has its owner. -/
def CardOk (s : State) : Prop := s.ciu.ok ∧ writesOk s.ciu s.ven s.ctb

/-- The evaluation in hand. -/
def Engine.inHand : Engine → Option Evaluation
  | .idle => none
  | .checking ev _ => some ev
  | .judging ev => some ev

/-- A verdict of a card entry is in the engine only while none is parked (R58, R81). -/
def Ven.cardAlone (v : Ven) : Prop := ∀ ev, v.engine.inHand = some ev → ev.origin.isCard = true → v.parked = none

theorem writesOk_iff (c : Ciu) (v : Ven) (t : Ctb) :
    writesOk c v t ↔
      (c.write.map (·.owner) = some .parkedVerdict ↔ ∃ p, v.parked = some p ∧ p.completed = false) ∧
      (c.write.map (·.owner) = some .resolutionWrite ↔ t.resolution.isSome = true) ∧ v.cardAlone := by
  have hinHand (ev : Evaluation) :
      v.engine.inHand = some ev ↔ v.engine = .judging ev ∨ ∃ k, v.engine = .checking ev k := by
    cases v.engine <;> simp [Engine.inHand]
  simp only [writesOk, Option.map_eq_some_iff, Ven.cardAlone, hinHand]

section
variable {s t : State}

/-- What leaves the write's owner, the engine and the resolution entry keeps the owner. -/
theorem CardOk.of_owner (hok : t.ciu.ok) (ho : t.ciu.write.map (·.owner) = s.ciu.write.map (·.owner))
    (hv : t.ven = s.ven) (hr : t.ctb.resolution = s.ctb.resolution) (h : CardOk s) : CardOk t := by
  refine ⟨hok, (writesOk_iff _ _ _).2 ?_⟩
  rw [ho, hv, hr]
  exact (writesOk_iff _ _ _).1 h.2

theorem CardOk.of_write (hok : t.ciu.ok) (hw : t.ciu.write = s.ciu.write) (hv : t.ven = s.ven)
    (hr : t.ctb.resolution = s.ctb.resolution) (h : CardOk s) : CardOk t :=
  CardOk.of_owner hok (by rw [hw]) hv hr h

/-- Outside WRITING no verdict is parked that waits for its write, and there is no resolution write entry. -/
theorem CardOk.idle (h : CardOk s) (hs : s.ciu.state ≠ .writing) :
    (∀ p, s.ven.parked = some p → p.completed = true) ∧ s.ctb.resolution = none := by
  obtain ⟨hok, hwrites⟩ := h
  obtain ⟨hparked, hresolution, -⟩ := (writesOk_iff _ _ _).1 hwrites
  rw [Ciu.write_eq_none hok hs] at hparked hresolution
  refine ⟨fun p hp => ?_, by simpa using hresolution⟩
  refine Classical.byContradiction fun hnot => ?_
  simpa using hparked.2 ⟨p, hp, by simpa using hnot⟩

end

end Sys2Proof.Machine
end

section
/-! Writes start and end with their owner (R81 to R83, R125, R145, R146), and every command keeps the card unit in order. -/

namespace Sys2Proof.Machine

section
variable {s t : State}

/-! ### The engine and a parked verdict -/

/-- What is asked of an evaluation that comes into the engine: a card's comes only while no verdict is parked (R58). -/
def Evaluation.mayStand (ev : Evaluation) (v : Ven) : Prop := ev.origin.isCard = true → v.parked = none

theorem withEngine_cardOk {e : Engine} (he : ∀ ev, e.inHand = some ev → ev.mayStand s.ven) (h : CardOk s) :
    CardOk (withVen { s.ven with engine := e } s) := by
  obtain ⟨hok, hwrites⟩ := h
  obtain ⟨hparked, hresolution, -⟩ := (writesOk_iff _ _ _).1 hwrites
  exact ⟨hok, (writesOk_iff _ _ _).2 ⟨hparked, hresolution, he⟩⟩

theorem toIssue_cardOk {ev : Evaluation} (hev : ev.mayStand s.ven) (h : CardOk s) : CardOk (toIssue ev s) := by
  refine withEngine_cardOk (fun e he => ?_) h
  cases he
  exact hev

theorem sessionPresent_state {state : CardState} {session : Nat} {c : Ciu} (h : sessionPresent state session c = true) :
    c.state = state := by
  simp only [sessionPresent, Bool.and_eq_true, beq_iff_eq] at h
  exact h.2

/-- CONSUME starts a write for the verdict it parks (R81). -/
theorem parkAndWrite_cardOk {c : Credential} {counter : Counter} {session : Nat} {ev : Evaluation}
    (hp : sessionPresent .queued session s.ciu = true) (h : CardOk s) : CardOk (parkAndWrite c counter ev s) := by
  obtain ⟨-, hnone⟩ := h.idle (by simp [sessionPresent_state hp])
  refine ⟨startWrite_ok h.1 hp (by simp), (writesOk_iff _ _ _).2 ⟨?_, ?_, by simp [Ven.cardAlone, parkAndWrite, Engine.inHand]⟩⟩
  · exact iff_of_true rfl ⟨_, rfl, rfl⟩
  · exact iff_of_false (by simp [parkAndWrite, startWrite, sendCard]) (by simp [parkAndWrite, hnone])

theorem Consumed.cardOk {c : Credential} {ev : Evaluation} (hc : Consumed c ev s t) (hev : ev.mayStand s.ven)
    (h : CardOk s) : CardOk t := by
  cases hc with
  | reported => exact toIssue_cardOk hev h
  | taken => exact toIssue_cardOk (s := modifyRecord c.key Record.consume s) hev h
  | parked counter session r _ hp => exact parkAndWrite_cardOk hp h

theorem screenStage_origin (c : Credential) (s : State) (ev : Evaluation) :
    (screenStage c s ev).origin = ev.origin := by
  obtain ⟨fs, hfs⟩ := screenStage_onlyFindings c s ev
  rw [hfs]

theorem afterCheck_cardOk {c : Credential} {ev : Evaluation} (hc : ev.credential.isSome = true)
    (hev : ev.mayStand s.ven) (h : CardOk s) : CardOk (afterCheck c ev s) := by
  have hscreened (trust : Trust) : (screenStage c s { ev with trust := trust }).mayStand s.ven := by
    rw [Evaluation.mayStand, screenStage_origin]
    exact hev
  unfold afterCheck
  simp only
  split
  · exact toIssue_cardOk (hscreened _) h
  have hcred : (screenStage c s { ev with trust := .trusted }).credential.isSome = true := by
    rwa [screenStage_credential]
  obtain ⟨ev', -, horigin, hconsumed⟩ := trustedStages_consumed (c := c) (s := s) hcred
  rw [judged_state] at hconsumed
  refine hconsumed.cardOk ?_ h
  rw [Evaluation.mayStand, horigin]
  exact hscreened _

theorem checkComplete_cardOk (h : CardOk s) : CardOk (checkComplete s) := by
  obtain ⟨-, -, halone⟩ := (writesOk_iff _ _ _).1 h.2
  unfold checkComplete
  split
  case h_2 => exact h
  next ev check he =>
    unfold finishCheck
    split
    case h_2 => exact h
    next c hc =>
      obtain ⟨fs, hraise⟩ := Evaluation.raiseIf_onlyFindings (!check.matches) .checkMismatch ev
      have hev : ev.mayStand s.ven := halone ev (by simp [he, Engine.inHand])
      exact afterCheck_cardOk (by simp [hraise, hc]) (by rw [hraise]; exact hev) h

theorem startCheck_cardOk {c : Credential} {ev : Evaluation} (hc : ev.credential.isSome = true)
    (hev : ev.mayStand s.ven) (h : CardOk s) : CardOk (startCheck c ev s) := by
  have hraised (f : Finding) : (ev.raise f).credential.isSome = true ∧ (ev.raise f).mayStand s.ven := by
    obtain ⟨fs, hraise⟩ := Evaluation.raise_onlyFindings f ev
    rw [hraise]
    exact ⟨hc, hev⟩
  have hchecking (e : Evaluation) (check : CheckInFlight) (he : e.mayStand s.ven) :
      CardOk (withVen { s.ven with engine := .checking e check } s) := by
    refine withEngine_cardOk (fun e' he' => ?_) h
    cases he'
    exact he
  unfold startCheck
  split
  · exact afterCheck_cardOk (hraised _).1 (hraised _).2 h
  split
  · exact afterCheck_cardOk (hraised _).1 (hraised _).2 h
  · exact hchecking _ _ (hraised _).2
  · exact hchecking _ _ hev

theorem startEvaluation_cardOk {ev : Evaluation} (hev : ev.mayStand s.ven) (h : CardOk s) :
    CardOk (startEvaluation ev s) := by
  unfold startEvaluation
  split
  · exact toIssue_cardOk hev h
  · exact startCheck_cardOk rfl hev h

theorem CardOk.congr (hc : t.ciu = s.ciu) (hv : t.ven = s.ven) (hr : t.ctb.resolution = s.ctb.resolution)
    (h : CardOk s) : CardOk t :=
  CardOk.of_write (hc ▸ h.1) (by rw [hc]) hv hr h

theorem engineTake_cardOk (h : CardOk s) : CardOk (engineTake s) := by
  unfold engineTake
  split
  case h_2 => exact h
  next e rest j _ _ =>
    split
    case isFalse => exact h
    next hc =>
      have hhead : headTakable e s.ven = true := (Bool.and_eq_true_iff.1 hc).2
      refine startEvaluation_cardOk (fun hcard => ?_) (h.congr (by simp) (by simp) (by simp))
      have hcard' : e.origin.isCard = true := hcard
      simpa [headTakable, hcard'] using hhead

/-! ### ISSUE (R84) -/

theorem openCase_resolution (c : Credential) (ev : Evaluation) (s : State) :
    (openCase c ev s).1.ctb.resolution = s.ctb.resolution := by
  unfold openCase
  split
  · simp only
    split <;> rfl
  · rfl

theorem issueVerdict_cardOk {ev : Evaluation} (h : CardOk s) : CardOk (issueVerdict ev s) := by
  have hresolution : (openForAction ev s).1.ctb.resolution = s.ctb.resolution := by
    unfold openForAction
    split
    · exact openCase_resolution _ ev s
    · rfl
  unfold issueVerdict releaseCard
  simp only
  split
  · exact h.congr (by simp) (by simp) (by simpa using hresolution)
  next counter session _ =>
    refine CardOk.of_write ?_ ?_ (by simp) (by simpa using hresolution) h
    · simpa using releaseAtIssue_ok h.1
    · unfold releaseAtIssue
      split
      · simp [sendCard]
      · simp

theorem issue_cardOk {ofParked : Bool} (h : CardOk s) : CardOk (issue ofParked s) := by
  unfold issue
  split
  · exact h
  split
  · split
    case h_2 => exact h
    next p hp =>
      split
      case isFalse => exact h
      next hcompleted =>
        obtain ⟨hok, hwrites⟩ := issueVerdict_cardOk (ev := p.ev) h
        obtain ⟨hparked, hresolution, -⟩ := (writesOk_iff _ _ _).1 hwrites
        refine ⟨hok, (writesOk_iff _ _ _).2 ⟨?_, hresolution, fun _ _ _ => rfl⟩⟩
        rw [issueVerdict_ven] at hparked
        refine iff_of_false (fun hw => ?_) (by simp)
        obtain ⟨q, hq, hnot⟩ := hparked.1 hw
        obtain rfl : p = q := Option.some.inj (hp.symm.trans hq)
        simp [hcompleted] at hnot
  · split
    case h_2 => exact h
    next ev _ => exact withEngine_cardOk (e := .idle) (by simp [Engine.inHand]) (issueVerdict_cardOk h)

/-! ### The end of a write (R83, R125, R146) -/

theorem endParkedWrite_ven {done : Bool} {p : Parked} (hp : s.ven.parked = some p) :
    ∃ ev, (endParkedWrite done s).1.ven = { s.ven with parked := some { ev := ev, completed := true } } := by
  refine ⟨parkedAfterWrite done s.ven p.ev, ?_⟩
  unfold endParkedWrite
  simp only [hp, withVen_ven]
  split <;> rfl

theorem endResolutionWrite_resolution (done : Bool) (s : State) :
    (endResolutionWrite done s).1.ctb.resolution = none := by
  unfold endResolutionWrite
  split
  · rfl
  next h => exact h

/-- The card unit once the write in flight has ended: SETTLED, or ABSENT when the card has left (R146). -/
def Ciu.writeEnded (outcome : ReleaseOutcome) (down : Bool) (c : Ciu) : Ciu :=
  if down then leaveField (sendCard (.release outcome) { c with write := none, state := .settled })
  else sendCard (.release outcome) { c with write := none, state := .settled }

theorem Ciu.writeEnded_write (outcome : ReleaseOutcome) (down : Bool) (c : Ciu) :
    (c.writeEnded outcome down).write = none := by
  unfold Ciu.writeEnded
  split <;> rfl

theorem Ciu.writeEnded_ok {c : Ciu} {outcome : ReleaseOutcome} {down : Bool} (h : c.ok) (hs : c.state = .writing) :
    (c.writeEnded outcome down).ok := by
  have hfields := Ciu.fields_ok h
  have hid := Ciu.identifier_isSome h (by simp [hs])
  have htimer := Ciu.readTimer_eq_none h (by simp [hs])
  unfold Ciu.writeEnded
  split
  · exact leaveField_ok hfields htimer rfl
  · exact Ciu.ok_settled hfields rfl hid htimer rfl

theorem endWrite_parkedVerdict {done down : Bool} {w : WriteRecord} (hw : s.ciu.write = some w)
    (ho : w.owner = .parkedVerdict) :
    endWrite done down s = withCiu (s.ciu.writeEnded (endParkedWrite done s).2 down) (endParkedWrite done s).1 := by
  unfold endWrite
  simp only [hw, ho, endParkedWrite_ciu]
  rfl

theorem endWrite_resolutionWrite {done down : Bool} {w : WriteRecord} (hw : s.ciu.write = some w)
    (ho : w.owner = .resolutionWrite) :
    endWrite done down s =
      withCiu (s.ciu.writeEnded (endResolutionWrite done s).2 down) (endResolutionWrite done s).1 := by
  unfold endWrite
  simp only [hw, ho, endResolutionWrite_ciu]
  rfl

theorem endWrite_cardOk {done down : Bool} (h : CardOk s) : CardOk (endWrite done down s) := by
  obtain ⟨hok, hwrites⟩ := id h
  obtain ⟨hparked, hresolution, halone⟩ := (writesOk_iff _ _ _).1 hwrites
  cases hw : s.ciu.write with
  | none => rwa [endWrite, hw]
  | some w =>
    obtain ⟨-, -, -, -, -, -, hstate⟩ := (Ciu.ok_iff _).1 hok
    have hwriting : s.ciu.state = .writing := hstate.1 (by simp [hw])
    cases ho : w.owner with
    | parkedVerdict =>
      obtain ⟨p, hp, -⟩ := hparked.1 (by simp [hw, ho])
      obtain ⟨ev, hven⟩ := endParkedWrite_ven (done := done) hp
      have hnone : s.ctb.resolution = none := by
        refine Classical.byContradiction fun hsome => ?_
        simpa [hw, ho] using hresolution.2 (Option.isSome_iff_ne_none.2 hsome)
      rw [endWrite_parkedVerdict hw ho]
      refine ⟨Ciu.writeEnded_ok hok hwriting, (writesOk_iff _ _ _).2 ⟨?_, ?_, ?_⟩⟩
      · simp [Ciu.writeEnded_write, hven]
      · simp [Ciu.writeEnded_write, hnone]
      · intro e he hcard
        simp [halone e (by simpa [hven] using he) hcard] at hp
    | resolutionWrite =>
      have huncompleted : ¬ ∃ p, s.ven.parked = some p ∧ p.completed = false := fun hp => by
        simpa [hw, ho] using hparked.2 hp
      rw [endWrite_resolutionWrite hw ho]
      refine ⟨Ciu.writeEnded_ok hok hwriting, (writesOk_iff _ _ _).2 ⟨?_, ?_, ?_⟩⟩
      · simpa [Ciu.writeEnded_write] using huncompleted
      · simp [Ciu.writeEnded_write, endResolutionWrite_resolution]
      · simpa using halone

/-! ### The card comes and goes (R136, R137, R142) -/

theorem endWrite_state (done : Bool) (hw : s.ciu.write.isSome = true) : (endWrite done true s).ciu.state = .absent := by
  unfold endWrite
  split
  next hnone => simp [hnone] at hw
  · rfl

theorem cardDown_state (h : s.ciu.ok) : (cardDown s).ciu.state = .absent := by
  unfold cardDown
  split
  next hs => exact hs
  · rfl
  · rfl
  next hs =>
    obtain ⟨-, -, -, -, -, -, hwrite⟩ := (Ciu.ok_iff _).1 h
    exact endWrite_state false (hwrite.2 hs)
  · rfl

theorem cardDown_cardOk (h : CardOk s) : CardOk (cardDown s) := by
  have hok := h.1
  unfold cardDown
  split
  next => exact h
  next hs =>
    obtain ⟨htag, -, hcounts⟩ := Ciu.fields_ok hok
    refine CardOk.of_write ?_ ?_ (by simp) (by simp) h
    · rw [withCiu_ciu, reportCard_ciu]
      have hwrite := Ciu.write_eq_none hok (by simp [hs])
      exact leaveField_ok ⟨htag, Nat.zero_le _, countsAfter_ok hcounts⟩ rfl hwrite
    · rw [withCiu_ciu, reportCard_ciu]
      rfl
  next hs =>
    have htimer := Ciu.readTimer_eq_none hok (by simp [hs])
    have hwrite := Ciu.write_eq_none hok (by simp [hs])
    exact CardOk.of_write (s := s) (leaveField_ok (Ciu.fields_ok hok) htimer hwrite) rfl rfl rfl h
  next => exact endWrite_cardOk h
  next hs =>
    have htimer := Ciu.readTimer_eq_none hok (by simp [hs])
    have hwrite := Ciu.write_eq_none hok (by simp [hs])
    exact CardOk.of_write (s := s) (leaveField_ok (Ciu.fields_ok hok) htimer hwrite) rfl rfl rfl h

theorem cardUp_cardOk {identifier : List Byte} (h : CardOk s) : CardOk (cardUp identifier s) := by
  have hdown := cardDown_cardOk h
  exact CardOk.of_write (cardUpAbsent_ciu_ok (cardDown_state h.1) hdown.1) (cardUpAbsent_write identifier _)
    (by simp [cardUp]) (by simp [cardUp]) hdown

theorem written_cardOk {result : WriteResult} (h : CardOk s) : CardOk (written result s) := by
  unfold written
  split
  · exact endWrite_cardOk h
  · exact h

theorem writeTimerExpiry_cardOk (h : CardOk s) : CardOk (writeTimerExpiry s) := by
  unfold writeTimerExpiry
  split
  · exact endWrite_cardOk h
  · exact h

/-! ### Decisions and the close of cases -/

theorem startResolutionWrite_cardOk {c : Case} {counter : Counter} {current session : Nat}
    (hp : sessionPresent .settled session s.ciu = true) (h : CardOk s) :
    CardOk (startResolutionWrite c counter current s) := by
  obtain ⟨hcompleted, -⟩ := h.idle (by simp [sessionPresent_state hp])
  obtain ⟨-, -, halone⟩ := (writesOk_iff _ _ _).1 h.2
  refine ⟨startWrite_ok h.1 hp (by simp), (writesOk_iff _ _ _).2 ⟨?_, ?_, halone⟩⟩
  · refine iff_of_false (by simp [startResolutionWrite, startWrite, sendCard]) ?_
    rintro ⟨p, hparked, hnot⟩
    simp [hcompleted p hparked] at hnot
  · exact iff_of_true rfl rfl

theorem takeCaseRide_cardOk {c : Case} (h : CardOk s) : CardOk (takeCaseRide c s).1 := by
  unfold takeCaseRide
  split
  · exact h
  split
  · exact h
  split
  · exact h
  · exact h
  · exact h
  split
  · exact h
  split
  · exact h
  · split
    next hp => exact startResolutionWrite_cardOk hp h
    next => exact h
  · exact h

theorem decisionEffects_cardOk {d : CaseOutcome} {c : Case} (h : CardOk s) : CardOk (decisionEffects d c s).1 := by
  unfold decisionEffects
  split
  · exact takeCaseRide_cardOk h
  · split
    · exact takeCaseRide_cardOk (s := modifyRecord _ _ s) h
    · exact takeCaseRide_cardOk h
  · exact h

theorem closeCase_resolution (o : CaseOutcome) (r : RideOutcome) (n : Option Nat) (c : Case) (s : State) :
    (closeCase o r n c s).ctb.resolution = s.ctb.resolution := by
  rw [closeCase]
  rcases queueCaseClosed_ctb (closedOf o r n c) (journal (caseEndRecord (closedOf o r n c)) (detachCase c s))
    with he | he <;> simp only [he, journal_ctb, detachCase_ctb]

theorem timeOutCases_resolution (s : State) : (timeOutCases s).ctb.resolution = s.ctb.resolution :=
  List.foldlRecOn (motive := fun t : State => t.ctb.resolution = s.ctb.resolution) _ _ rfl fun t ht c _ =>
    (closeCase_resolution .timedOut .none c.rides c t).trans ht

theorem closeCompletion_resolution (s : State) : (closeCompletion s).ctb.resolution = s.ctb.resolution := by
  have hcases : (s.ctb.cases.foldl completeCase s).ctb.resolution = s.ctb.resolution :=
    List.foldlRecOn (motive := fun t : State => t.ctb.resolution = s.ctb.resolution) _ _ rfl fun t ht c _ => by
      rw [completeCase_ctb]
      exact ht
  unfold closeCompletion
  split
  case h_2 => rfl
  split
  · simpa [completeClose] using hcases
  · rfl

theorem caseClosedQueued_resolution (s : State) : (caseClosedQueued s).ctb.resolution = s.ctb.resolution := by
  unfold caseClosedQueued
  split
  · rfl
  · split <;> rfl

end

/-! ### Every command -/

/-- A command that leaves the card unit and the engine leaves the resolution write entry too. -/
theorem effect_resolution {c : Instr} (hc : reachesCard c = false) (he : reachesEngine c = false) (s : State) :
    (effect c s).ctb.resolution = s.ctb.resolution := by
  by_cases hreach : reachesCases c = false
  · rw [effect_ctb s hreach]
  have request {kind : Nat} {P : State → State → Prop} {handle : List Byte → State → Answer}
      (hh : Handles kind P handle) (hp : ∀ u t, P u t → t.ctb.resolution = u.ctb.resolution) :
      (takeRequest kind handle s).ctb.resolution = s.ctb.resolution :=
    takeRequest_preserves (Q := fun t => t.ctb.resolution = s.ctb.resolution) hh (fun _ _ h => h)
      (fun u t ht h => (hp u t ht).trans h) rfl
  have running {f : State → State} (hf : (f s).ctb.resolution = s.ctb.resolution) :
      (whenRunning f s).ctb.resolution = s.ctb.resolution :=
    whenRunning_keeps (P := fun t => t.ctb.resolution = s.ctb.resolution) (fun _ => hf) rfl
  cases c <;> try exact absurd rfl hreach
  case clockSet =>
    refine request handles_clockSet ?_
    rintro u _ ⟨seconds, millis, -, -, rfl⟩
    exact timeOutCases_resolution (withJcu { u.jcu with clock := u.jcu.clock.setTo seconds millis } u)
  case closeCompletion => exact running (closeCompletion_resolution s)
  case caseDeadlineReached => exact running (timeOutCases_resolution s)
  case caseClosedQueued => exact running (caseClosedQueued_resolution s)
  case caseQuote => exact request handles_caseQuote (by rintro u _ ⟨serial, q, rfl⟩; rfl)
  case caseTimeout => exact request handles_caseTimeout (by rintro u _ ⟨minutes, -, -, rfl⟩; rfl)
  all_goals cases hc

theorem effect_cardOk (c : Instr) {s : State} (h : CardOk s) : CardOk (effect c s) := by
  by_cases hreach : reachesCard c = false ∧ reachesEngine c = false
  · obtain ⟨hc, he⟩ := hreach
    exact h.congr (effect_ciu s hc) (effect_ven s he) (effect_resolution hc he s)
  have request {kind : Nat} {P : State → State → Prop} {handle : List Byte → State → Answer}
      (hh : Handles kind P handle) (hp : ∀ s t, P s t → CardOk s → CardOk t) : CardOk (takeRequest kind handle s) :=
    takeRequest_preserves hh (fun _ _ h => h) hp h
  have running {f : State → State} (hf : ∀ s, CardOk s → CardOk (f s)) : CardOk (whenRunning f s) :=
    whenRunning_keeps (P := CardOk) (hf s) h
  have hgap (waits : Bool) (s : State) (h : CardOk s) : CardOk (setAwaitsGap waits s) := h
  have herror (event : CardEventKind) (s : State) (h : CardOk s) : CardOk (lineError event s) :=
    CardOk.of_write (lineError_ciu_ok h.1) (lineError_write event s) (by simp) (by simp) h
  have received {own : CardReceived → State → State} {idle : Bool} {frame : List Byte}
      (hown : ∀ r s, CardOk s → CardOk (own r s)) : CardOk (whenRunning (receiveFrame own idle frame) s) :=
    receiveFrame_keeps (Q := CardOk) (hgap false) (herror .check) (fun r s _ => hown r s) h
  cases c <;> try exact absurd ⟨rfl, rfl⟩ hreach
  case powerOn | resetNLow | resetNHigh =>
    exact hardResets_keeps (Q := CardOk) rfl (fun _ _ _ _ _ _ => ⟨Ciu.reset_ok, writesOk_reset⟩) h
  case reset =>
    refine request handles_reset ?_
    rintro s _ rfl ⟨hok, -⟩
    obtain ⟨htag, -, hcounts⟩ := Ciu.fields_ok hok
    refine ⟨Ciu.ok_absent ⟨htag, Nat.zero_le _, hcounts⟩ rfl rfl rfl rfl rfl, (writesOk_iff _ _ _).2 ⟨?_, ?_, ?_⟩⟩
    · simp [answerReset, okReply, startNotice, softReset, Ciu.softReset, Ven.softReset]
    · simp [answerReset, okReply, startNotice, softReset, Ciu.softReset, Ctb.softReset]
    · simp [Ven.cardAlone, Engine.inHand, answerReset, okReply, startNotice, softReset, Ven.softReset]
  -- the engine
  case engineTake => exact running fun _ h => engineTake_cardOk h
  case checkComplete => exact running fun _ h => checkComplete_cardOk h
  case issue ofParked => exact running fun _ h => issue_cardOk h
  case areaSet => exact request handles_areaSet (by rintro s _ ⟨area, entry, -, rfl⟩ h; exact h)
  case acceptMap => exact request handles_acceptMap (by rintro s _ ⟨area, accept, -, rfl⟩ h; exact h)
  case classSet => exact request handles_classSet (by rintro s _ ⟨m1, -, -, rfl⟩ h; exact h)
  case policySet =>
    refine request handles_policySet ?_
    rintro s _ ⟨f, p, rfl⟩ h
    unfold Ven.setPolicy
    split <;> exact h
  -- the cases
  case caseResolve =>
    refine request handles_caseResolve ?_
    rintro s _ ⟨serial, c, d, -, -, rfl⟩ h
    have heffects := decisionEffects_cardOk (d := d) (c := c) h
    exact heffects.congr (by simp) (by simp) (closeCase_resolution _ _ _ _ _)
  -- the card line
  case cardOptions => exact request handles_cardOptions (by rintro s _ ⟨quiet, rfl⟩ h; exact h)
  case cardUp idle frame =>
    refine received ?_
    rintro (identifier | _ | _ | _) s h
    · exact cardUp_cardOk h
    all_goals exact h
  case block idle frame =>
    refine received ?_
    rintro (_ | ⟨index, data⟩ | _ | _) s h
    case block =>
      exact CardOk.of_write (t := block index data s) (block_ciu_ok h.1) (block_write index data s) (by simp) (by simp) h
    all_goals exact h
  case cardDown idle frame =>
    refine received ?_
    rintro (_ | _ | _ | _) s h
    case cardDown => exact cardDown_cardOk h
    all_goals exact h
  case written idle frame =>
    refine received ?_
    rintro (_ | _ | _ | result) s h
    case written => exact written_cardOk h
    all_goals exact h
  case writeTimerExpiry => exact running fun _ h => writeTimerExpiry_cardOk h
  case readTimerExpiry =>
    exact running fun s h => CardOk.of_write (readTimerExpiry_ciu_ok h.1) (readTimerExpiry_write s) (by simp) (by simp) h
  case cardCheckError idle frame => exact received fun _ _ h => h
  case cardFrameCutShort idle =>
    refine running fun s h => ?_
    unfold frameCutShort
    split
    · exact herror .check _ (hgap false s h)
    · exact hgap false s h
  case cardFramingError => exact running fun s h => hgap true _ (herror .framing s h)
  case cardFrameSent =>
    refine running fun s h => CardOk.of_owner (cardFrameSent_ciu_ok h.1) (cardFrameSent_owner s) ?_ ?_ h
    · unfold cardFrameSent
      split <;> rfl
    · unfold cardFrameSent
      split <;> rfl

/-- Settles O58: every command keeps both, and a step is a command or nothing. -/
theorem cardAndWritesStayInOrder : Obligations.CardAndWritesStayInOrder := fun _ _ h hciu hwrites =>
  step_keeps (Q := CardOk) (fun c _ => effect_cardOk c) (fun _ _ h => h) h ⟨hciu, hwrites⟩

end Sys2Proof.Machine
end

section
/-! Requests in general (R157, R158): when a request is taken, what it is answered, and what its answer leaves. -/

namespace Sys2Proof.Machine

/-! ### The kinds of requests -/

theorem isRequestKind_iff (k : Byte) : isRequestKind k.toNat = true ↔ ∃ c, (k, c) ∈ requestKinds := by
  have hkinds : ∀ k : Byte, isRequestKind k.toNat = true ↔ k ∈ requestKinds.map Prod.fst := by decide
  rw [hkinds, List.mem_map]
  exact ⟨fun ⟨⟨_, c⟩, hmem, rfl⟩ => ⟨c, hmem⟩, fun ⟨c, hmem⟩ => ⟨(k, c), hmem, rfl⟩⟩

theorem kind_of_reset {k : Byte} (h : (k, .reset) ∈ requestKinds) : k = 0x03 := by
  have hrows : ∀ p ∈ requestKinds, (requestOf p.2).map Prod.fst = some p.1.toNat := by decide
  exact BitVec.eq_of_toNat_eq (Option.some.inj (hrows _ h)).symm

theorem sizeOk_of_mem_requestRows {k : Byte} {size : Nat} {c : Instr} (h : (k, size, c) ∈ requestRows)
    (body : List Byte) : sizeOk k.toNat body = (size == body.length) := by
  have hrows : ∀ r ∈ requestRows, r.1.toNat ≠ presentKind ∧ r.1.toNat ≠ routeStopsKind ∧
      fixedSizes.lookup r.1.toNat = some r.2.1 := by decide
  obtain ⟨hpresent, hstops, hsize⟩ := hrows _ h
  simp only at hpresent hstops hsize
  simp only [sizeOk, if_neg hpresent, if_neg hstops, hsize]
  rfl

theorem replyKind_eq (k : Byte) : BitVec.ofNat 8 (k.toNat + 0x40) = k + 0x40 := by
  apply BitVec.eq_of_toNat_eq
  simp [BitVec.toNat_add]

/-! ### The turn of a request (R157) -/

/-- What keeps a request from its turn, whatever its kind: STANDBY, no free slot, or a notice that waits. -/
theorem canTakeRequest_eq_false {l : Lif} (h : l.power = .standby ∨ freeSlots l = 0 ∨ l.waiting ≠ []) :
    canTakeRequest l = false := by
  rw [← Bool.not_eq_true, canTakeRequest_iff]
  rintro ⟨hpower, hfree, hwaiting⟩
  rcases h with h | h | h
  · simp [hpower] at h
  · omega
  · exact h hwaiting

theorem effect_idle {k : Byte} {c : Instr} {s : State} (hc : (k, c) ∈ requestKinds)
    (h : s.lif.requests = [] ∨ (∃ f more, s.lif.requests = f :: more ∧ f.kind ≠ k) ∨ s.lif.power = .standby ∨
      freeSlots s.lif = 0 ∨ s.lif.waiting ≠ []) : effect c s = s := by
  obtain ⟨handle, hreq⟩ := requestOf_of_mem_requestKinds hc
  rw [effect_request hreq]
  rcases h with h | ⟨f, more, h, hkind⟩ | h
  · exact takeRequest_idle (.inr (.inr (.inl h)))
  · exact takeRequest_idle (.inr (.inr (.inr ⟨f, more, h, fun he => hkind (BitVec.eq_of_toNat_eq he)⟩)))
  · exact takeRequest_idle (.inr (.inl (canTakeRequest_eq_false h)))

/-- The take of a frame of no request kind, by the frame at the head of the buffer (R158). -/
theorem effect_unknownRequest_idle {s : State}
    (h : s.lif.requests = [] ∨ (∃ f more c, s.lif.requests = f :: more ∧ (f.kind, c) ∈ requestKinds) ∨
      s.lif.power = .standby ∨ freeSlots s.lif = 0 ∨ s.lif.waiting ≠ []) : effect .unknownRequest s = s := by
  refine whenRunning_keeps (P := fun t => t = s) (fun _ => ?_) rfl
  rcases takeFrame_cases (fun frame => !isRequestKind frame.kind.toNat)
    (fun frame s => (s, .reply 0x7F#8 frame.tag (u8 Status.unknown.code))) s with he | ⟨frame, rest, hq, hwanted, hcan, -⟩
  · exact he
  rcases h with h | ⟨f, more, c, h, hc⟩ | h
  · simp [hq] at h
  · obtain ⟨rfl, rfl⟩ := List.cons.inj (hq.symm.trans h)
    simp [(isRequestKind_iff _).2 ⟨c, hc⟩] at hwanted
  · simp [canTakeRequest_eq_false h] at hcan

/-- Settles O5: a request whose turn it is not leaves the block as it is. -/
theorem requestsWaitTheirTurn : Obligations.RequestsWaitTheirTurn :=
  ⟨fun _ c s hc h => (exec_eq_effect c s).trans (congrArg _ (effect_idle hc h)),
    fun s h => (exec_eq_effect .unknownRequest s).trans (congrArg _ (effect_unknownRequest_idle h))⟩

/-! ### Requests that are not well formed (R158) -/

section
variable {k tag : Byte} {body : List Byte} {rest : List RequestFrame} {s : State}

theorem effect_wrongSize {c : Instr} (hc : (k, c) ∈ requestKinds) (hr : Ready k tag body rest s)
    (hs : sizeOk k.toNat body = false) : effect c s = s.answered (k + 0x40) tag [3] rest := by
  obtain ⟨handle, hreq⟩ := requestOf_of_mem_requestKinds hc
  rw [effect_request hreq, takeRequest_wrongSize hr rfl hs, replyKind_eq]

theorem exec_wrongSize {c : Instr} (hc : (k, c) ∈ requestKinds) (hr : Ready k tag body rest s)
    (hs : sizeOk k.toNat body = false) : exec c s = .next (s.answered (k + 0x40) tag [3] rest) :=
  (exec_eq_effect c s).trans (congrArg _ (effect_wrongSize hc hr hs))

theorem effect_unknownRequest (hr : Ready k tag body rest s) (hk : ∀ c, (k, c) ∉ requestKinds) :
    effect .unknownRequest s = s.answered 0x7F tag [6] rest := by
  have hunknown : isRequestKind k.toNat = false := by
    rw [← Bool.not_eq_true, isRequestKind_iff]
    exact fun ⟨c, hc⟩ => hk c hc
  obtain ⟨hn, hq, hp, hf, hw, hres⟩ := hr
  have hcan : canTakeRequest s.lif = true := canTakeRequest_iff.2 ⟨hp, hf, hw⟩
  change whenRunning (takeFrame _ _) s = _
  rw [whenRunning, if_pos hn]
  simp only [takeFrame, hq, hunknown, hcan, Bool.not_false, Bool.and_self, if_true]
  exact fillReply_reserveSlot (k := 0x7F) (tag := tag) (reply := [6]) hres

/-- Settles O6: by the sizes of the table, of PRESENT and of ROUTE-STOPS, and by the kinds of the table. -/
theorem malformedRequestsRefused : Obligations.MalformedRequestsRefused := by
  refine ⟨fun k tag size c body rest s hrow hr hlen => ?_, fun tag body rest s hr hlen => ?_,
    fun tag first count stops rest s hr hlen => ?_, fun tag body rest s hr hlen => ?_, fun k tag body rest s hr hk => ?_⟩
  · refine exec_wrongSize (List.mem_append_left _ (List.mem_map.2 ⟨_, hrow, rfl⟩)) hr ?_
    simpa [sizeOk_of_mem_requestRows hrow] using Ne.symm hlen
  · refine exec_wrongSize (by decide) hr ?_
    simp [sizeOk, presentKind]
    omega
  · refine exec_wrongSize (by decide) hr ?_
    simp [sizeOk, presentKind, routeStopsKind, fieldAt, beNat]
    omega
  · refine exec_wrongSize (by decide) hr ?_
    simp [sizeOk, presentKind, routeStopsKind]
    omega
  · exact (exec_eq_effect _ s).trans (congrArg _ (effect_unknownRequest hr hk))

/-! ### The answer to a ready request (R157, R158) -/

/-- What the handling of a request leaves of the requests and the queue: its notices stand behind what was queued. -/
def Lif.Queues (l l' : Lif) : Prop :=
  l'.requests = l.requests ∧ ∃ ns : List Notice, l'.outbound = l.outbound ++ ns.map (fun n => .frame (.notice n))

theorem handles_queues {c : Instr} {kind : Nat} {handle : List Byte → State → Answer}
    (hc : requestOf c = some (kind, handle)) (hreset : c ≠ .reset) :
    Handles kind (fun s t => s.lif.Queues t.lif) handle := by
  by_cases hstandby : c = .standby
  · subst hstandby
    cases hc
    exact handles_standby.imp (by rintro s _ ⟨-, rfl⟩; exact ⟨rfl, [], by simp⟩)
  · exact (handles_sends hc hstandby hreset).imp fun _ _ h => ⟨h.requests, h.outbound⟩

/-- A request whose handling leaves the queue in front of its notices is refused, and nothing else has changed, or is
answered OK, with its notices behind. -/
theorem Handles.answered {handle : List Byte → State → Answer}
    (hh : Handles k.toNat (fun s t => s.lif.Queues t.lif) handle) (hr : Ready k tag body rest s) :
    (∃ status more, status ≠ 0 ∧ takeRequest k.toNat handle s = s.answered (k + 0x40) tag (status :: more) rest) ∨
      ∃ fields, ∃ ns : List Notice, (takeRequest k.toNat handle s).lif.requests = rest ∧
        (takeRequest k.toNat handle s).lif.outbound =
          s.lif.outbound ++ .frame (.reply (k + 0x40) tag (0 :: fields)) :: ns.map (fun n => .frame (.notice n)) := by
  cases hs : sizeOk k.toNat body with
  | false => exact .inl ⟨3, [], by decide, by rw [takeRequest_wrongSize hr rfl hs, replyKind_eq]⟩
  | true =>
    have hans := hh body (reserveSlot rest s) hs
    generalize ha : handle body (reserveSlot rest s) = a at hans
    cases hans with
    | refused status more hne => exact .inl ⟨status, more, hne, by rw [takeRequest_quiet hr rfl hs ha rfl, replyKind_eq]⟩
    | taken fields t ht =>
      obtain ⟨hrequests, ns, hout⟩ := ht
      refine .inr ⟨fields, ns, ?_⟩
      rw [takeRequest_okReply hr rfl hs ha, replyKind_eq]
      refine ⟨hrequests, ?_⟩
      have hfront : t.lif.outbound = s.lif.outbound ++ .reserved :: ns.map (fun n => .frame (.notice n)) := by
        rw [hout, reserveSlot, withLif_lif, List.append_assoc]
        rfl
      simp only [fillReply, withLif_lif, fill, hfront, placeReply_reserved hr.noReservedSlot]

/-- Settles O7: every handling but that of RESET refuses, or queues its notices behind the reply. -/
theorem refusalsChangeNothing : Obligations.RefusalsChangeNothing := by
  intro k tag c body rest s hc hk hr
  obtain ⟨handle, hreq⟩ := requestOf_of_mem_requestKinds hc
  have hreset : c ≠ .reset := fun he => hk (kind_of_reset (he ▸ hc))
  refine ⟨effect c s, exec_eq_effect c s, ?_⟩
  rw [effect_request hreq]
  rcases (handles_queues hreq hreset).answered hr with ⟨status, more, hne, he⟩ | ⟨fields, ns, hrequests, hout⟩
  · exact ⟨by rw [he]; rfl, .inl ⟨status, more, hne, he⟩⟩
  · refine ⟨hrequests, .inr ⟨fields, _, hout, fun n hn => ?_⟩⟩
    obtain ⟨m, -, rfl⟩ := List.mem_map.1 hn
    exact ⟨m, rfl⟩

end

end Sys2Proof.Machine
end

section
/-! The answers of the requests as commands, and the fields that their bodies give (R157, R158, R185); the requests that one
setting answers (R31, R32, R91, R106, R126, R149, R182). -/

namespace Sys2Proof.Machine

/-! ### Fields of a body -/

section
variable {n : Nat} (y : List Byte)

theorem fieldAt_u16_append (h : n < 65536) : fieldAt (u16 n ++ y) 0 2 = n := by
  rw [fieldAt_first y (u16_length n), beNat_u16, Nat.mod_eq_of_lt h]

theorem fieldAt_u32_append (h : n < 4294967296) : fieldAt (u32 n ++ y) 0 4 = n := by
  rw [fieldAt_first y (u32_length n), beNat_u32, Nat.mod_eq_of_lt h]

theorem fieldAt_u48_append (h : n < 281474976710656) : fieldAt (u48 n ++ y) 0 6 = n := by
  rw [fieldAt_first y (u48_length n), beNat_u48, Nat.mod_eq_of_lt h]

theorem fieldAt_u16 (h : n < 65536) : fieldAt (u16 n) 0 2 = n := by
  rw [fieldAt_all (u16_length n), beNat_u16, Nat.mod_eq_of_lt h]

theorem fieldAt_u32 (h : n < 4294967296) : fieldAt (u32 n) 0 4 = n := by
  rw [fieldAt_all (u32_length n), beNat_u32, Nat.mod_eq_of_lt h]

/-- A field behind the first one is read from what follows it. -/
theorem fieldAt_u8_skip (m off len : Nat) : fieldAt (u8 m ++ y) (off + 1) len = fieldAt y off len :=
  fieldAt_after (x := u8 m) (Nat.le_add_left 1 off)

theorem fieldAt_u16_skip (m off len : Nat) : fieldAt (u16 m ++ y) (off + 2) len = fieldAt y off len :=
  fieldAt_after (x := u16 m) (Nat.le_add_left 2 off)

theorem fieldAt_u32_skip (m off len : Nat) : fieldAt (u32 m ++ y) (off + 4) len = fieldAt y off len :=
  fieldAt_after (x := u32 m) (Nat.le_add_left 4 off)

theorem fieldAt_u48_skip (m off len : Nat) : fieldAt (u48 m ++ y) (off + 6) len = fieldAt y off len :=
  fieldAt_after (x := u48 m) (Nat.le_add_left 6 off)

theorem signed16_fieldAt_i16 {z : Int} (h : -32768 ≤ z) (h' : z ≤ 32767) : signed16 (fieldAt (i16 z) 0 2) = z := by
  rw [fieldAt_all (i16_length z), signed16_i16 h h']

end

/-! ### A ready request as its command -/

section
variable {c : Instr} {k tag : Byte} {body fields : List Byte} {rest : List RequestFrame}
  {h : List Byte → State → Answer} {s t : State}

/-- A ready request whose handling changes nothing: its status, and what more the answer says (R158). -/
theorem exec_unchanged {reply : List Byte} (hc : requestOf c = some (k.toNat, h)) (hr : Ready k tag body rest s)
    (hs : sizeOk k.toNat body = true) (ha : h body (reserveSlot rest s) = (reserveSlot rest s, reply)) :
    exec c s = .next (s.answered (k + 0x40) tag reply rest) := by
  rw [exec_eq_effect, effect_request hc, takeRequest_quiet hr rfl hs ha rfl, replyKind_eq]

theorem exec_refused {status : Status} (hc : requestOf c = some (k.toNat, h)) (hr : Ready k tag body rest s)
    (hs : sizeOk k.toNat body = true) (ha : h body (reserveSlot rest s) = refuse status (reserveSlot rest s)) :
    exec c s = .next (s.answered (k + 0x40) tag (u8 status.code) rest) :=
  exec_unchanged hc hr hs ha

/-- A ready request whose handling leaves the link and takes the rest to `t`: the OK reply (R157). -/
theorem exec_taken (hc : requestOf c = some (k.toNat, h)) (hr : Ready k tag body rest s)
    (hs : sizeOk k.toNat body = true) (hl : t.lif.outbound = s.lif.outbound)
    (ha : h body (reserveSlot rest s) = okReply fields (reserveSlot rest t)) :
    exec c s = .next (t.answered (k + 0x40) tag (0 :: fields) rest) := by
  rw [exec_eq_effect, effect_request hc, takeRequest_okReply hr rfl hs ha, replyKind_eq,
    fillReply_reserveSlot (hl ▸ hr.noReservedSlot)]

/-- An operation that queues behind the reserved slot, so that a reply may be placed before it or after it (R157). -/
def RepliesFirst (f : State → State) : Prop :=
  ∀ r s, .reserved ∈ s.lif.outbound → fillReply r (f s) = f (fillReply r s)

/-- The same where the handling ends in such an operation: it follows the reply. -/
theorem exec_taken_then {f : State → State} (hf : RepliesFirst f) (hc : requestOf c = some (k.toNat, h))
    (hr : Ready k tag body rest s) (hs : sizeOk k.toNat body = true) (hl : t.lif.outbound = s.lif.outbound)
    (ha : h body (reserveSlot rest s) = okReply fields (f (reserveSlot rest t))) :
    exec c s = .next (f (t.answered (k + 0x40) tag (0 :: fields) rest)) := by
  rw [exec_eq_effect, effect_request hc, takeRequest_okReply hr rfl hs ha, replyKind_eq,
    hf _ _ (reserved_mem_reserveSlot rest t), fillReply_reserveSlot (hl ▸ hr.noReservedSlot)]

end

/-! ### The carriage and the delay (R31, R32) -/

section
variable {body : List Byte} {s : State}

theorem answerCarriageSet_wrongState (hj : s.jcu.journey = none) :
    answerCarriageSet body s = refuse .wrongState s := by
  simp [answerCarriageSet, hj]

theorem answerCarriageSet_badField {carriage cls : Nat} (hc : fieldAt body 0 1 = carriage) (hk : fieldAt body 1 1 = cls)
    (hj : s.jcu.journey ≠ none) (h : carriage < 1 ∨ 16 < carriage ∨ cls < 1 ∨ 2 < cls) :
    answerCarriageSet body s = refuse .badField s := by
  have hnone : ¬ (carriage < 1 ∨ 16 < carriage) → TravelClass.ofCode? cls = none := fun _ => by
    unfold TravelClass.ofCode?
    split
    · omega
    · omega
    · rfl
  simp only [answerCarriageSet, hc, hk, Option.isNone_iff_eq_none, hj, if_false]
  split
  · rfl
  next hin => rw [hnone hin]

theorem answerCarriageSet_stores {carriage : Nat} {cls : TravelClass} (hc : fieldAt body 0 1 = carriage)
    (hk : fieldAt body 1 1 = cls.code) (hj : s.jcu.journey ≠ none) (h1 : 1 ≤ carriage) (h16 : carriage ≤ 16) :
    answerCarriageSet body s = okReply [] (withJcu { s.jcu with carriage := carriage, cls := cls } s) := by
  have hin : ¬ (carriage < 1 ∨ 16 < carriage) := by omega
  have hcls : TravelClass.ofCode? cls.code = some cls := by cases cls <;> rfl
  simp only [answerCarriageSet, hc, hk, Option.isNone_iff_eq_none, hj, if_false, if_neg hin, hcls]

theorem answerDelaySet_wrongState (hj : s.jcu.journey = none) : answerDelaySet body s = refuse .wrongState s := by
  simp [answerDelaySet, hj]

theorem answerDelaySet_stores {minutes : Int} (hm : signed16 (fieldAt body 0 2) = minutes)
    (hj : s.jcu.journey ≠ none) :
    answerDelaySet body s = okReply (i16 (clampInt (-60) 720 minutes))
      (withJcu { s.jcu with delay := clampInt (-60) 720 minutes } s) := by
  simp [answerDelaySet, hm, hj]

end

/-- The model's clamp, in the words of the statements. -/
theorem clampInt_eq {lo hi : Int} (h : lo ≤ hi) (z : Int) :
    clampInt lo hi z = if z < lo then lo else if hi < z then hi else z := by
  unfold clampInt
  split
  · omega
  · split <;> omega

theorem clampNat_eq {lo hi : Nat} (h : lo ≤ hi) (n : Nat) :
    clampNat lo hi n = if n < lo then lo else if hi < n then hi else n := by
  unfold clampNat
  split
  · omega
  · split <;> omega

/-- Settles O23: by the branches of the two requests; the class is stored by its code. -/
theorem carriageAndDelayAreSet : Obligations.CarriageAndDelayAreSet := by
  refine ⟨fun tag rest carriage cls s hcarriage hcls hr => ?_, fun tag rest minutes s hlo hhi hr => ?_⟩
  · have hc : fieldAt (u8 carriage ++ u8 cls) 0 1 = carriage := fieldAt_u8_append _ hcarriage
    have hk : fieldAt (u8 carriage ++ u8 cls) 1 1 = cls := by rw [fieldAt_u8_skip, fieldAt_u8 hcls]
    refine ⟨fun hj => ?_, fun hj => ⟨fun h => ?_, fun h1 h16 hone => ?_, fun h1 h16 htwo => ?_⟩⟩
    · exact exec_refused rfl hr rfl (answerCarriageSet_wrongState hj)
    · exact exec_refused rfl hr rfl (answerCarriageSet_badField hc hk hj h)
    · have ha := answerCarriageSet_stores (cls := .first) (s := reserveSlot rest s) hc (hk.trans hone) hj h1 h16
      exact exec_taken rfl hr rfl rfl ha
    · have ha := answerCarriageSet_stores (cls := .second) (s := reserveSlot rest s) hc (hk.trans htwo) hj h1 h16
      exact exec_taken rfl hr rfl rfl ha
  · refine ⟨fun hj => ?_, fun hj => ?_⟩
    · exact exec_refused rfl hr rfl (answerDelaySet_wrongState hj)
    · have ha := answerDelaySet_stores (s := reserveSlot rest s) (signed16_fieldAt_i16 hlo hhi) hj
      rw [clampInt_eq (by decide)] at ha
      exact exec_taken rfl hr rfl rfl ha

/-! ### The plain settings (R91, R106, R126, R149, R182) -/

section
variable {body : List Byte} {s : State}

theorem answerCardOptions_badField {o : Nat} (ho : fieldAt body 0 1 = o) (h : 1 < o) :
    answerCardOptions body s = refuse .badField s := by
  unfold answerCardOptions
  rw [ho]
  split
  · omega
  · omega
  · rfl

theorem answerCardOptions_stores {o : Nat} (ho : fieldAt body 0 1 = o) (h : o ≤ 1) :
    answerCardOptions body s =
      okReply (u8 (if s.ciu.quiet then 1 else 0)) (withCiu { s.ciu with quiet := decide (o = 1) } s) := by
  obtain rfl | rfl : o = 0 ∨ o = 1 := by omega
  · rw [answerCardOptions, ho]
    rfl
  · rw [answerCardOptions, ho]
    rfl

theorem answerJournalTimers_stores {q a d : Nat} (hq : fieldAt body 0 2 = q) (ha : fieldAt body 2 2 = a)
    (hd : fieldAt body 4 1 = d) :
    answerJournalTimers body s =
      okReply (u16 (min 255 q) ++ u16 (min 3600 a) ++ u8 (clampNat 1 3 d))
        (withJnl { s.jnl with
          quietSetting := min 255 q, absoluteSetting := min 3600 a, lowThreshold := thresholdOf (clampNat 1 3 d)
          lowArmed := decide (thresholdOf (clampNat 1 3 d) < s.jnl.free) } s) := by
  rw [answerJournalTimers, hq, ha, hd]

end

theorem thresholdOf_eq (d : Nat) :
    thresholdOf (clampNat 1 3 d) =
      if clampNat 1 3 d = 1 then 1024 else if clampNat 1 3 d = 2 then 512 else 256 := by
  have hd : clampNat 1 3 d = 1 ∨ clampNat 1 3 d = 2 ∨ clampNat 1 3 d = 3 := by
    unfold clampNat
    omega
  rcases hd with h | h | h <;> rw [h] <;> rfl

/-- Settles O31: each setting is its number held to its range. -/
theorem settingsAreClamped : Obligations.SettingsAreClamped := by
  refine fun tag rest s => ⟨fun m hm hr => ?_, fun m hm hr => ?_, fun w hw hr => ?_,
    fun o ho hr => ⟨fun h => ?_, fun h => ?_⟩, fun q a d hq ha hd hr => ?_⟩
  · have he : answerClassSet (u8 m) (reserveSlot rest s) = okReply _ _ := rfl
    rw [fieldAt_u8 hm, clampNat_eq (by decide)] at he
    exact exec_taken (t := withVen _ s) rfl hr rfl rfl he
  · have he : answerCaseTimeout (u8 m) (reserveSlot rest s) = okReply _ _ := rfl
    rw [fieldAt_u8 hm, clampNat_eq (by decide)] at he
    exact exec_taken (t := withCtb _ s) rfl hr rfl rfl he
  · have he : answerPassbackSet (u16 w) (reserveSlot rest s) = okReply _ _ := rfl
    have hmin : min 600 w = if 600 < w then 600 else w := by split <;> omega
    rw [fieldAt_u16 hw, hmin] at he
    exact exec_taken (t := withIrg _ s) rfl hr rfl rfl he
  · exact exec_refused rfl hr rfl (answerCardOptions_badField (fieldAt_u8 ho) h)
  · have he := answerCardOptions_stores (s := reserveSlot rest s) (fieldAt_u8 ho) h
    exact exec_taken (t := withCiu _ s) rfl hr rfl rfl he
  · have hqs : fieldAt (u16 q ++ (u16 a ++ u8 d)) 0 2 = q := fieldAt_u16_append _ hq
    have has : fieldAt (u16 q ++ (u16 a ++ u8 d)) 2 2 = a := by
      rw [fieldAt_u16_skip, fieldAt_u16_append _ ha]
    have hds : fieldAt (u16 q ++ (u16 a ++ u8 d)) 4 1 = d := by
      rw [fieldAt_u16_skip, fieldAt_u16_skip, fieldAt_u8 hd]
    have he := answerJournalTimers_stores (s := reserveSlot rest s) hqs has hds
    rw [thresholdOf_eq, clampNat_eq (by decide)] at he
    simp only [Nat.lt_one_iff] at he
    exact exec_taken (t := withJnl _ s) rfl hr rfl rfl he

end Sys2Proof.Machine
end

section
/-! The Intake Queue's requests, STANDBY, and the clock (R33 to R36, R127, R163 to R165, R167): what follows the reply. -/

namespace Sys2Proof.Machine

/-! ### What follows the reply -/

/-- A singleton notice is produced by a unit (R161). -/
def sendSingleton (n : Notice) (s : State) : State := withLif (produceSingleton n s.lif) s

theorem repliesFirst_sendSingleton (n : Notice) : RepliesFirst (sendSingleton n) :=
  fun _ s h => congrArg (withLif · s) (fill_produceSingleton h)

theorem repliesFirst_sendWaiting (n : Notice) : RepliesFirst (sendWaiting n) :=
  fun _ _ h => fillReply_sendWaiting h

theorem reserved_mem_of_emits {l l' : Lif} (he : Emits l l') (h : .reserved ∈ l.outbound) : .reserved ∈ l'.outbound := by
  obtain ⟨ns, hns⟩ := he.outbound
  exact hns ▸ List.mem_append_left _ h

theorem repliesFirst_queueCaseClosed (closed : ClosedCase) : RepliesFirst (queueCaseClosed closed) := by
  intro r s h
  unfold queueCaseClosed
  by_cases hc : (s.ctb.closedWaiting.isEmpty && decide (0 < freeSlots s.lif)) = true
  · have hfilled : ((fillReply r s).ctb.closedWaiting.isEmpty && decide (0 < freeSlots (fillReply r s).lif)) = true := by
      simpa [fillReply] using hc
    rw [if_pos hc, if_pos hfilled]
    exact congrArg (withLif · s) (fill_enterNotice h)
  · have hfilled : ¬ ((fillReply r s).ctb.closedWaiting.isEmpty && decide (0 < freeSlots (fillReply r s).lif)) = true := by
      simpa [fillReply] using hc
    rw [if_neg hc, if_neg hfilled]
    rfl

theorem detachCase_fillReply (c : Case) (r : OutFrame) (s : State) :
    fillReply r (detachCase c s) = detachCase c (fillReply r s) := by
  unfold detachCase
  split <;> rfl

/-- A reply is placed before what the close of a case causes (R121). -/
theorem repliesFirst_closeCase (o : CaseOutcome) (ride : RideOutcome) (n : Option Nat) (c : Case) :
    RepliesFirst (closeCase o ride n c) := by
  intro r s h
  have hdetached : .reserved ∈ (detachCase c s).lif.outbound := by rwa [detachCase_lif]
  have hended := reserved_mem_of_emits (emits_journal (caseEndRecord (closedOf o ride n c)) (detachCase c s)) hdetached
  unfold closeCase
  simp only
  rw [repliesFirst_queueCaseClosed _ _ _ hended, fillReply_journal hdetached, detachCase_fillReply]

/-- A reply is placed before the closes of the cases that time out (R36, R127). -/
theorem repliesFirst_timeOutCases : RepliesFirst timeOutCases := by
  intro r s h
  have hfold (cs : List Case) (t : State) (ht : .reserved ∈ t.lif.outbound) :
      fillReply r (cs.foldl (fun u c => timeOutCase c u) t) = cs.foldl (fun u c => timeOutCase c u) (fillReply r t) := by
    induction cs generalizing t with
    | nil => rfl
    | cons c cs ih =>
      rw [List.foldl_cons, List.foldl_cons,
        ih (timeOutCase c t) (reserved_mem_of_emits (emits_closeCase .timedOut .none c.rides c t) ht)]
      exact congrArg (cs.foldl fun u c => timeOutCase c u) (repliesFirst_closeCase .timedOut .none c.rides c r t ht)
  exact hfold _ s h

/-! ### HOLD (R165) -/

/-- The Intake Queue is replaced. -/
def withIq (q : Iq) (s : State) : State := { s with iq := q }

section
variable {s : State}

theorem holdAfterAdd_stays (h : s.iq.hold = true ∨ s.iq.entries.length < s.iq.high) : holdAfterAdd s = s := by
  refine if_neg ?_
  rcases h with h | h
  · simp [h]
  · simp [h]

theorem holdAfterAdd_enters (hh : s.iq.hold = false) (h : s.iq.high ≤ s.iq.entries.length) :
    holdAfterAdd s =
      sendSingleton (.intakeHold s.iq.entries.length s.iq.high) (withIq { s.iq with hold := true } s) :=
  if_pos (by simp [hh, h])

theorem resumeAfterTake_stays (h : s.iq.hold = false ∨ s.iq.low < s.iq.entries.length) : resumeAfterTake s = s := by
  refine if_neg ?_
  rcases h with h | h
  · simp [h]
  · simp [h]

theorem resumeAfterTake_leaves (hh : s.iq.hold = true) (h : s.iq.entries.length ≤ s.iq.low) :
    resumeAfterTake s =
      sendSingleton (.intakeResume s.iq.entries.length s.iq.low) (withIq { s.iq with hold := false } s) :=
  if_pos (by simp [hh, h])

/-! ### INTAKE-MARKS (R164) -/

variable {body : List Byte} {high low : Nat}

theorem answerIntakeMarks_badField (hh : fieldAt body 0 1 = high) (hl : fieldAt body 1 1 = low)
    (h : min 16 high < 2 ∨ min 16 high ≤ low) : answerIntakeMarks body s = refuse .badField s := by
  simp only [answerIntakeMarks, hh, hl]
  exact if_pos h

/-- The marks that are stored apply to the present count. -/
def applyMarks (s : State) : State := if s.iq.hold then resumeAfterTake s else holdAfterAdd s

theorem applyMarks_stays (hopen : s.iq.hold = false → s.iq.entries.length < s.iq.high)
    (hheld : s.iq.hold = true → s.iq.low < s.iq.entries.length) : applyMarks s = s := by
  unfold applyMarks
  split
  next hhold => exact resumeAfterTake_stays (.inr (hheld hhold))
  next hhold => exact holdAfterAdd_stays (.inr (hopen (by simpa using hhold)))

theorem applyMarks_enters (hh : s.iq.hold = false) (h : s.iq.high ≤ s.iq.entries.length) :
    applyMarks s = sendSingleton (.intakeHold s.iq.entries.length s.iq.high) (withIq { s.iq with hold := true } s) :=
  (if_neg (by simp [hh])).trans (holdAfterAdd_enters hh h)

theorem applyMarks_leaves (hh : s.iq.hold = true) (h : s.iq.entries.length ≤ s.iq.low) :
    applyMarks s = sendSingleton (.intakeResume s.iq.entries.length s.iq.low) (withIq { s.iq with hold := false } s) :=
  (if_pos hh).trans (resumeAfterTake_leaves hh h)

theorem answerIntakeMarks_applies {t : State} (hh : fieldAt body 0 1 = high) (hl : fieldAt body 1 1 = low)
    (h2 : 2 ≤ min 16 high) (h : low < min 16 high) (ht : applyMarks (withMarks (min 16 high) low s) = t) :
    answerIntakeMarks body s = okReply (u8 (min 16 high) ++ u8 low ++ u8 (bit t.iq.hold)) t := by
  simp only [answerIntakeMarks, hh, hl, ← ht]
  exact if_neg (by omega)

end

/-- Settles O14: the marks are refused, or stored and applied by what HOLD makes of the present count. -/
theorem intakeMarksApplyAtOnce : Obligations.IntakeMarksApplyAtOnce := by
  intro tag rest high low s hhigh hlow hr
  have hh : fieldAt (u8 high ++ u8 low) 0 1 = high := fieldAt_u8_append _ hhigh
  have hl : fieldAt (u8 high ++ u8 low) 1 1 = low := by rw [fieldAt_u8_skip, fieldAt_u8 hlow]
  refine ⟨fun h => ?_, fun h2 hfit hopen hheld => ?_, fun h2 hfit hhold hcount => ?_, fun h2 hfit hhold hcount => ?_⟩
  · exact exec_refused rfl hr rfl (answerIntakeMarks_badField hh hl h)
  · have ht := applyMarks_stays (s := withMarks (min 16 high) low (reserveSlot rest s)) hopen hheld
    exact exec_taken (t := withMarks (min 16 high) low s) rfl hr rfl rfl (answerIntakeMarks_applies hh hl h2 hfit ht)
  · have ht := applyMarks_enters (s := withMarks (min 16 high) low (reserveSlot rest s)) hhold hcount
    have he := exec_taken_then (c := .intakeMarks) (t := withIq { s.iq with high := min 16 high, low := low, hold := true } s)
      (repliesFirst_sendSingleton (.intakeHold s.iq.entries.length (min 16 high))) rfl hr rfl rfl
      (answerIntakeMarks_applies hh hl h2 hfit ht)
    exact he
  · have ht := applyMarks_leaves (s := withMarks (min 16 high) low (reserveSlot rest s)) hhold hcount
    have he := exec_taken_then (c := .intakeMarks) (t := withIq { s.iq with high := min 16 high, low := low, hold := false } s)
      (repliesFirst_sendSingleton (.intakeResume s.iq.entries.length low)) rfl hr rfl rfl
      (answerIntakeMarks_applies hh hl h2 hfit ht)
    exact he

/-! ### PRESENT (R163) -/

section
variable {s : State} {body : List Byte}

theorem answerPresent_wrongState (h : ∀ j, s.jcu.journey = some j → j.closing = true) :
    answerPresent body s = refuse .wrongState s := by
  simp [answerPresent, journeyOpen_eq_false h]

theorem answerPresent_full {j : Running} (hj : s.jcu.journey = some j) (ho : j.closing = false)
    (h : 16 ≤ s.iq.entries.length) : answerPresent body s = refuse .full s := by
  simp [answerPresent, journeyOpen_eq_true hj ho, h]

/-- The entry that is made at this instant (R32, R162, R163). -/
def newEntry (origin : Origin) (content : List Byte) (s : State) : Entry :=
  { intake := nextIntake s.iq.counter, origin := origin, content := content, carriage := s.jcu.carriage,
    cls := s.jcu.cls, arrival := s.jcu.clock.seconds }

/-- The Intake Queue with the new entry at its tail, before HOLD follows. -/
def Iq.withEntry (e : Entry) (q : Iq) : Iq := { q with counter := e.intake, entries := q.entries ++ [e] }

theorem addEntry_eq (o : Origin) (x : List Byte) (s : State) :
    addEntry o x s = holdAfterAdd (withIq (s.iq.withEntry (newEntry o x s)) s) := rfl

theorem addEntry_stays (o : Origin) (x : List Byte) (h : s.iq.hold = true ∨ s.iq.entries.length + 1 < s.iq.high) :
    addEntry o x s = withIq (s.iq.withEntry (newEntry o x s)) s := by
  rw [addEntry_eq]
  exact holdAfterAdd_stays (by simpa [withIq, Iq.withEntry] using h)

theorem addEntry_enters (o : Origin) (x : List Byte) (hh : s.iq.hold = false) (h : s.iq.high ≤ s.iq.entries.length + 1) :
    addEntry o x s = sendSingleton (.intakeHold (s.iq.entries.length + 1) s.iq.high)
      (withIq { s.iq.withEntry (newEntry o x s) with hold := true } s) := by
  have he := holdAfterAdd_enters (s := withIq (s.iq.withEntry (newEntry o x s)) s) hh (by simpa [withIq, Iq.withEntry] using h)
  rw [addEntry_eq, he]
  simp [withIq, Iq.withEntry]

/-- The entry joins the tail and HOLD stays as it is. -/
theorem answerPresent_stays {j : Running} (hj : s.jcu.journey = some j) (ho : j.closing = false)
    (h : s.iq.entries.length < 16) (hs : s.iq.hold = true ∨ s.iq.entries.length + 1 < s.iq.high) :
    answerPresent body s = okReply
      (u16 (nextIntake s.iq.counter) ++ u8 (s.iq.entries.length + 1) ++ u8 (bit s.iq.hold))
      (withIq (s.iq.withEntry (newEntry .link body s)) s) := by
  simp [answerPresent, journeyOpen_eq_true hj ho, Nat.not_le.2 h, addEntry_stays .link body hs, withIq, Iq.withEntry,
    newEntry]

/-- The entry joins the tail and HOLD is entered, with its notice. -/
theorem answerPresent_enters {j : Running} (hj : s.jcu.journey = some j) (ho : j.closing = false)
    (h : s.iq.entries.length < 16) (hh : s.iq.hold = false) (hc : s.iq.high ≤ s.iq.entries.length + 1) :
    answerPresent body s = okReply (u16 (nextIntake s.iq.counter) ++ u8 (s.iq.entries.length + 1) ++ u8 1)
      (sendSingleton (.intakeHold (s.iq.entries.length + 1) s.iq.high)
        (withIq { s.iq.withEntry (newEntry .link body s) with hold := true } s)) := by
  simp [answerPresent, journeyOpen_eq_true hj ho, Nat.not_le.2 h, addEntry_enters .link body hh hc, sendSingleton,
    withIq, Iq.withEntry, newEntry, bit]

end

theorem sizeOk_present {body : List Byte} (h1 : 1 ≤ body.length) (h80 : body.length ≤ 80) :
    sizeOk 0x08 body = true := by
  simp [sizeOk, presentKind, h1, h80]

/-- Settles O15: the entry is refused, or joins the tail, with HOLD where its count reaches the high mark. -/
theorem presentQueuesTheContent : Obligations.PresentQueuesTheContent := by
  intro tag body rest s h1 h80 hr
  have hsize := sizeOk_present h1 h80
  refine ⟨fun h => ?_, fun j hj ho => ⟨fun h => ?_, fun h hstays => ?_, fun h hhold hcount => ?_⟩⟩
  · exact exec_refused rfl hr hsize (answerPresent_wrongState (s := reserveSlot rest s) h)
  · exact exec_refused rfl hr hsize (answerPresent_full (s := reserveSlot rest s) hj ho h)
  · have ha := answerPresent_stays (body := body) (s := reserveSlot rest s) hj ho h hstays
    exact exec_taken (t := withIq (s.iq.withEntry (newEntry .link body s)) s) rfl hr hsize rfl ha
  · have ha := answerPresent_enters (body := body) (s := reserveSlot rest s) hj ho h hhold hcount
    have he := exec_taken_then (c := .present)
      (t := withIq { s.iq.withEntry (newEntry .link body s) with hold := true } s)
      (repliesFirst_sendSingleton (.intakeHold (s.iq.entries.length + 1) s.iq.high)) rfl hr hsize rfl ha
    exact he

/-! ### STANDBY (R167) -/

theorem canStandby_iff {s : State} :
    canStandby s = true ↔ s.iq.entries = [] ∧ s.ven.engine = .idle ∧ s.ven.parked = none ∧ s.ciu.state = .absent := by
  simp [canStandby, and_assoc]

/-- Settles O13: the reserved slot is the one frame more that is still to be sent. -/
theorem standbyNeedsQuiet : Obligations.StandbyNeedsQuiet := by
  refine fun tag rest s hr => ⟨fun hentries hengine hparked hciu => ?_, fun h => ?_⟩
  · have hquiet : canStandby (reserveSlot rest s) = true := canStandby_iff.2 ⟨hentries, hengine, hparked, hciu⟩
    have ha : answerStandby [] (reserveSlot rest s) = okReply []
        (reserveSlot rest (withLif { s.lif with power := .standby, standbyToSend := s.lif.outbound.length + 1 } s)) := by
      rw [answerStandby, if_pos hquiet]
      simp [reserveSlot, withLif]
    exact exec_taken rfl hr rfl rfl ha
  · have hbusy : ¬ canStandby (reserveSlot rest s) = true := fun hq => by
      obtain ⟨hentries, hengine, hparked, hciu⟩ := canStandby_iff.1 hq
      rcases h with h | h | h | h
      · exact h hentries
      · exact h hengine
      · exact h hparked
      · exact h hciu
    exact exec_refused (h := answerStandby) rfl hr rfl (if_neg hbusy)

/-! ### The clock (R33 to R36) -/

section
variable {s : State} {body : List Byte}

theorem stepTooLarge_iff {present new : Int} :
    stepTooLarge present new = true ↔ 120000 < new - present ∨ new - present < -120000 := by
  simp only [stepTooLarge, decide_eq_true_eq]
  omega

theorem answerClockSet_badField {seconds millis : Nat} (hs : fieldAt body 0 4 = seconds) (hm : fieldAt body 4 2 = millis)
    (h : 999 < millis ∨ (s.jcu.journey.isSome = true ∧
      stepTooLarge (clockMillis s.jcu.clock.seconds s.jcu.clock.millis) (clockMillis seconds millis) = true)) :
    answerClockSet body s = refuse .badField s := by
  simp only [answerClockSet, hs, hm]
  split
  · rfl
  next hmillis =>
    rcases h with h | ⟨hj, hstep⟩
    · exact absurd h hmillis
    · rw [if_pos (by rw [hj, hstep]; rfl)]

theorem answerClockSet_sets {seconds millis : Nat} (hs : fieldAt body 0 4 = seconds) (hm : fieldAt body 4 2 = millis)
    (hmillis : millis ≤ 999) (h : s.jcu.journey = none ∨
      stepTooLarge (clockMillis s.jcu.clock.seconds s.jcu.clock.millis) (clockMillis seconds millis) = false) :
    answerClockSet body s = okReply (u32 s.jcu.clock.seconds ++ u16 s.jcu.clock.millis)
      (timeOutCases (withJcu { s.jcu with clock := s.jcu.clock.setTo seconds millis } s)) := by
  have hstep : ¬ (s.jcu.journey.isSome &&
      stepTooLarge (clockMillis s.jcu.clock.seconds s.jcu.clock.millis) (clockMillis seconds millis)) = true := by
    rcases h with h | h <;> simp [h]
  simp only [answerClockSet, hs, hm, if_neg (Nat.not_lt.2 hmillis), if_neg hstep]
  rfl

end

/-- With the clock set, the cases that time out are those whose deadline is not later (R127). -/
theorem timeOutCases_eq {s : State} (h : s.jcu.clock.isSet = true) :
    timeOutCases s = (s.ctb.cases.filter (fun c => c.deadline ≤ s.jcu.clock.seconds)).foldl
      (fun u c => closeCase .timedOut .none c.rides c u) s := by
  have hdue : deadlineReached s = fun c => decide (c.deadline ≤ s.jcu.clock.seconds) := by
    funext c
    simp [deadlineReached, h]
  rw [timeOutCases, hdue]
  rfl

/-- Settles O16: CLOCK-SET refuses, or sets the clock and closes what is then due; CLOCK-TRIM holds its number. -/
theorem clockIsSetAndTrimmed : Obligations.ClockIsSetAndTrimmed := by
  refine ⟨fun tag rest seconds millis s hseconds hmillis hr => ?_, fun tag rest trim s hlo hhi hr => ?_⟩
  · have hs : fieldAt (u32 seconds ++ u16 millis) 0 4 = seconds := fieldAt_u32_append _ hseconds
    have hm : fieldAt (u32 seconds ++ u16 millis) 4 2 = millis := by rw [fieldAt_u32_skip, fieldAt_u16 hmillis]
    refine ⟨fun h => ?_, fun hfits h => ?_⟩
    · refine exec_refused rfl hr rfl (answerClockSet_badField (s := reserveSlot rest s) hs hm (h.imp_right ?_))
      exact And.imp_right fun hstep => stepTooLarge_iff.2 hstep
    · have hsmall : s.jcu.journey = none ∨ stepTooLarge (clockMillis s.jcu.clock.seconds s.jcu.clock.millis)
          (clockMillis seconds millis) = false := by
        refine h.imp_right fun hstep => ?_
        rw [← Bool.not_eq_true, stepTooLarge_iff]
        simp only [clockMillis]
        omega
      have ha := answerClockSet_sets (s := reserveSlot rest s) hs hm hfits hsmall
      have he := exec_taken_then (c := .clockSet) (t := withJcu { s.jcu with clock := s.jcu.clock.setTo seconds millis } s) repliesFirst_timeOutCases rfl hr rfl rfl ha
      rwa [timeOutCases_eq rfl] at he
  · have ha : answerClockTrim (i16 trim) (reserveSlot rest s) = okReply _ _ := rfl
    rw [signed16_fieldAt_i16 hlo hhi, clampInt_eq (by decide)] at ha
    exact exec_taken (t := withJcu _ s) rfl hr rfl rfl ha

/-- Settles O17: by the branches of the two laws of the clock. -/
theorem clockRunsWithTrim : Obligations.ClockRunsWithTrim := by
  intro s hn
  have hmilli : exec .clockMillisecond s = .next (millisecond s) := congrArg Host.Outcome.next (if_pos hn)
  have hsecond : exec .trimSecond s = .next (withJcu { s.jcu with clock := s.jcu.clock.trimSecond } s) :=
    congrArg Host.Outcome.next (if_pos hn)
  rw [hmilli, hsecond]
  refine ⟨fun hset => ?_, fun hset hrun => ?_, fun hset hheld => ?_, fun hset hlo hhi => ?_, fun hset hgain => ?_,
    fun hset hlose => ?_⟩
  · simp [millisecond, Clock.tick, Clock.trimSecond, hset, withJcu]
  · simp [millisecond, Clock.tick, hset, hrun, Clock.advance, maxSeconds]
  · simp [millisecond, Clock.tick, hset, hheld]
  · simp [Clock.trimSecond, hset, withJcu, Int.not_le.2 hlo, Int.not_le.2 hhi]
  · simp [Clock.trimSecond, hset, withJcu, hgain, Clock.advance, maxSeconds]
    grind
  · have hlow : ¬ (1000 : Int) ≤ s.jcu.clock.trimAcc + s.jcu.clock.trim := by omega
    simp [Clock.trimSecond, hset, withJcu, hlow, hlose]

end Sys2Proof.Machine
end

section
/-! The requests that load the Issuer Key Table and the exact list (R11 to R13, R49 to R52): an entry is named by its key,
and the others keep their places. -/

namespace Sys2Proof.Machine

/-! ### The one entry of a list that a test names -/

section
variable {α : Type} {p : α → Bool} {front back : List α} {e : α}

theorem find?_named (he : p e = true) (hf : ∀ d ∈ front, p d = false) (back : List α) :
    (front ++ e :: back).find? p = some e :=
  List.find?_eq_some_iff_append.2 ⟨he, front, back, rfl, fun d hd => by simp [hf d hd]⟩

theorem map_named (he : p e = true) (hd : ∀ d ∈ front ++ back, p d = false) (f : α → α) :
    (front ++ e :: back).map (fun d => if p d then f d else d) = front ++ f e :: back := by
  have hkeeps (l : List α) (hl : ∀ d ∈ l, p d = false) : l.map (fun d => if p d then f d else d) = l :=
    (List.map_congr_left fun d hmem => by simp [hl d hmem]).trans (List.map_id l)
  rw [List.map_append, List.map_cons, if_pos he, hkeeps front fun d h => hd d (List.mem_append_left _ h),
    hkeeps back fun d h => hd d (List.mem_append_right _ h)]

theorem filter_named (he : p e = true) (hd : ∀ d ∈ front ++ back, p d = false) :
    (front ++ e :: back).filter (fun d => !p d) = front ++ back := by
  have hkeeps (l : List α) (hl : ∀ d ∈ l, p d = false) : l.filter (fun d => !p d) = l :=
    List.filter_eq_self.2 fun d hmem => by simp [hl d hmem]
  rw [List.filter_append, List.filter_cons_of_neg (by simp [he]), hkeeps front fun d h => hd d (List.mem_append_left _ h),
    hkeeps back fun d h => hd d (List.mem_append_right _ h)]

end

/-! ### The Issuer Key Table (R11 to R13) -/

theorem hasPair_eq_false {issuer version : Nat} {e : KeyEntry} (h : ¬ (e.issuer = issuer ∧ e.version = version)) :
    hasPair issuer version e = false := by
  rwa [← Bool.not_eq_true, hasPair_iff]

theorem findKey_eq_none {issuer version : Nat} {keys : List KeyEntry}
    (h : ∀ e ∈ keys, ¬ (e.issuer = issuer ∧ e.version = version)) : findKey issuer version keys = none :=
  List.find?_eq_none.2 fun e he => by simp [hasPair_eq_false (h e he)]

section
variable {s : State} {body : List Byte} {issuer version : Nat}

theorem answerKeyLoad_wrongState (hj : s.jcu.journey ≠ none) : answerKeyLoad body s = refuse .wrongState s := by
  simp only [answerKeyLoad]
  exact if_pos (Option.isSome_iff_ne_none.2 hj)

theorem answerKeyLoad_badField (hv : fieldAt body 1 1 = version) (hj : s.jcu.journey = none) (h : 15 < version) :
    answerKeyLoad body s = refuse .badField s := by
  simp [answerKeyLoad, hv, hj, h]

theorem answerKeyLoad_full (hi : fieldAt body 0 1 = issuer) (hv : fieldAt body 1 1 = version)
    (hj : s.jcu.journey = none) (h : version ≤ 15)
    (hnew : findKey issuer version s.dcu.keys = none) (hfull : 32 ≤ s.dcu.keys.length) :
    answerKeyLoad body s = refuse .full s := by
  simp [answerKeyLoad, hi, hv, hj, Nat.not_lt.2 h, hnew, hfull]

theorem answerKeyLoad_appends {material : List Byte} (hi : fieldAt body 0 1 = issuer) (hv : fieldAt body 1 1 = version)
    (hm : body.drop 2 = material) (hj : s.jcu.journey = none)
    (h : version ≤ 15) (hnew : findKey issuer version s.dcu.keys = none) (hroom : s.dcu.keys.length < 32) :
    answerKeyLoad body s = okReply (u8 1 ++ u8 (s.dcu.keys.length + 1))
      (withKeys (s.dcu.keys ++ [{ issuer := issuer, version := version, state := .active, material := material }]) s) := by
  simp [answerKeyLoad, hi, hv, hm, hj, Nat.not_lt.2 h, hnew, Nat.not_le.2 hroom]

theorem answerKeyLoad_replaces {material : List Byte} {keys : List KeyEntry} {e : KeyEntry} (hi : fieldAt body 0 1 = issuer) (hv : fieldAt body 1 1 = version)
    (hm : body.drop 2 = material)
    (hj : s.jcu.journey = none) (h : version ≤ 15) (hold : findKey issuer version s.dcu.keys = some e)
    (hkeys : setKey { issuer := issuer, version := version, state := .active, material := material } s.dcu.keys = keys) :
    answerKeyLoad body s = okReply (u8 2 ++ u8 keys.length) (withKeys keys s) := by
  simp [answerKeyLoad, hi, hv, hm, hj, Nat.not_lt.2 h, hold, hkeys]

theorem answerKeyState_badField {state : Nat} (hv : fieldAt body 1 1 = version) (hs : fieldAt body 2 1 = state)
    (h : 15 < version ∨ state < 1 ∨ 3 < state) : answerKeyState body s = refuse .badField s := by
  have hnone : ¬ 15 < version → KeyState.ofCode? state = none := fun hle => by
    unfold KeyState.ofCode?
    split
    · omega
    · omega
    · omega
    · rfl
  simp only [answerKeyState, hv, hs]
  split
  · rfl
  next st hst =>
    by_cases hlt : 15 < version
    · rw [if_pos hlt]
    · cases (hnone hlt).symm.trans hst

theorem answerKeyState_noSuch {state : KeyState} (hi : fieldAt body 0 1 = issuer) (hv : fieldAt body 1 1 = version)
    (hs : KeyState.ofCode? (fieldAt body 2 1) = some state)
    (h : version ≤ 15) (hnew : findKey issuer version s.dcu.keys = none) :
    answerKeyState body s = refuse .noSuch s := by
  simp [answerKeyState, hi, hv, hs, Nat.not_lt.2 h, hnew]

theorem answerKeyState_sets {state : KeyState} {keys : List KeyEntry} {e : KeyEntry} (hi : fieldAt body 0 1 = issuer) (hv : fieldAt body 1 1 = version)
   
    (hs : KeyState.ofCode? (fieldAt body 2 1) = some state) (h : version ≤ 15)
    (hold : findKey issuer version s.dcu.keys = some e) (hkeys : setKey { e with state := state } s.dcu.keys = keys) :
    answerKeyState body s = okReply (u8 e.state.code) (withKeys keys s) := by
  simp [answerKeyState, hi, hv, hs, Nat.not_lt.2 h, hold, hkeys]

theorem answerKeyDrop_wrongState (hj : s.jcu.journey ≠ none) : answerKeyDrop body s = refuse .wrongState s := by
  simp only [answerKeyDrop]
  exact if_pos (Option.isSome_iff_ne_none.2 hj)

theorem answerKeyDrop_badField (hv : fieldAt body 1 1 = version) (hj : s.jcu.journey = none) (h : 15 < version) :
    answerKeyDrop body s = refuse .badField s := by
  simp [answerKeyDrop, hv, hj, h]

theorem answerKeyDrop_noSuch (hi : fieldAt body 0 1 = issuer) (hv : fieldAt body 1 1 = version)
    (hj : s.jcu.journey = none) (h : version ≤ 15)
    (hnew : findKey issuer version s.dcu.keys = none) : answerKeyDrop body s = refuse .noSuch s := by
  simp [answerKeyDrop, hi, hv, hj, Nat.not_lt.2 h, hnew]

theorem answerKeyDrop_drops {keys : List KeyEntry} {e : KeyEntry} (hi : fieldAt body 0 1 = issuer) (hv : fieldAt body 1 1 = version)
    (hj : s.jcu.journey = none) (h : version ≤ 15)
    (hold : findKey issuer version s.dcu.keys = some e)
    (hkeys : s.dcu.keys.filter (fun d => !hasPair issuer version d) = keys) :
    answerKeyDrop body s = okReply (u8 keys.length) (withKeys keys s) := by
  simp [answerKeyDrop, hi, hv, hj, Nat.not_lt.2 h, hold, hkeys]

end

/-- Settles O24: the table's one entry of the pair is replaced in its place, set, or removed, and a new one goes last. -/
theorem keyTableRequests : Obligations.KeyTableRequests := by
  intro tag rest issuer version s hissuer hversion
  have hother {d : KeyEntry} (h : ¬ (d.issuer = issuer ∧ d.version = version)) : hasPair issuer version d = false :=
    hasPair_eq_false h
  have hfound {front back : List KeyEntry} {e : KeyEntry} (he : e.issuer = issuer ∧ e.version = version)
      (hd : ∀ d ∈ front ++ back, ¬ (d.issuer = issuer ∧ d.version = version)) :
      findKey issuer version (front ++ e :: back) = some e :=
    find?_named (hasPair_iff.2 he) (fun d h => hother (hd d (List.mem_append_left _ h))) back
  have hset {front back : List KeyEntry} {e : KeyEntry} (entry : KeyEntry) (hi : entry.issuer = issuer)
      (hv : entry.version = version) (he : e.issuer = issuer ∧ e.version = version)
      (hd : ∀ d ∈ front ++ back, ¬ (d.issuer = issuer ∧ d.version = version)) :
      setKey entry (front ++ e :: back) = front ++ entry :: back := by
    rw [setKey, hi, hv]
    exact map_named (hasPair_iff.2 he) (fun d h => hother (hd d h)) fun _ => entry
  refine ⟨fun material hlen hr => ?load, fun state hstate hr => ?state, fun hr => ?drop⟩
  case load =>
    have hi : fieldAt (u8 issuer ++ (u8 version ++ material)) 0 1 = issuer := fieldAt_u8_append _ hissuer
    have hv : fieldAt (u8 issuer ++ (u8 version ++ material)) 1 1 = version := by
      rw [fieldAt_u8_skip, fieldAt_u8_append _ hversion]
    have hsize : sizeOk 0x20 (u8 issuer ++ (u8 version ++ material)) = true := by
      rw [sizeOk, List.length_append, List.length_append, hlen]
      rfl
    refine ⟨fun hj => ?_, fun hj h => ?_, fun hj h hnew => ⟨fun hfull => ?_, fun hroom => ?_⟩,
      fun front back e hj h hkeys he hd => ?_⟩
    · exact exec_refused rfl hr hsize (answerKeyLoad_wrongState hj)
    · exact exec_refused rfl hr hsize (answerKeyLoad_badField hv hj h)
    · exact exec_refused rfl hr hsize (answerKeyLoad_full hi hv hj h (findKey_eq_none hnew) hfull)
    · have ha := answerKeyLoad_appends (s := reserveSlot rest s) hi hv rfl hj h (findKey_eq_none hnew) hroom
      exact exec_taken (t := withKeys _ s) rfl hr hsize rfl ha
    · have hkeys' : setKey { issuer := issuer, version := version, state := .active, material := material } s.dcu.keys =
          front ++ { issuer := issuer, version := version, state := .active, material := material } :: back := by
        rw [hkeys]
        exact hset _ rfl rfl he hd
      have ha := answerKeyLoad_replaces (s := reserveSlot rest s) hi hv rfl hj h (hkeys ▸ hfound he hd) hkeys'
      have hcount := congrArg List.length hkeys
      rw [List.length_append, List.length_cons] at ha hcount
      rw [← hcount] at ha
      exact exec_taken (t := withKeys _ s) rfl hr hsize rfl ha
  case state =>
    have hi : fieldAt (u8 issuer ++ (u8 version ++ u8 state)) 0 1 = issuer := fieldAt_u8_append _ hissuer
    have hv : fieldAt (u8 issuer ++ (u8 version ++ u8 state)) 1 1 = version := by
      rw [fieldAt_u8_skip, fieldAt_u8_append _ hversion]
    have hs : fieldAt (u8 issuer ++ (u8 version ++ u8 state)) 2 1 = state := by
      rw [fieldAt_u8_skip, fieldAt_u8_skip, fieldAt_u8 hstate]
    refine ⟨fun h => ?_, fun h h1 h3 hnew => ?_, fun front back e new h hnew hkeys he hd => ?_⟩
    · exact exec_refused rfl hr rfl (answerKeyState_badField hv hs h)
    · obtain ⟨new, hnewState⟩ : ∃ new, KeyState.ofCode? state = some new := by
        obtain rfl | rfl | rfl : state = 1 ∨ state = 2 ∨ state = 3 := by omega
        · exact ⟨.active, rfl⟩
        · exact ⟨.retiring, rfl⟩
        · exact ⟨.withdrawn, rfl⟩
      exact exec_refused rfl hr rfl
        (answerKeyState_noSuch hi hv ((congrArg _ hs).trans hnewState) h (findKey_eq_none hnew))
    · have ha := answerKeyState_sets (s := reserveSlot rest s) hi hv ((congrArg _ hs).trans hnew) h
        (hkeys ▸ hfound he hd) (hkeys ▸ hset { e with state := new } he.1 he.2 he hd)
      exact exec_taken (t := withKeys _ s) rfl hr rfl rfl ha
  case drop =>
    have hi : fieldAt (u8 issuer ++ u8 version) 0 1 = issuer := fieldAt_u8_append _ hissuer
    have hv : fieldAt (u8 issuer ++ u8 version) 1 1 = version := by rw [fieldAt_u8_skip, fieldAt_u8 hversion]
    refine ⟨fun hj => ?_, fun hj h => ?_, fun hj h hnew => ?_, fun front back e hj h hkeys he hd => ?_⟩
    · exact exec_refused rfl hr rfl (answerKeyDrop_wrongState hj)
    · exact exec_refused rfl hr rfl (answerKeyDrop_badField hv hj h)
    · exact exec_refused rfl hr rfl (answerKeyDrop_noSuch hi hv hj h (findKey_eq_none hnew))
    · have ha := answerKeyDrop_drops (s := reserveSlot rest s) hi hv hj h (hkeys ▸ hfound he hd)
        (hkeys ▸ filter_named (hasPair_iff.2 he) fun d h => hother (hd d h))
      exact exec_taken (t := withKeys _ s) rfl hr rfl rfl ha

/-! ### The exact list (R49 to R52) -/

theorem credKeyAt_key {key : CredKey} (hi : key.issuer < 256) (hs : key.serial < 281474976710656) (y : List Byte) :
    credKeyAt (u8 key.issuer ++ (u48 key.serial ++ y)) 0 = key := by
  rw [credKeyAt, fieldAt_u8_append _ hi, Nat.zero_add, fieldAt_u8_skip _ _ 0, fieldAt_u48_append _ hs]

theorem ListAction.ofCode?_eq_none {code : Nat} (h : code < 1 ∨ 2 < code) : ListAction.ofCode? code = none := by
  unfold ListAction.ofCode?
  split
  · omega
  · omega
  · rfl

section
variable {s : State} {body : List Byte} {key : CredKey} {reason : Nat} {action : ListAction}

theorem answerListAdd_badField {code : Nat} (hc : fieldAt body 7 1 = code) (hr : fieldAt body 8 1 = reason)
    (h : code < 1 ∨ 2 < code ∨ 15 < reason) : answerListAdd body s = refuse .badField s := by
  simp only [answerListAdd, hc, hr]
  split
  · rfl
  next a ha =>
    refine if_pos ?_
    rcases h with h | h | h
    · simp [ListAction.ofCode?_eq_none (.inl h)] at ha
    · simp [ListAction.ofCode?_eq_none (.inr h)] at ha
    · exact h

variable (hk : credKeyAt body 0 = key) (ha : ListAction.ofCode? (fieldAt body 7 1) = some action)
  (hr : fieldAt body 8 1 = reason) (h : reason ≤ 15)
include hk ha hr h

theorem answerListAdd_appends (hnew : findListed key s.rsu.list = none) (hroom : s.rsu.list.length < 64) :
    answerListAdd body s = okReply (u8 1 ++ u8 (s.rsu.list.length + 1))
      (withRsu { s.rsu with
        list := s.rsu.list ++ [{ key := key, action := action, reason := reason, added := tariffTime s }] } s) := by
  simp [answerListAdd, hk, ha, hr, Nat.not_lt.2 h, hnew, Nat.not_le.2 hroom]

theorem answerListAdd_full (hnew : findListed key s.rsu.list = none) (hfull : 64 ≤ s.rsu.list.length) :
    answerListAdd body s = (s, fullReply s.rsu.list) := by
  simp [answerListAdd, hk, ha, hr, Nat.not_lt.2 h, hnew, hfull]

theorem answerListAdd_replaces {old : ListEntry} {l : List ListEntry} (hold : findListed key s.rsu.list = some old)
    (hl : replaceListed { key := key, action := action, reason := reason, added := tariffTime s } s.rsu.list = l) :
    answerListAdd body s =
      okReply (u8 2 ++ u8 s.rsu.list.length ++ old.fields) (withRsu { s.rsu with list := l } s) := by
  simp [answerListAdd, hk, ha, hr, Nat.not_lt.2 h, hold, hl]

end

section
variable {s : State} {body : List Byte} {key : CredKey} (hk : credKeyAt body 0 = key)
include hk

theorem answerListRemove_noSuch (hnew : findListed key s.rsu.list = none) :
    answerListRemove body s = refuse .noSuch s := by
  simp [answerListRemove, hk, hnew]

theorem answerListRemove_removes {old : ListEntry} {l : List ListEntry} (hold : findListed key s.rsu.list = some old)
    (hl : s.rsu.list.filter (fun d => d.key != key) = l) :
    answerListRemove body s = okReply (old.fields ++ u8 l.length) (withRsu { s.rsu with list := l } s) := by
  simp [answerListRemove, hk, hold, hl]

end

/-- Settles O27: the list's one entry of the key is replaced in its place or removed, and a new one goes last. -/
theorem exactListRequests : Obligations.ExactListRequests := by
  refine ⟨fun tag rest key s hissuer hserial => ?_, fun tag rest s hr => ?_⟩
  · have hother {l : List ListEntry} (hd : ∀ d ∈ l, d.key ≠ key) : ∀ d ∈ l, (d.key == key) = false :=
      fun d h => beq_false_of_ne (hd d h)
    have hfound {front back : List ListEntry} {e : ListEntry} (he : e.key = key)
        (hd : ∀ d ∈ front ++ back, d.key ≠ key) : findListed key (front ++ e :: back) = some e :=
      find?_named (p := fun d : ListEntry => d.key == key) (beq_iff_eq.2 he)
        (fun d h => hother hd d (List.mem_append_left _ h)) back
    refine ⟨fun code reason hcode hreason hr => ?add, fun hr => ?remove⟩
    case add =>
      have hk : credKeyAt (u8 key.issuer ++ (u48 key.serial ++ (u8 code ++ u8 reason))) 0 = key :=
        credKeyAt_key hissuer hserial _
      have hcd : fieldAt (u8 key.issuer ++ (u48 key.serial ++ (u8 code ++ u8 reason))) 7 1 = code := by
        rw [fieldAt_u8_skip, fieldAt_u48_skip, fieldAt_u8_append _ hcode]
      have hrs : fieldAt (u8 key.issuer ++ (u48 key.serial ++ (u8 code ++ u8 reason))) 8 1 = reason := by
        rw [fieldAt_u8_skip, fieldAt_u48_skip, fieldAt_u8_skip, fieldAt_u8 hreason]
      refine ⟨fun h => ?_, fun action haction h => ⟨fun hnew hroom => ?_, fun e more hl hd hfull => ?_,
        fun front back e hl he hd => ?_⟩⟩
      · exact exec_refused rfl hr rfl (answerListAdd_badField hcd hrs h)
      · have ha := answerListAdd_appends (s := reserveSlot rest s) hk ((congrArg _ hcd).trans haction) hrs h
          (findListed_eq_none hnew) hroom
        exact exec_taken (t := withRsu _ s) rfl hr rfl rfl ha
      · have ha := answerListAdd_full (s := reserveSlot rest s) hk ((congrArg _ hcd).trans haction) hrs h
          (hl ▸ findListed_eq_none hd) hfull
        have he := exec_unchanged (c := .listAdd) rfl hr rfl ha
        rw [show (reserveSlot rest s).rsu.list = e :: more from hl] at he
        exact he
      · have hl' : replaceListed { key := key, action := action, reason := reason, added := tariffTime s } s.rsu.list =
            front ++ { key := key, action := action, reason := reason, added := tariffTime s } :: back := by
          have hmap := map_named (p := fun d : ListEntry => d.key == key) (beq_iff_eq.2 he) (hother hd) fun _ =>
            { key := key, action := action, reason := reason, added := tariffTime s }
          simp only [beq_iff_eq] at hmap
          rw [hl]
          exact hmap
        have ha := answerListAdd_replaces (s := reserveSlot rest s) hk ((congrArg _ hcd).trans haction) hrs h
          (hl ▸ hfound he hd) hl'
        exact exec_taken (t := withRsu _ s) rfl hr rfl rfl ha
    case remove =>
      have hk : credKeyAt (u8 key.issuer ++ u48 key.serial) 0 = key := by
        simpa using credKeyAt_key hissuer hserial []
      refine ⟨fun hnew => ?_, fun front back e hl he hd => ?_⟩
      · exact exec_refused rfl hr rfl (answerListRemove_noSuch hk (findListed_eq_none hnew))
      · have hl' : s.rsu.list.filter (fun d => d.key != key) = front ++ back := by
          rw [hl]
          exact filter_named (p := fun d : ListEntry => d.key == key) (beq_iff_eq.2 he) (hother hd)
        have ha := answerListRemove_removes (s := reserveSlot rest s) hk (hl ▸ hfound he hd) hl'
        exact exec_taken (t := withRsu _ s) rfl hr rfl rfl ha
  · exact exec_taken (h := answerListFlush) (t := withRsu _ s) rfl hr rfl rfl rfl

end Sys2Proof.Machine
end

section
/-! The requests that load the Tariff Area Table and the Finding Policy Table (R43, R62 to R64, R75, R76). -/

namespace Sys2Proof.Machine

/-! ### The Tariff Area Table (R62 to R64) -/

theorem bitAt_eq_testBit (bits : List Byte) (p : Nat) :
    bitAt bits p = (bits.getD (p / 8) 0).toNat.testBit (7 - p % 8) := by
  simp [bitAt, BitVec.getMsbD, BitVec.getLsbD, Nat.mod_lt p (show 0 < 8 by decide)]

theorem Ven.areaOf_eq (v : Ven) {i : Nat} (h : i < 8) : v.areaOf i = v.areas[i] := by
  simp [Ven.areaOf, h]

theorem setIfInBounds_eq_set {α : Type} {n i : Nat} (xs : Vector α n) (x : α) (h : i < n) :
    xs.setIfInBounds i x = xs.set i x := by
  simp [Vector.setIfInBounds, Vector.set, Array.setIfInBounds, h]

section
variable {s : State} {body : List Byte} {area : Nat} (hi : fieldAt body 0 1 = area)
include hi

theorem answerAreaSet_badField {step : Nat} (hs : fieldAt body 4 1 = step) (h : 7 < area ∨ step ∉ roundingSteps) :
    answerAreaSet body s = refuse .badField s := by
  simp only [answerAreaSet, hi, hs]
  split
  · rfl
  next hle => exact if_pos (by simpa using h.resolve_left hle)

/-- The entry that AREA-SET stores: the body's fields, clamped, and the acceptance map as it was (R63). -/
def areaEntryOf (body : List Byte) (accept : Vector (List Byte) 8) : AreaEntry :=
  { configured := true, rate := fieldAt body 1 2, kmin := fieldAt body 3 1, step := fieldAt body 4 1,
    cap := min 1000000 (fieldAt body 5 4), surcharge := fieldAt body 9 2, childPercent := min 100 (fieldAt body 11 1),
    toleranceCap := min 240 (fieldAt body 12 1), accept := accept }

/-- The values of an entry as the AREA-SET reply gives them (log 25). -/
def AreaEntry.fields (e : AreaEntry) : List Byte :=
  u16 e.rate ++ u8 e.kmin ++ u8 e.step ++ u32 e.cap ++ u16 e.surcharge ++ u8 e.childPercent ++ u8 e.toleranceCap

theorem answerAreaSet_sets (hstep : fieldAt body 4 1 ∈ roundingSteps) (h : area < 8) :
    answerAreaSet body s =
      okReply ((areaEntryOf body s.ven.areas[area].accept).fields ++ u8 (bit s.ven.areas[area].configured))
        (withVen { s.ven with
          areas := s.ven.areas.set area (areaEntryOf body s.ven.areas[area].accept) } s) := by
  have hle : ¬ 7 < area := by omega
  have hin : ¬ (!roundingSteps.contains (fieldAt body 4 1)) = true := by simpa using hstep
  simp only [answerAreaSet, hi, if_neg hle, if_neg hin, Ven.areaOf_eq _ h, setIfInBounds_eq_set _ _ h]
  rfl

theorem answerAcceptMap_badField {g : Nat} (hg : fieldAt body 1 1 = g) (h : 7 < area ∨ 7 < g) :
    answerAcceptMap body s = refuse .badField s := by
  simp only [answerAcceptMap, hi, hg]
  exact if_pos h

theorem answerAcceptMap_stores {g : Nat} {bits : List Byte} (hg : fieldAt body 1 1 = g) (hb : body.drop 2 = bits)
    (h : area < 8) (hg8 : g < 8) :
    answerAcceptMap body s = okReply [] (withVen { s.ven with
      areas := s.ven.areas.set area
        { s.ven.areas[area] with accept := s.ven.areas[area].accept.setIfInBounds g bits } } s) := by
  have hle : ¬ (7 < area ∨ 7 < g) := by omega
  simp only [answerAcceptMap, hi, hg, hb, if_neg hle, Ven.areaOf_eq _ h, setIfInBounds_eq_set s.ven.areas _ h]

end

/-- The eighth of the acceptance map that is replaced, and the others (R64). -/
theorem accepts_setIfInBounds (e : AreaEntry) {g : Nat} (bits : List Byte) (hg : g < 8) (p : Nat) :
    ({ e with accept := e.accept.setIfInBounds g bits } : AreaEntry).accepts p =
      if p / 512 = g then bitAt bits (p % 512) else e.accepts p := by
  unfold AreaEntry.accepts
  split
  next heq => simp [heq, hg]
  next hne => simp [Vector.getElem?_setIfInBounds_ne (Ne.symm hne)]

/-- Settles O29: each field of AREA-SET is read from its place in the body; ACCEPT-MAP replaces one eighth. -/
theorem areaTableRequests : Obligations.AreaTableRequests := by
  refine ⟨bitAt_eq_testBit, fun v i h => v.areaOf_eq h, fun tag rest area s harea => ⟨?set, ?map⟩⟩
  case set =>
    intro rate kmin step cap surcharge child tol hrate hkmin hstep hcap hsurcharge hchild htol hr
    generalize hbody : u8 area ++ (u16 rate ++ (u8 kmin ++ (u8 step ++ (u32 cap ++ (u16 surcharge ++
      (u8 child ++ u8 tol)))))) = body at hr
    have hi : fieldAt body 0 1 = area := by rw [← hbody, fieldAt_u8_append _ harea]
    have hs : fieldAt body 4 1 = step := by
      rw [← hbody, fieldAt_u8_skip, fieldAt_u16_skip, fieldAt_u8_skip, fieldAt_u8_append _ hstep]
    have hentry (accept : Vector (List Byte) 8) : areaEntryOf body accept =
        { configured := true, rate := rate, kmin := kmin, step := step, cap := min 1000000 cap, surcharge := surcharge,
          childPercent := min 100 child, toleranceCap := min 240 tol, accept := accept } := by
      rw [areaEntryOf, hs, ← hbody]
      simp only [fieldAt_u8_skip, fieldAt_u16_skip, fieldAt_u32_skip, fieldAt_u8_append _ hkmin,
        fieldAt_u16_append _ hrate, fieldAt_u32_append _ hcap, fieldAt_u16_append _ hsurcharge,
        fieldAt_u8_append _ hchild, fieldAt_u8 htol]
    have hsize : sizeOk 0x2C body = true := by rw [← hbody]; rfl
    refine ⟨fun h => ?_, fun h hmem => ?_⟩
    · exact exec_refused rfl hr hsize (answerAreaSet_badField hi hs h)
    · have ha := answerAreaSet_sets (s := reserveSlot rest s) hi (hs.symm ▸ hmem) h
      rw [hentry] at ha
      exact exec_taken (t := withVen _ s) rfl hr hsize rfl ha
  case map =>
    intro g bits hg hlen hr
    have hi : fieldAt (u8 area ++ (u8 g ++ bits)) 0 1 = area := fieldAt_u8_append _ harea
    have hgs : fieldAt (u8 area ++ (u8 g ++ bits)) 1 1 = g := by rw [fieldAt_u8_skip, fieldAt_u8_append _ hg]
    have hsize : sizeOk 0x2D (u8 area ++ (u8 g ++ bits)) = true := by
      rw [sizeOk, List.length_append, List.length_append, hlen]
      rfl
    refine ⟨fun h => ?_, fun h hg8 => ⟨{ s.ven.areas[area] with
      accept := s.ven.areas[area].accept.setIfInBounds g bits }, ?_, rfl, fun p _ => accepts_setIfInBounds _ _ hg8 p⟩⟩
    · exact exec_refused rfl hr hsize (answerAcceptMap_badField hi hgs h)
    · have ha := answerAcceptMap_stores (s := reserveSlot rest s) hi hgs rfl h hg8
      exact exec_taken (t := withVen _ s) rfl hr hsize rfl ha

/-! ### The Finding Policy Table (R75, R76) -/

theorem Policy.ofCode?_eq_none {n : Nat} (h : n < 1 ∨ 3 < n) : Policy.ofCode? n = none := by
  unfold Policy.ofCode?
  split
  · omega
  · omega
  · omega
  · rfl

theorem Policy.ofCode?_code (p : Policy) : Policy.ofCode? p.code = some p := by
  cases p <;> rfl

theorem Finding.ofCode?_eq_none {n : Nat} (h : n < 1 ∨ 19 < n) : Finding.ofCode? n = none := by
  refine List.find?_eq_none.2 fun f _ hf => ?_
  have hcode : f.code = n := by simpa using hf
  have hbounds := f.code_bounds
  omega

section
variable {s : State} {body : List Byte}

theorem answerPolicySet_badField {code policy : Nat} (hc : fieldAt body 0 1 = code) (hp : fieldAt body 1 1 = policy)
    (h : code < 1 ∨ 19 < code ∨ policy < 1 ∨ 3 < policy) : answerPolicySet body s = refuse .badField s := by
  simp only [answerPolicySet, hc, hp]
  split
  next f p hf hpol =>
    rcases h with h | h | h
    · simp [Finding.ofCode?_eq_none (.inl h)] at hf
    · simp [Finding.ofCode?_eq_none (.inr h)] at hf
    · simp [Policy.ofCode?_eq_none h] at hpol
  next => rfl

theorem answerPolicySet_sets {f : Finding} {p : Policy} (hc : fieldAt body 0 1 = f.code)
    (hp : fieldAt body 1 1 = p.code) :
    answerPolicySet body s =
      okReply (u8 ((s.ven.setPolicy f p).policyOf f).code) (withVen (s.ven.setPolicy f p) s) := by
  simp only [answerPolicySet, hc, hp, Finding.ofCode?_code, Policy.ofCode?_code]
  rfl

end

theorem Finding.fixed_iff (f : Finding) :
    f.fixed = true ↔
      f ∈ [Finding.checkMismatch, .issuerUnknown, .keyWithdrawn, .revoked, .areaUnconfigured, .registerFull] := by
  cases f <;> decide

/-- Settles O30: a fixed policy stays, another is replaced, and no other finding's policy moves. -/
theorem policySetKeepsFixed : Obligations.PolicySetKeepsFixed := by
  intro tag rest code policy s hcode hpolicy hr
  have hc : fieldAt (u8 code ++ u8 policy) 0 1 = code := fieldAt_u8_append _ hcode
  have hp : fieldAt (u8 code ++ u8 policy) 1 1 = policy := by rw [fieldAt_u8_skip, fieldAt_u8 hpolicy]
  refine ⟨fun h => exec_refused rfl hr rfl (answerPolicySet_badField hc hp h), fun f p hf hpol => ⟨fun h => ?_, fun h => ?_⟩⟩
  · have ha := answerPolicySet_sets (s := reserveSlot rest s) (hc.trans hf.symm) (hp.trans hpol.symm)
    have hsame : s.ven.setPolicy f p = s.ven := if_pos ((Finding.fixed_iff f).2 h)
    rw [show (reserveSlot rest s).ven.setPolicy f p = s.ven from hsame] at ha
    exact exec_taken (t := s) rfl hr rfl rfl ha
  · have ha := answerPolicySet_sets (s := reserveSlot rest s) (hc.trans hf.symm) (hp.trans hpol.symm)
    have hfree : f.fixed = false := by rwa [← Bool.not_eq_true, Finding.fixed_iff]
    have hset : (s.ven.setPolicy f p).policyOf f = p := by simp [Ven.policyOf_setPolicy, hfree]
    have he := exec_taken (c := .policySet) (t := withVen (s.ven.setPolicy f p) s) rfl hr rfl rfl ha
    rw [show ((reserveSlot rest s).ven.setPolicy f p).policyOf f = p from hset, hpol] at he
    refine ⟨s.ven.setPolicy f p, he, ?_, hset, fun g hg => ?_⟩
    · unfold Ven.setPolicy
      split <;> rfl
    · simp [Ven.policyOf_setPolicy, Ne.symm hg]

end Sys2Proof.Machine
end

section
/-! The staging of a route and the arrival at a stop (R20 to R23, R29, R38). -/

namespace Sys2Proof.Machine

section
variable {s : State} {body : List Byte}

theorem journeyClosing_eq_true (h : ∃ j, s.jcu.journey = some j ∧ j.closing = true) : journeyClosing s = true := by
  obtain ⟨j, hj, hc⟩ := h
  simp [journeyClosing, hj, hc]

theorem journeyClosing_eq_false (h : ∀ j, s.jcu.journey = some j → j.closing = false) : journeyClosing s = false := by
  cases hj : s.jcu.journey with
  | none => simp [journeyClosing, hj]
  | some j => simp [journeyClosing, hj, h j hj]

/-! ### ROUTE-BEGIN (R20) -/

theorem answerRouteBegin_wrongState
    (h : (∃ j, s.jcu.journey = some j ∧ j.closing = true) ∨ ∃ r, s.jcu.staging = .armed r) :
    answerRouteBegin body s = refuse .wrongState s := by
  by_cases hc : journeyClosing s = true
  · simp [answerRouteBegin, hc]
  · obtain ⟨r, hr⟩ := h.resolve_left fun hj => hc (journeyClosing_eq_true hj)
    simp [answerRouteBegin, hc, hr]

/-- The route is begun while no journey is closing and no route is armed. -/
theorem answerRouteBegin_begins {service count dayStart : Nat} (hs : fieldAt body 0 2 = service)
    (hc : fieldAt body 2 1 = count) (hd : fieldAt body 3 4 = dayStart)
    (hj : ∀ j, s.jcu.journey = some j → j.closing = false) (hst : ∀ r, s.jcu.staging ≠ .armed r) :
    answerRouteBegin body s =
      if service = 0 ∨ count < 2 ∨ 64 < count then refuse .badField s
      else okReply [] (withJcu { s.jcu with staging := .filling service count dayStart [] } s) := by
  cases hstaging : s.jcu.staging with
  | armed r => exact absurd hstaging (hst r)
  | empty => simp [answerRouteBegin, journeyClosing_eq_false hj, hstaging, hs, hc, hd]
  | filling => simp [answerRouteBegin, journeyClosing_eq_false hj, hstaging, hs, hc, hd]

/-! ### ROUTE-STOPS (R21) -/

/-- A stop record as the request carries it (R186). -/
def Stop.bytes (st : Stop) : List Byte :=
  u16 st.code ++ (u16 st.post ++ (u8 st.area ++ (u8 st.zone ++ u16 st.planned)))

/-- The fields of a stop record fit their bytes. -/
def Stop.fits (st : Stop) : Prop :=
  st.code < 65536 ∧ st.post < 65536 ∧ st.area < 256 ∧ st.zone < 256 ∧ st.planned < 65536

theorem Stop.bytes_length (st : Stop) : st.bytes.length = 8 := rfl

theorem fieldAt_drop (x : List Byte) (off d len : Nat) : fieldAt (x.drop off) d len = fieldAt x (off + d) len := by
  simp [fieldAt, List.drop_drop]

theorem stopAt_drop (x : List Byte) (off : Nat) : stopAt (x.drop off) 0 = stopAt x off := by
  simp only [stopAt, fieldAt_drop, Nat.zero_add, Nat.add_zero]

theorem stopAt_bytes {st : Stop} (h : st.fits) (y : List Byte) : stopAt (st.bytes ++ y) 0 = st := by
  obtain ⟨hcode, hpost, harea, hzone, hplanned⟩ := h
  simp only [stopAt, Stop.bytes, List.append_assoc, Nat.zero_add, fieldAt_u16_skip _ _ 0, fieldAt_u16_skip _ _ 2,
    fieldAt_u16_skip _ _ 1, fieldAt_u16_skip _ _ 3, fieldAt_u16_skip _ _ 4, fieldAt_u8_skip _ _ 0, fieldAt_u8_skip _ _ 1,
    fieldAt_u16_append _ hcode, fieldAt_u16_append _ hpost, fieldAt_u8_append _ harea, fieldAt_u8_append _ hzone,
    fieldAt_u16_append _ hplanned]

/-- The records of a body that lays out stops are those stops. -/
theorem stopAt_flatMap {stops : List Stop} (h : ∀ st ∈ stops, st.fits) {x : List Byte} {off : Nat}
    (hx : x.drop off = stops.flatMap Stop.bytes) :
    (List.range stops.length).map (fun i => stopAt x (off + 8 * i)) = stops := by
  induction stops generalizing off with
  | nil => rfl
  | cons st stops ih =>
    have hhead : stopAt x off = st := by
      rw [← stopAt_drop, hx, List.flatMap_cons, stopAt_bytes (h st (by simp))]
    have htail : x.drop (off + 8) = stops.flatMap Stop.bytes := by
      rw [← List.drop_drop, hx, List.flatMap_cons]
      exact List.drop_left' st.bytes_length
    have hrest := ih (fun st hst => h st (List.mem_cons_of_mem _ hst)) htail
    rw [List.length_cons, List.range_succ_eq_map, List.map_cons, List.map_map, Nat.mul_zero, Nat.add_zero, hhead]
    refine congrArg (st :: ·) (Eq.trans ?_ hrest)
    refine List.map_congr_left fun i _ => ?_
    simp only [Function.comp, Nat.mul_succ, Nat.add_assoc, Nat.add_comm 8]

theorem length_flatMap_const {α β : Type} {f : α → List β} {n : Nat} (h : ∀ x, (f x).length = n) (l : List α) :
    (l.flatMap f).length = l.length * n := by
  simp only [List.length_flatMap, h, List.map_const', List.sum_replicate_nat]

theorem stopRecords_body {stops : List Stop} (h : ∀ st ∈ stops, st.fits) (first n : Nat) :
    stopRecords (u8 first ++ (u8 n ++ stops.flatMap Stop.bytes)) stops.length = stops :=
  stopAt_flatMap h rfl

theorem stopOk_iff {st : Stop} : stopOk st = true ↔ st.code ≠ 0 ∧ st.area ≤ 7 ∧ st.planned ≤ 2879 := by
  simp [stopOk, and_assoc]

theorem answerRouteStops_wrongState
    (h : (∃ j, s.jcu.journey = some j ∧ j.closing = true) ∨ ∀ a b c d, s.jcu.staging ≠ .filling a b c d) :
    answerRouteStops body s = refuse .wrongState s := by
  by_cases hc : journeyClosing s = true
  · simp [answerRouteStops, hc]
  · have hst := h.resolve_left fun hj => hc (journeyClosing_eq_true hj)
    cases hstaging : s.jcu.staging with
    | filling a b c d => exact absurd hstaging (hst a b c d)
    | empty => simp [answerRouteStops, hc, hstaging]
    | armed => simp [answerRouteStops, hc, hstaging]

section
variable {first service count dayStart : Nat} {stops received : List Stop} (hf : fieldAt body 0 1 = first)
  (hn : fieldAt body 1 1 = stops.length) (hrecords : stopRecords body stops.length = stops)
  (hst : s.jcu.staging = .filling service count dayStart received)
  (hj : ∀ j, s.jcu.journey = some j → j.closing = false)
include hf hn hrecords hst hj

theorem answerRouteStops_badField
    (h : first ≠ received.length ∨ stops = [] ∨ 16 < stops.length ∨ count < first + stops.length ∨
      ∃ st ∈ stops, st.code = 0 ∨ 7 < st.area ∨ 2879 < st.planned) :
    answerRouteStops body s = refuse .badField s := by
  simp only [answerRouteStops, hf, hn, hrecords, hst, journeyClosing_eq_false hj, Bool.false_eq_true, if_false]
  split
  · rfl
  split
  · rfl
  next hfirst hlen =>
    refine if_pos ?_
    obtain ⟨st, hmem, hbad⟩ : ∃ st ∈ stops, st.code = 0 ∨ 7 < st.area ∨ 2879 < st.planned := by
      have hempty : stops = [] ↔ stops.length = 0 := List.length_eq_zero_iff.symm
      rcases h with h | h | h | h | h
      · exact absurd h hfirst
      · exact absurd (.inl (hempty.1 h)) hlen
      · exact absurd (.inr (.inl h)) hlen
      · exact absurd (.inr (.inr h)) hlen
      · exact h
    have hnot : ¬ stops.all stopOk = true := fun hall => by
      obtain ⟨hcode, harea, hplanned⟩ := stopOk_iff.1 (List.all_eq_true.1 hall st hmem)
      omega
    simpa using hnot

theorem answerRouteStops_stores (hfirst : first = received.length) (hne : stops ≠ []) (h16 : stops.length ≤ 16)
    (hroom : first + stops.length ≤ count) (hok : ∀ st ∈ stops, st.code ≠ 0 ∧ st.area ≤ 7 ∧ st.planned ≤ 2879) :
    answerRouteStops body s = okReply (u8 (first + stops.length))
      (withJcu { s.jcu with staging := .filling service count dayStart (received ++ stops) } s) := by
  have hall : stops.all stopOk = true := List.all_eq_true.2 fun st h => stopOk_iff.2 (hok st h)
  have hlen : ¬ (stops.length = 0 ∨ 16 < stops.length ∨ count < first + stops.length) := by
    have hpos := List.length_pos_iff.2 hne
    omega
  simp only [answerRouteStops, hf, hn, hrecords, hst, journeyClosing_eq_false hj, Bool.false_eq_true, if_false,
    ne_eq, not_true_eq_false, if_neg hlen, hall, Bool.not_true, ← hfirst]

end

/-! ### ROUTE-ARM (R22) -/

theorem answerRouteArm_wrongState
    (h : (∃ j, s.jcu.journey = some j ∧ j.closing = true) ∨
      ∀ a b c d, s.jcu.staging = .filling a b c d → d.length < b) :
    answerRouteArm body s = refuse .wrongState s := by
  by_cases hc : journeyClosing s = true
  · simp [answerRouteArm, hc]
  · have hst := h.resolve_left fun hj => hc (journeyClosing_eq_true hj)
    cases hstaging : s.jcu.staging with
    | filling a b c d => simp [answerRouteArm, hc, hstaging, hst a b c d hstaging]
    | empty => simp [answerRouteArm, hc, hstaging]
    | armed => simp [answerRouteArm, hc, hstaging]

section
variable {service count dayStart : Nat} {stops : List Stop} (hst : s.jcu.staging = .filling service count dayStart stops)
  (hl : count ≤ stops.length) (hj : ∀ j, s.jcu.journey = some j → j.closing = false)
include hst hl hj

theorem answerRouteArm_faulty {i : Nat} (h : firstRouteFault stops = some i) :
    answerRouteArm body s = (s, u8 Status.badField.code ++ u8 i) := by
  simp only [answerRouteArm, journeyClosing_eq_false hj, hst, if_neg (Nat.not_lt.2 hl), h, Bool.false_eq_true, if_false]

theorem answerRouteArm_arms (h : firstRouteFault stops = none) :
    answerRouteArm body s = okReply (u16 service ++ u8 count)
      (withJcu { s.jcu with staging := .armed { service := service, dayStart := dayStart, stops := stops } } s) := by
  simp only [answerRouteArm, journeyClosing_eq_false hj, hst, if_neg (Nat.not_lt.2 hl), h, Bool.false_eq_true, if_false]

end

/-- A route is sound exactly when ROUTE-ARM finds no fault in it (R22). -/
theorem firstRouteFault_eq_none_iff {stops : List Stop} :
    firstRouteFault stops = none ↔ stops.Pairwise Stop.precedes := by
  refine ⟨firstRouteFault_eq_none, fun h => ?_⟩
  cases hfault : firstRouteFault stops with
  | none => rfl
  | some i =>
    obtain ⟨-, -, hunsound⟩ := firstRouteFault_eq_some hfault
    exact absurd (h.sublist (List.take_sublist _ _)) hunsound

end

/-- Settles O20: by the branches of the four requests, tested in the order of R20 to R23. -/
theorem routesAreStaged : Obligations.RoutesAreStaged := by
  refine ⟨fun tag rest service count dayStart s hservice hcount hday hr => ?begin,
    fun tag rest first stops s hfirst hlen hfits hr => ?stops, fun tag rest s hr => ?arm, fun tag rest s hr => ?cancel⟩
  case begin =>
    have hs : fieldAt (u16 service ++ u8 count ++ u32 dayStart) 0 2 = service := by
      rw [List.append_assoc, fieldAt_u16_append _ hservice]
    have hc : fieldAt (u16 service ++ u8 count ++ u32 dayStart) 2 1 = count := by
      rw [List.append_assoc, fieldAt_u16_skip, fieldAt_u8_append _ hcount]
    have hd : fieldAt (u16 service ++ u8 count ++ u32 dayStart) 3 4 = dayStart := by
      rw [List.append_assoc, fieldAt_u16_skip, fieldAt_u8_skip, fieldAt_u32 hday]
    refine ⟨fun h => ?_, fun hj hst => ⟨fun h => ?_, fun h0 h2 h64 => ?_⟩⟩
    · exact exec_refused rfl hr rfl (answerRouteBegin_wrongState (s := reserveSlot rest s) h)
    · have ha := answerRouteBegin_begins (s := reserveSlot rest s) hs hc hd hj hst
      exact exec_refused rfl hr rfl (ha.trans (if_pos h))
    · have ha := answerRouteBegin_begins (s := reserveSlot rest s) hs hc hd hj hst
      rw [if_neg (by omega)] at ha
      exact exec_taken (t := withJcu _ s) rfl hr rfl rfl ha
  case stops =>
    generalize hbody : u8 first ++ (u8 stops.length ++ stops.flatMap Stop.bytes) = body
    change Ready 0x15 tag (u8 first ++ (u8 stops.length ++ stops.flatMap Stop.bytes)) rest s at hr
    rw [hbody] at hr
    have hf : fieldAt body 0 1 = first := by rw [← hbody, fieldAt_u8_append _ hfirst]
    have hn : fieldAt body 1 1 = stops.length := by
      rw [← hbody, fieldAt_u8_skip, fieldAt_u8_append _ (by omega)]
    have hrecords : stopRecords body stops.length = stops := hbody ▸ stopRecords_body hfits first stops.length
    have hsize : sizeOk 0x15 body = true := by
      have hbytes : (stops.flatMap Stop.bytes).length = 8 * stops.length := by
        rw [length_flatMap_const Stop.bytes_length, Nat.mul_comm]
      have hlength : body.length = 2 + 8 * stops.length := by
        rw [← hbody, List.length_append, List.length_append, hbytes, u8_length, u8_length]
        omega
      simp [sizeOk, presentKind, routeStopsKind, hn, hlength]
    refine ⟨fun h => ?_, fun service count dayStart received hst hj => ⟨fun h => ?_, fun hat hne h16 hroom hok => ?_⟩⟩
    · exact exec_refused rfl hr hsize (answerRouteStops_wrongState (s := reserveSlot rest s) h)
    · exact exec_refused rfl hr hsize (answerRouteStops_badField (s := reserveSlot rest s) hf hn hrecords hst hj h)
    · have ha := answerRouteStops_stores (s := reserveSlot rest s) hf hn hrecords hst hj hat hne h16 hroom hok
      exact exec_taken (t := withJcu _ s) rfl hr hsize rfl ha
  case arm =>
    refine ⟨fun h => ?_, fun service count dayStart stops hst hl hj => ⟨fun h => ?_, fun h => ?_⟩⟩
    · exact exec_refused rfl hr rfl (answerRouteArm_wrongState (s := reserveSlot rest s) h)
    · have ha := answerRouteArm_arms (body := []) (s := reserveSlot rest s) hst hl hj (firstRouteFault_eq_none_iff.2 h)
      exact exec_taken (t := withJcu _ s) rfl hr rfl rfl ha
    · cases hfault : firstRouteFault stops with
      | none => exact absurd (firstRouteFault_eq_none_iff.1 hfault) h
      | some i =>
        obtain ⟨hi, hsound, hunsound⟩ := firstRouteFault_eq_some hfault
        have ha := answerRouteArm_faulty (body := []) (s := reserveSlot rest s) hst hl hj hfault
        exact ⟨i, hi, hsound, hunsound, exec_unchanged rfl hr rfl ha⟩
  case cancel =>
    have he := exec_taken (h := answerRouteCancel) (c := .routeCancel) (t := withJcu { s.jcu with staging := .empty } s)
      rfl hr rfl rfl rfl
    have hbefore : u8 s.jcu.staging.code = [match s.jcu.staging with
        | .empty => 0
        | .filling _ _ _ _ => 1
        | .armed _ => 2] := by
      cases s.jcu.staging <;> rfl
    rw [show (reserveSlot rest s).jcu.staging.code = s.jcu.staging.code from rfl, hbefore] at he
    exact he

/-! ### STOP-ARRIVE (R29, R38) -/

section
variable {s : State} {body : List Byte} {j : Running} {k : Nat}

theorem answerStopArrive_wrongState
    (h : ∀ j, s.jcu.journey = some j → j.closing = true ∨ ∃ i, j.position = .atStop i) :
    answerStopArrive body s = refuse .wrongState s := by
  cases hj : s.jcu.journey with
  | none => simp [answerStopArrive, hj]
  | some j =>
    by_cases hc : j.closing = true
    · simp [answerStopArrive, hj, hc]
    · obtain ⟨i, hi⟩ := (h j hj).resolve_left hc
      simp [answerStopArrive, hj, hc, hi]

variable {i : Nat} (hk : fieldAt body 0 1 = k) (hj : s.jcu.journey = some j) (ho : j.closing = false)
  (hp : j.position = .running i)
include hk hj ho hp

theorem answerStopArrive_badField (h : k < i + 1 ∨ j.route.stops.length < k + 1) :
    answerStopArrive body s = refuse .badField s := by
  simp only [answerStopArrive, hk, hj, ho, hp, Bool.false_eq_true, if_false, if_pos h]

/-- An arrival within the route: at the stop, and into CLOSING where the route or the flag says so. -/
theorem answerStopArrive_arrives {t : State} (hfirst : i + 1 ≤ k) (hlast : k + 1 ≤ j.route.stops.length)
    (ht : (if k + 1 = j.route.stops.length ∨ s.jcu.closeAtArrival = true then enterClosing (arrivedAt j k s)
      else arrivedAt j k s) = t) :
    answerStopArrive body s = okReply ((Position.atStop k).bytes ++ u8 t.jcu.stateCode) t := by
  have hin : ¬ (k < i + 1 ∨ j.route.stops.length < k + 1) := by omega
  have hopen : ¬ j.closing = true := by simp [ho]
  simp only [answerStopArrive, hk, hj, hp, if_neg hopen, if_neg hin, ← ht]
  rfl

end

/-- Settles O21: an arrival short of the last stop, and the entry into CLOSING with and without an armed route. -/
theorem stopArriveReachesStop : Obligations.StopArriveReachesStop := by
  intro tag rest k s hlt hr
  have hk : fieldAt (u8 k) 0 1 = k := fieldAt_u8 hlt
  refine ⟨fun h => ?_, fun j i hj ho hp => ⟨fun h => ?_, fun hfirst hlast hflag => ?_, fun hfirst hlast hclose =>
    ⟨fun hst => ?_, fun r hst => ?_⟩⟩⟩
  · exact exec_refused rfl hr rfl (answerStopArrive_wrongState (s := reserveSlot rest s) h)
  · exact exec_refused rfl hr rfl (answerStopArrive_badField (s := reserveSlot rest s) hk hj ho hp h)
  · have hshort : ¬ (k + 1 = j.route.stops.length ∨ s.jcu.closeAtArrival = true) := by
      rw [hflag]
      rintro (h | h)
      · omega
      · cases h
    have ha := answerStopArrive_arrives (s := reserveSlot rest s) hk hj ho hp hfirst (Nat.le_of_lt hlast) (if_neg hshort)
    have hcode : (arrivedAt j k (reserveSlot rest s)).jcu.stateCode = 1 := by
      simp [arrivedAt, Jcu.stateCode, ho]
    rw [hcode] at ha
    exact exec_taken (t := arrivedAt j k s) rfl hr rfl rfl ha
  · have hclosing := enterClosing_unarmed (s := arrivedAt j k (reserveSlot rest s)) rfl hst
    have ha := answerStopArrive_arrives (s := reserveSlot rest s) hk hj ho hp hfirst hlast ((if_pos hclose).trans hclosing)
    exact exec_taken (t := withJcu (closingJcu { j with position := .atStop k } s.jcu) s) rfl hr rfl rfl ha
  · have hclosing := enterClosing_armed (s := arrivedAt j k (reserveSlot rest s)) rfl hst
    have ha := answerStopArrive_arrives (s := reserveSlot rest s) hk hj ho hp hfirst hlast ((if_pos hclose).trans hclosing)
    have he := exec_taken_then (c := .stopArrive)
      (t := withJcu (closingJcu { j with position := .atStop k } { s.jcu with staging := .empty }) s)
      (repliesFirst_sendWaiting (.routeDiscarded .closing r.service)) rfl hr rfl rfl ha
    exact he

end Sys2Proof.Machine
end

section
/-! Reception on the host line and the production of notices (R154 to R156, R160, R161, R168). -/

namespace Sys2Proof.Machine

/-! ### The marker's wake (R154, R168) -/

/-- The link once the marker of a frame has come: a part that hunts in STANDBY is woken (R168). -/
def Lif.woken (l : Lif) : Lif :=
  if l.power = .standby ∧ l.receiver = .hunting then
    produceWaiting (.wake .link) { l with power := .active, standbyToSend := 0 }
  else l

theorem Lif.woken_awake {l : Lif} (h : l.power = .active ∨ l.receiver = .inFrame) : l.woken = l := by
  refine if_neg ?_
  rintro ⟨hpower, hreceiver⟩
  rcases h with h | h
  · simp [hpower] at h
  · simp [hreceiver] at h

theorem produceWaiting_wake_receiver (r : Receiver) (l : Lif) :
    produceWaiting (.wake .link) { l with receiver := r } = { produceWaiting (.wake .link) l with receiver := r } := by
  unfold produceWaiting
  split
  next h => rw [if_pos (show 0 < freeSlots l from h)]; rfl
  next h => rw [if_neg (show ¬ 0 < freeSlots l from h)]

theorem markerReceived_eq (l : Lif) : markerReceived l = { l.woken with receiver := .inFrame } := by
  unfold markerReceived
  split
  next hr =>
    cases hp : l.power with
    | active => simp only [Lif.woken_awake (.inl hp), wakeLif, hp]
    | standby =>
      rw [Lif.woken, if_pos ⟨hp, hr⟩]
      exact produceWaiting_wake_receiver .inFrame { l with power := .active, standbyToSend := 0 }
  next hr => rw [Lif.woken_awake (.inr hr), ← hr]

/-- After the marker the frame ends, by a fault or complete, and the receiver hunts again. -/
theorem markerReceived_hunting (l : Lif) :
    { markerReceived l with receiver := .hunting } = { l.woken with receiver := .hunting } := by
  rw [markerReceived_eq]

@[simp] theorem Lif.woken_requests (l : Lif) : l.woken.requests = l.requests := by
  unfold Lif.woken produceWaiting
  split
  · split <;> rfl
  · rfl

@[simp] theorem Lif.woken_faultCount (l : Lif) : l.woken.faultCount = l.faultCount := by
  unfold Lif.woken produceWaiting
  split
  · split <;> rfl
  · rfl

section
variable {l : Lif} (hp : l.power = .standby) (hr : l.receiver = .hunting)
include hp hr

theorem Lif.woken_enters (h : 0 < freeSlots l) :
    l.woken = { l with power := .active, standbyToSend := 0, outbound := l.outbound ++ [.frame (.notice (.wake .link))] } := by
  rw [Lif.woken, if_pos ⟨hp, hr⟩, produceWaiting, if_pos (show 0 < freeSlots { l with power := .active, standbyToSend := 0 } from h)]
  rfl

theorem Lif.woken_waits (h : freeSlots l = 0) :
    l.woken = { l with power := .active, standbyToSend := 0, waiting := l.waiting ++ [.wake .link] } := by
  rw [Lif.woken, if_pos ⟨hp, hr⟩, produceWaiting,
    if_neg (show ¬ 0 < freeSlots { l with power := .active, standbyToSend := 0 } from Nat.not_lt.2 (Nat.le_of_eq h))]

end

/-! ### Frames (R154, R156) -/

section
variable {kind tag : Byte} {body : List Byte} {crc : BitVec 16} {s : State}

theorem exec_hostFrameReceived (hn : s.resetN = true) :
    exec (.hostFrameReceived kind tag body crc) s = .next (withLif (frameReceived kind tag body crc s.lif) s) :=
  congrArg Host.Outcome.next (if_pos hn)

/-- A good frame joins the buffer while it has room. -/
theorem frameReceived_good {l : Lif} (hlen : body.length ≤ 240) (hroom : l.requests.length < 4) :
    frameReceived kind tag body (crc16 (kind :: tag :: u16 body.length ++ body)) l =
      { l.woken with
        receiver := .hunting
        requests := l.requests ++ [{ kind := kind, tag := tag, body := body }] } := by
  have hcrc : crc16 (coveredBytes kind tag body) = crc16 (kind :: tag :: u16 body.length ++ body) := rfl
  rw [frameReceived, if_neg (Nat.not_lt.2 hlen), if_pos hcrc, markerReceived_hunting, bufferFrame,
    if_pos (by simpa using hroom)]
  simp

theorem exec_markerWake (hn : s.resetN = true) :
    exec .markerWake s = .next (withLif { s.lif.woken with receiver := .inFrame } s) := by
  rw [← markerReceived_eq]
  exact congrArg Host.Outcome.next (if_pos hn)

end

/-- Settles O8: the marker's wake, by the power and the receiver, then the entry into the buffer. -/
theorem goodFrameIsBuffered : Obligations.GoodFrameIsBuffered := by
  refine ⟨fun kind tag body s hn hlen hroom h => ?_, fun kind tag body s hn hlen hroom hp hr hfree => ?_,
    fun kind tag body s hn hlen hroom hp hr hfull => ?_, fun s hn hr hp hfree => ?_, fun s hn hr hp hfull => ?_,
    fun s hn hr hp => ?_, fun s hr => ?_⟩
  · rw [exec_hostFrameReceived hn, frameReceived_good hlen hroom, Lif.woken_awake h]
    rfl
  · rw [exec_hostFrameReceived hn, frameReceived_good hlen hroom, Lif.woken_enters hp hr hfree, ← hr]
    rfl
  · rw [exec_hostFrameReceived hn, frameReceived_good hlen hroom, Lif.woken_waits hp hr hfull, ← hr]
    rfl
  · rw [exec_markerWake hn, Lif.woken_enters hp hr hfree]
    rfl
  · rw [exec_markerWake hn, Lif.woken_waits hp hr hfull]
    rfl
  · rw [exec_markerWake hn, Lif.woken_awake (.inl hp)]
    rfl
  · refine congrArg Host.Outcome.next (whenRunning_keeps (P := fun t => t = s) (fun _ => ?_) rfl)
    rw [markerReceived_eq, Lif.woken_awake (.inr hr), ← hr]
    rfl

/-! ### Faults (R155, R156) -/

/-- The link once a fault has been reported: the frame is discarded, and LINK-FAULT carries its cause, its header and the
count (R155). -/
def Lif.faulted (cause : LinkFaultCause) (header : Option (Byte × Byte)) (l : Lif) : Lif :=
  produceSingleton (.linkFault cause header (min 255 (l.faultCount + 1)))
    { l.woken with receiver := .hunting, faultCount := min 255 (l.faultCount + 1) }

section
variable {l : Lif} (hcount : l.faultCount ≤ 255)
include hcount

theorem faultFrame_eq (cause : LinkFaultCause) (header : Option (Byte × Byte)) :
    faultFrame cause header l = l.faulted cause header := by
  rw [faultFrame, markerReceived_hunting, linkFault]
  simp only [Lif.woken_faultCount, satSucc_eq_min hcount]
  rfl

variable {kind tag : Byte} {body : List Byte} {crc : BitVec 16}

theorem frameReceived_tooLong (h : 240 < body.length) :
    frameReceived kind tag body crc l = l.faulted .length (some (kind, tag)) :=
  (if_pos h).trans (faultFrame_eq hcount _ _)

theorem frameReceived_badCrc (h : body.length ≤ 240) (hcrc : crc ≠ crc16 (coveredBytes kind tag body)) :
    frameReceived kind tag body crc l = l.faulted .crc (some (kind, tag)) := by
  rw [frameReceived, if_neg (Nat.not_lt.2 h), if_neg (Ne.symm hcrc), faultFrame_eq hcount]

theorem frameReceived_overrun (h : body.length ≤ 240) (hcrc : crc = crc16 (coveredBytes kind tag body))
    (hfull : l.requests.length = 4) : frameReceived kind tag body crc l = l.faulted .overrun (some (kind, tag)) := by
  rw [frameReceived, if_neg (Nat.not_lt.2 h), if_pos hcrc.symm, markerReceived_hunting, bufferFrame,
    if_neg (by simp [hfull]), linkFault]
  simp only [Lif.woken_faultCount, satSucc_eq_min hcount]
  rfl

end

/-- Settles O9: each command is the fault it names; a frame is long, or has the wrong CRC, or finds the buffer full. -/
theorem lineFaultsReported : Obligations.LineFaultsReported := by
  intro kind tag body crc header s hn hcount
  have hfault (cause : LinkFaultCause) (header : Option (Byte × Byte)) :
      (whenRunning (fun s => withLif (faultFrame cause header s.lif) s) s) =
        withLif (s.lif.faulted cause header) s := by
    rw [whenRunning, if_pos hn, faultFrame_eq hcount]
  refine ⟨congrArg Host.Outcome.next (hfault _ _), congrArg Host.Outcome.next (hfault _ _),
    congrArg Host.Outcome.next (hfault _ _), fun hlen hcrc => ?_, fun hlen hcrc hfull => ?_, fun hlen => ?_⟩
  · rw [exec_hostFrameReceived hn, frameReceived_badCrc hcount hlen hcrc]
    rfl
  · rw [exec_hostFrameReceived hn, frameReceived_overrun hcount hlen hcrc hfull]
    rfl
  · rw [exec_hostFrameReceived hn, frameReceived_tooLong hcount hlen]
    rfl

/-! ### Notices that enter, wait or pend (R160, R161) -/

/-- Among pending notices that rise by kind, the one of a kind that is replaced is the only one. -/
theorem mem_insertPending_iff {n m : Notice} {ns : List Notice} (h : ns.Pairwise (fun a b => a.code < b.code)) :
    m ∈ insertPending n ns ↔ m = n ∨ (m ∈ ns ∧ m.code ≠ n.code) := by
  induction ns with
  | nil => simp [insertPending]
  | cons a as ih =>
    obtain ⟨habove, hrising⟩ := List.pairwise_cons.1 h
    have hne (hle : n.code ≤ a.code) : m ∈ as → m.code ≠ n.code := fun hm => by
      have hlt := habove m hm
      omega
    simp only [insertPending]
    split
    next hlt =>
      have hself : m = a → m.code ≠ n.code := by rintro rfl; omega
      have htail := hne (Nat.le_of_lt hlt)
      simp only [List.mem_cons]
      grind
    split
    next heq =>
      have hself : m = a → m.code = n.code := by rintro rfl; exact heq.symm
      have htail := hne (Nat.le_of_eq heq)
      simp only [List.mem_cons]
      grind
    next hneq =>
      have hself : m = a → m.code ≠ n.code := by rintro rfl; exact Ne.symm hneq
      simp only [List.mem_cons, ih hrising]
      grind

theorem cancelledCode_eq_some_iff {n : Notice} {k : Nat} :
    cancelledCode n = some k ↔ (n.code = 0x83 ∧ k = 0x84) ∨ (n.code = 0x84 ∧ k = 0x83) := by
  cases n <;> simp [cancelledCode, Notice.code, eq_comm]

/-- The pending notices after one has become pending: it, and those of other kinds that it does not cancel (R161). -/
theorem mem_pendNotice_iff {n m : Notice} {l : Lif} (h : pendingOk l.pendingNotices) :
    m ∈ (pendNotice n l).pendingNotices ↔
      m = n ∨ (m ∈ l.pendingNotices ∧ m.code ≠ n.code ∧ ¬ (n.code = 0x83 ∧ m.code = 0x84) ∧
        ¬ (n.code = 0x84 ∧ m.code = 0x83)) := by
  obtain ⟨-, hrising, -⟩ := h
  have hkept : (cancelledCode n != some m.code) = true ↔
      ¬ (n.code = 0x83 ∧ m.code = 0x84) ∧ ¬ (n.code = 0x84 ∧ m.code = 0x83) := by
    rw [bne_iff_ne, ne_eq, cancelledCode_eq_some_iff]
    grind
  rw [pendNotice, mem_insertPending_iff (hrising.filter _), List.mem_filter, hkept]
  grind

theorem isSingleton_of_code {n : Notice} (h : n.code ∈ [0x82, 0x83, 0x84, 0x90, 0x94, 0x95, 0x96]) :
    n.isSingleton = true := by
  cases n <;> simp_all [Notice.code, Notice.isSingleton]

theorem enterNotice_faultCount (n : Notice) (l : Lif) :
    (enterNotice n l).faultCount = if n.code = 0x82 then 0 else l.faultCount := by
  cases n <;> rfl

/-- Settles O10: a free slot takes the notice; without one it pends or waits. -/
theorem singletonsEnterOrReplace : Obligations.SingletonsEnterOrReplace := by
  refine ⟨fun n l hcode hok => ⟨fun hfree => ?_, fun hfull => ?_, ?_⟩, fun n l hcode => ⟨fun hfree => ?_, fun hfull => ?_⟩⟩
  · rw [produceSingleton, if_pos hfree]
    exact ⟨rfl, rfl, enterNotice_faultCount n l⟩
  · rw [produceSingleton, if_neg (by omega)]
    exact ⟨rfl, pendNotice_ok (isSingleton_of_code hcode) hok, rfl, fun m => mem_pendNotice_iff hok⟩
  · have hemits := emits_produceSingleton (l := l) (isSingleton_of_code hcode)
    exact ⟨hemits.requests, hemits.receiver, hemits.waiting, hemits.power, hemits.standbyToSend⟩
  · have hother : n.code ≠ 0x82 := by rintro he; simp [he] at hcode
    have hcount := enterNotice_faultCount n l
    rw [if_neg hother] at hcount
    have henter : enterNotice n l =
        { l with outbound := l.outbound ++ [.frame (.notice n)], faultCount := (enterNotice n l).faultCount } := rfl
    rw [produceWaiting, if_pos hfree, henter, hcount]
  · rw [produceWaiting, if_neg (by omega)]

end Sys2Proof.Machine
end

section
/-! The bytes of the host line (R75, R153, R158, R185, R186, R190, R191): fields laid out, the CRC bit by bit, and the body of
every notice. -/

namespace Sys2Proof.Machine

/-! ### Fields laid out (R185) -/

@[simp] theorem laidOut_nil : laidOut [] = [] := rfl

theorem laidOut_append (fs gs : List (Nat × Nat)) : laidOut (fs ++ gs) = laidOut fs ++ laidOut gs :=
  List.flatMap_append

theorem laidOut_cons (f : Nat × Nat) (fs : List (Nat × Nat)) : laidOut (f :: fs) = laidOut [f] ++ laidOut fs :=
  laidOut_append [f] fs

/-- One byte more is the number's last byte behind the bytes of the rest. -/
theorem laidOut_succ (width n : Nat) : laidOut [(width + 1, n)] = laidOut [(width, n / 256)] ++ [BitVec.ofNat 8 n] := by
  have hfront : ∀ i ∈ List.range width, BitVec.ofNat 8 (n / 256 ^ (width - i)) =
      BitVec.ofNat 8 (n / 256 / 256 ^ (width - 1 - i)) := by
    intro i hi
    have hlt := List.mem_range.1 hi
    rw [Nat.div_div_eq_div_mul, ← Nat.pow_succ', show (width - 1 - i).succ = width - i by omega]
  simp [laidOut, List.range_succ, List.map_congr_left hfront]

theorem laidOut_one (n : Nat) : laidOut [(1, n)] = u8 n := by
  rw [laidOut_succ]
  rfl

theorem laidOut_two (n : Nat) : laidOut [(2, n)] = u16 n := by
  rw [laidOut_succ, laidOut_one]
  rfl

theorem laidOut_three (n : Nat) : laidOut [(3, n)] = u24 n := by
  rw [laidOut_succ, laidOut_two, u24, u16, Nat.div_div_eq_div_mul]
  rfl

theorem laidOut_four (n : Nat) : laidOut [(4, n)] = u32 n := by
  rw [laidOut_succ, laidOut_three, u32, u24, u16, Nat.div_div_eq_div_mul, Nat.div_div_eq_div_mul]
  simp [u16, Nat.div_div_eq_div_mul]

theorem laidOut_six (n : Nat) : laidOut [(6, n)] = u48 n := by
  rw [laidOut_succ, laidOut_succ, laidOut_four]
  simp [u48, u32, u16, Nat.div_div_eq_div_mul]

theorem beNat_laidOut (width n : Nat) : beNat (laidOut [(width, n)]) = n % 256 ^ width := by
  induction width generalizing n with
  | zero => simp [laidOut, beNat, Nat.mod_one]
  | succ width ih =>
    have hlast : beNat [BitVec.ofNat 8 n] = n % 256 := by simp [beNat]
    rw [laidOut_succ, beNat_append, ih, hlast, List.length_singleton, Nat.pow_one, Nat.pow_succ', Nat.mod_mul,
      Nat.mul_comm, Nat.add_comm]

theorem laidOut_length (width n : Nat) : (laidOut [(width, n)]).length = width := by
  simp [laidOut]

theorem fieldAt_laidOut (front back : List Byte) {width n : Nat} (h : n < 256 ^ width) :
    fieldAt (front ++ (laidOut [(width, n)] ++ back)) front.length width = n := by
  rw [fieldAt_after (Nat.le_refl _), Nat.sub_self, fieldAt_first back (laidOut_length width n), beNat_laidOut,
    Nat.mod_eq_of_lt h]

theorem laidOut_bytes (bytes : List Byte) : laidOut (bytes.map (fun b => (1, b.toNat))) = bytes := by
  induction bytes with
  | nil => rfl
  | cons b bytes ih =>
    rw [List.map_cons, laidOut_cons, ih, laidOut_one]
    simp [u8]

theorem laidOut_map_one {α : Type} (f : α → Nat) (xs : List α) :
    laidOut (xs.map (fun x => (1, f x))) = xs.flatMap (fun x => u8 (f x)) := by
  induction xs with
  | nil => rfl
  | cons x xs ih => rw [List.map_cons, laidOut_cons, ih, laidOut_one, List.flatMap_cons]

theorem keyBytes_eq (key : Option CredKey) : keyBytes key = laidOut (keyLayout key) := by
  cases key with
  | none => rfl
  | some k => rw [keyLayout, laidOut_cons, laidOut_one, laidOut_six]; rfl

theorem quoteBytes_eq (quote : Option (Nat × Nat)) : quoteBytes quote = laidOut (quoteLayout 4 quote) := by
  cases quote with
  | none => rfl
  | some q => rw [quoteLayout, laidOut_cons, laidOut_four, laidOut_two]; rfl

theorem flagBits_cons (b : Bool) (flags : List Bool) : flagBits (b :: flags) = bit b + 2 * flagBits flags := by
  rw [flagBits, List.foldr_cons, Nat.add_comm]
  rfl

theorem flagBits_one (a : Bool) : flagBits [a] = bit a := flagBits_cons a []

theorem flagBits_two (a b : Bool) : flagBits [a, b] = bit a + 2 * bit b := by
  rw [flagBits_cons, flagBits_one]

theorem flagBits_three (a b c : Bool) : flagBits [a, b, c] = bit a + 2 * bit b + 4 * bit c := by
  rw [flagBits_cons, flagBits_two]
  omega

theorem flagBits_four (a b c d : Bool) : flagBits [a, b, c, d] = bit a + 2 * bit b + 4 * bit c + 8 * bit d := by
  rw [flagBits_cons, flagBits_three]
  omega

/-! ### The CRC (R153) -/

/-- One bit of a message into the CRC: shifted, and the polynomial added where the bit differs from the one shifted out. -/
def crcStep (c : BitVec 16) (b : Bool) : BitVec 16 := if c.msb = b then c <<< 1 else (c <<< 1) ^^^ 0x1021#16

/-- The bits of a byte may be added to the CRC before its shifts or one by one with them. -/
theorem crcBit_xor (c x : BitVec 16) : crcBit (c ^^^ x) = crcStep c x.msb ^^^ (x <<< 1) := by
  unfold crcBit crcStep
  rw [BitVec.msb_xor, BitVec.shiftLeft_xor_distrib]
  cases c.msb <;> cases x.msb <;> simp only [Bool.false_bne, Bool.true_bne, Bool.not_false, Bool.not_true,
    Bool.false_eq_true, Bool.true_eq_false, if_true, if_false] <;> ac_rfl

theorem crcBit_iterate (c x : BitVec 16) (k : Nat) :
    Nat.repeat crcBit k (c ^^^ x) = ((List.range k).map (fun i => (x <<< i).msb)).foldl crcStep c ^^^ (x <<< k) := by
  induction k with
  | zero =>
    rw [BitVec.shiftLeft_zero]
    rfl
  | succ k ih =>
    rw [Nat.repeat, ih, crcBit_xor, List.range_succ, List.map_append, List.foldl_append,
      BitVec.shiftLeft_add]
    rfl

theorem crcByte_eq (c : BitVec 16) (b : Byte) : crcByte c b = ((List.range 8).map b.getMsbD).foldl crcStep c := by
  have hbits : ∀ i ∈ List.range 8, ((b.zeroExtend 16 <<< 8) <<< i).msb = b.getMsbD i := by
    intro i hi
    have hlt := List.mem_range.1 hi
    simp only [BitVec.msb_eq_getMsbD_zero, BitVec.getMsbD_shiftLeft]
    simp [BitVec.getMsbD, hlt, show i + 8 < 16 by omega, show 7 - i < 16 by omega]
  have hgone : (b.zeroExtend 16 <<< 8) <<< 8 = 0#16 := by
    rw [← BitVec.shiftLeft_add]
    exact BitVec.shiftLeft_eq_zero (by decide)
  have hiterate : crcByte c b = Nat.repeat crcBit 8 (c ^^^ (b.zeroExtend 16 <<< 8)) := rfl
  rw [hiterate, crcBit_iterate, List.map_congr_left hbits, hgone, BitVec.xor_zero]

theorem crc16_eq (bytes : List Byte) :
    crc16 bytes = (bytes.flatMap (fun b => (List.range 8).map b.getMsbD)).foldl crcStep 0xFFFF#16 := by
  rw [List.foldl_flatMap]
  exact congrFun (congrFun (congrArg List.foldl (funext fun c => funext (crcByte_eq c))) _) bytes

/-! ### The bodies of the notices (R186, R190, R191) -/

theorem Notice.layout_code (n : Notice) : n.layout.1 = n.code := by
  cases n <;> rfl

theorem VerdictReport.body_eq (v : VerdictReport) : v.body = laidOut (Notice.verdict v).layout.2 := by
  have hsource : (if v.fromCard = true then 2 else 1) = bit v.fromCard + 1 := by cases v.fromCard <;> rfl
  simp only [VerdictReport.body, Notice.layout, laidOut_append, laidOut_cons (_, _) (_ :: _), laidOut_map_one,
    ← keyBytes_eq, ← quoteBytes_eq, laidOut_one, laidOut_two, flagBits_four, hsource, orZero, List.append_assoc]

theorem ClosedCase.body_eq (c : ClosedCase) : c.body = laidOut (Notice.caseClosed c).layout.2 := by
  simp only [ClosedCase.body, Notice.layout, laidOut_append, laidOut_cons (_, _) (_ :: _), ← quoteBytes_eq, laidOut_one,
    laidOut_two, laidOut_six, flagBits_two, keyBytes, orZero, List.append_assoc]

theorem CardEvent.body_eq (e : CardEvent) : e.body = laidOut (Notice.cardEvent e).layout.2 := by
  obtain ⟨event, session, identifier, count, state⟩ := e
  have hidentifier : identifier.getD (List.replicate 7 0) =
      laidOut (Option.elim identifier [(7, 0)] fun bytes => bytes.map (fun b => (1, b.toNat))) := by
    cases identifier with
    | none => rfl
    | some bytes => exact (laidOut_bytes bytes).symm
  cases identifier <;> simp only [CardEvent.body, hidentifier, Notice.layout, laidOut_append,
    laidOut_cons (_, _) (_ :: _), laidOut_one, laidOut_two, flagBits_three, orZero, Option.elim, List.append_assoc]

theorem Notice.body_eq (n : Notice) : n.body = laidOut n.layout.2 := by
  cases n with
  | verdict v => exact v.body_eq
  | caseClosed c => exact c.body_eq
  | cardEvent e => exact e.body_eq
  | linkFault cause header count =>
    cases header with
    | none =>
      simp only [Notice.body, Notice.layout, laidOut_append, laidOut_cons (_, _) (_ :: _), laidOut_one, flagBits_one,
        List.append_assoc]
      rfl
    | some h =>
      have hheader : [h.1, h.2] = u8 h.1.toNat ++ u8 h.2.toNat := by simp [u8]
      simp only [Notice.body, hheader, Notice.layout, laidOut_append, laidOut_cons (_, _) (_ :: _), laidOut_one,
        flagBits_one, List.append_assoc]
  | _ =>
    simp only [Notice.body, Notice.layout, laidOut_cons (_, _) (_ :: _), laidOut_one, laidOut_two, laidOut_four,
      List.append_assoc, bit]

theorem verdict_body_length (v : VerdictReport) : (Notice.verdict v).body.length = 32 + v.findings.length := by
  have hkey : (keyBytes v.key).length = 7 := by cases v.key <;> rfl
  have hquote : (quoteBytes v.quote).length = 6 := by cases v.quote <;> rfl
  have hfindings : (v.findings.flatMap fun f => u8 f.code).length = v.findings.length :=
    (length_flatMap_const (fun f => u8_length f.code) v.findings).trans (Nat.mul_one _)
  simp only [Notice.body, VerdictReport.body, List.length_append, hkey, hquote, hfindings, u8_length, u16_length]

theorem notice_bytes (n : Notice) :
    (OutFrame.notice n).bytes = (OutFrame.reply (BitVec.ofNat 8 n.layout.1) 0 (laidOut n.layout.2)).bytes := by
  rw [← Notice.body_eq, Notice.layout_code]
  rfl

/-! ### The codes of the enumerations (R185) -/

theorem KeyState.ofCode?_eq_some_iff {n : Nat} {k : KeyState} : KeyState.ofCode? n = some k ↔ k.code = n := by
  constructor
  · unfold KeyState.ofCode?
    split <;> rintro h <;> cases h <;> rfl
  · rintro rfl
    cases k <;> rfl

theorem ListAction.ofCode?_eq_some_iff {n : Nat} {a : ListAction} : ListAction.ofCode? n = some a ↔ a.code = n := by
  constructor
  · unfold ListAction.ofCode?
    split <;> rintro h <;> cases h <;> rfl
  · rintro rfl
    cases a <;> rfl

theorem Policy.ofCode?_eq_some_iff {n : Nat} {p : Policy} : Policy.ofCode? n = some p ↔ p.code = n := by
  constructor
  · unfold Policy.ofCode?
    split <;> rintro h <;> cases h <;> rfl
  · rintro rfl
    exact Policy.ofCode?_code p

theorem TravelClass.ofCode?_eq_some_iff {n : Nat} {c : TravelClass} : TravelClass.ofCode? n = some c ↔ c.code = n := by
  constructor
  · unfold TravelClass.ofCode?
    split <;> rintro h <;> cases h <;> rfl
  · rintro rfl
    cases c <;> rfl

theorem Finding.ofCode?_eq_some_iff {n : Nat} {f : Finding} : Finding.ofCode? n = some f ↔ f.code = n := by
  refine ⟨fun h => ?_, fun h => h ▸ Finding.ofCode?_code f⟩
  simpa using List.find?_some h

/-! ### The outbound queue's own steps (R159 to R161, R167) -/

section
variable {s : State}

theorem beingSent_head {f : OutFrame} {more : List Slot} {l : Lif} (ho : l.outbound = .frame f :: more)
    (h : l.power = .active ∨ 0 < l.standbyToSend) : beingSent l = [.frame f] := by
  simp [beingSent, ho, h]

theorem beingSent_none {l : Lif} (h : l.outbound = [] ∨ (l.power = .standby ∧ l.standbyToSend = 0)) :
    beingSent l = [] := by
  unfold beingSent
  rcases h with h | ⟨hp, hz⟩
  · rw [h]
  · split
    · simp [hp, hz]
    · rfl

theorem frameSent_head {f : OutFrame} {more : List Slot} (ho : s.lif.outbound = .frame f :: more)
    (h : s.lif.power = .active ∨ 0 < s.lif.standbyToSend) :
    frameSent s = { s with
      lif := { s.lif with outbound := more, standbyToSend := s.lif.standbyToSend - 1 }
      hostSent := s.hostSent ++ [f.bytes] } := by
  simp only [frameSent, beingSent_head ho h, ho, List.tail_cons]

theorem frameSent_none (h : s.lif.outbound = [] ∨ (s.lif.power = .standby ∧ s.lif.standbyToSend = 0)) :
    frameSent s = s := by
  simp only [frameSent, beingSent_none h]

/-- The entry of a notice of the waiting list leaves the fault count. -/
theorem enterNotice_joinsWaiting {n : Notice} {l : Lif} (hn : n.joinsWaiting = true) :
    enterNotice n l = { l with outbound := l.outbound ++ [.frame (.notice n)] } := by
  cases n <;> simp_all [Notice.joinsWaiting, enterNotice]

theorem freeSlots_eq (l : Lif) :
    freeSlots l = if l.waiting = [] ∧ l.pendingNotices = [] then 24 - l.outbound.length else 0 := by
  simp [freeSlots]

theorem whenRunning_idle {f : State → State} (h : f s = s) : whenRunning f s = s :=
  whenRunning_keeps (P := fun t => t = s) (fun _ => h) rfl

end

/-- Settles O11: the queue's four moves, and each byte layout against the layout that the statement writes out. -/
theorem outboundQueueMoves : Obligations.OutboundQueueMoves := by
  refine ⟨fun f more s hn ho h => ?_, fun s h => ?_, fun n more s hn hw hj hroom => ?_, fun n more s hn hw hp hroom => ?_,
    fun s hw => ?_, fun s h => ?_, fun s hfull => ⟨?_, ?_⟩, freeSlots_eq, fun kind tag body => ?_, crc16_eq,
    notice_bytes, verdict_body_length, rfl, rfl, rfl, rfl, rfl, rfl, rfl, rfl, rfl, rfl, rfl, rfl, rfl, rfl, rfl, rfl,
    fun n => ⟨fun k => KeyState.ofCode?_eq_some_iff, fun a => ListAction.ofCode?_eq_some_iff,
      fun p => Policy.ofCode?_eq_some_iff, fun c => TravelClass.ofCode?_eq_some_iff,
      fun f => Finding.ofCode?_eq_some_iff⟩,
    fun ev check => rfl, fun service count dayStart stops route => rfl, fun j r => ⟨fun h => ?_, fun h => ?_⟩,
    fun n => ⟨(laidOut_one n).symm, (laidOut_two n).symm, (laidOut_four n).symm, (laidOut_six n).symm⟩,
    fun front back width n h => fieldAt_laidOut front back h,
    fun z hlo hhi => ⟨signed16_fieldAt_i16 hlo (by omega), rfl⟩⟩
  · exact congrArg Host.Outcome.next ((if_pos hn).trans (frameSent_head ho h))
  · exact congrArg Host.Outcome.next (whenRunning_idle (frameSent_none h))
  · have he : waitingEnter s.lif = { s.lif with waiting := more, outbound := s.lif.outbound ++ [.frame (.notice n)] } := by
      simp only [waitingEnter, hw, if_pos hroom, enterNotice_joinsWaiting hj]
    exact congrArg Host.Outcome.next ((if_pos hn).trans (congrArg (withLif · s) he))
  · have hcount := enterNotice_faultCount n { s.lif with pendingNotices := more }
    have he : pendingEnter s.lif = enterNotice n { s.lif with pendingNotices := more } := by
      simp only [pendingEnter, hp, hw, List.isEmpty_nil, hroom, and_self, if_true]
    refine congrArg Host.Outcome.next ((if_pos hn).trans ((congrArg (withLif · s) he).trans ?_))
    exact congrArg (fun c => withLif { s.lif with
      pendingNotices := more, outbound := s.lif.outbound ++ [.frame (.notice n)], faultCount := c } s) hcount
  · exact congrArg Host.Outcome.next (whenRunning_idle (by rw [waitingEnter, hw]; rfl))
  · refine congrArg Host.Outcome.next (whenRunning_idle (congrArg (withLif · s) ?_))
    unfold pendingEnter
    split
    · rfl
    next n more hp =>
      have hw : s.lif.waiting ≠ [] := h.resolve_right (by simp [hp])
      exact if_neg (by simp [hw])
  · refine congrArg Host.Outcome.next (whenRunning_idle (congrArg (withLif · s) ?_))
    unfold waitingEnter
    split
    · rfl
    · exact if_neg (Nat.not_lt.2 hfull)
  · refine congrArg Host.Outcome.next (whenRunning_idle (congrArg (withLif · s) ?_))
    unfold pendingEnter
    split
    · rfl
    · exact if_neg fun h => absurd h.2 (Nat.not_lt.2 hfull)
  · simp only [laidOut_two]
    rfl
  · rw [Jcu.stateCode, h]
  · rw [Jcu.stateCode, h]

end Sys2Proof.Machine
end

section
/-! STATUS (R166, R193): the reply is its fields one after another, and each is read back at the sum of the widths before it. -/

namespace Sys2Proof.Machine

/-! ### Reading past and at the front of a reply -/

section
variable (n off len : Nat) (y : List Byte)

theorem fieldAt_u8_front : fieldAt (u8 n ++ y) 0 1 = n % 256 := by
  rw [fieldAt_first y (u8_length n), beNat_u8]

theorem fieldAt_u16_front : fieldAt (u16 n ++ y) 0 2 = n % 65536 := by
  rw [fieldAt_first y (u16_length n), beNat_u16]

theorem fieldAt_u32_front : fieldAt (u32 n ++ y) 0 4 = n % 4294967296 := by
  rw [fieldAt_first y (u32_length n), beNat_u32]

theorem fieldAt_u16_last : fieldAt (u16 n) 0 2 = n % 65536 := by
  rw [fieldAt_all (u16_length n), beNat_u16]

theorem fieldAt_i16_skip (z : Int) : fieldAt (i16 z ++ y) (off + 2) len = fieldAt y off len :=
  fieldAt_u16_skip y _ off len

theorem signed16_fieldAt_i16_front {z : Int} (h : -32768 ≤ z) (h' : z ≤ 32767) :
    signed16 (fieldAt (i16 z ++ y) 0 2) = z := by
  rw [fieldAt_first y (i16_length z), signed16_i16 h h']

theorem statusJourney_length (j : Option Running) : (statusJourney j).length = 6 := by
  cases j with
  | none => rfl
  | some j => cases hp : j.position <;> simp [statusJourney, Position.bytes, hp]

theorem statusHead_length (entries : List Entry) : (statusHead entries).length = 5 := by
  cases entries <;> rfl

theorem fieldAt_statusJourney_skip (j : Option Running) :
    fieldAt (statusJourney j ++ y) (off + 6) len = fieldAt y off len := by
  rw [fieldAt_after (by rw [statusJourney_length]; omega), statusJourney_length]
  rfl

theorem fieldAt_statusHead_skip (entries : List Entry) :
    fieldAt (statusHead entries ++ y) (off + 5) len = fieldAt y off len := by
  rw [fieldAt_after (by rw [statusHead_length]; omega), statusHead_length]
  rfl

end

/-! ### The flags (R193) -/

theorem flagBits_testBit (flags : List Bool) (i : Nat) : (flagBits flags).testBit i = flags.getD i false := by
  induction flags generalizing i with
  | nil => simp [flagBits]
  | cons b flags ih =>
    have hhalf : (bit b + 2 * flagBits flags) / 2 = flagBits flags := by cases b <;> simp [bit]; omega
    rw [flagBits_cons]
    cases i with
    | zero => cases b <;> simp [Nat.testBit_zero, bit]
    | succ i => rw [Nat.testBit_succ, hhalf, ih, List.getD_cons_succ]

theorem statusFlags_eq (s : State) :
    statusFlags s = flagBits [s.jcu.clock.isSet, s.jcu.closeAtArrival, s.iq.hold, s.ven.parked.isSome,
      s.rsu.pendingImage.isSome, s.ciu.quiet, s.ciu.held] := by
  simp only [flagBits_cons, statusFlags, show flagBits [] = 0 from rfl]
  omega

theorem statusFlags_lt (s : State) : statusFlags s < 256 := by
  have hbit (b : Bool) : bit b ≤ 1 := by cases b <;> decide
  have h1 := hbit s.jcu.clock.isSet
  have h2 := hbit s.jcu.closeAtArrival
  have h3 := hbit s.iq.hold
  have h4 := hbit s.ven.parked.isSome
  have h5 := hbit s.rsu.pendingImage.isSome
  have h6 := hbit s.ciu.quiet
  have h7 := hbit s.ciu.held
  unfold statusFlags
  omega

/-! ### The fields -/

/-- The STATUS reply, field by field from the status byte on (R193). -/
def statusReply (s : State) : List Byte :=
  u8 0 ++ (u8 s.lif.power.code ++ (u8 s.jcu.stateCode ++ (u16 s.jcu.number ++ (statusJourney s.jcu.journey ++
    (u8 s.jcu.staging.code ++ (u8 (stopsReceived s.jcu.staging) ++ (u8 (statusFlags s) ++
    (u32 s.jcu.clock.seconds ++ (u16 s.jcu.clock.millis ++ (i16 s.jcu.delay ++ (u8 s.jcu.carriage ++
    (u8 s.jcu.cls.code ++ (u8 s.iq.entries.length ++ (u8 s.iq.high ++ (u8 s.iq.low ++ (u16 s.iq.counter ++
    (statusHead s.iq.entries ++ (u8 s.ven.engine.code ++ (u8 s.ctb.cases.length ++ (u8 (heldSlots s.ctb) ++
    (u16 s.irg.records.length ++ (u32 s.jnl.oldest ++ (u32 s.jnl.newest ++ (u16 s.jnl.free ++ (u16 s.jnl.dropCount ++
    (u32 s.rsu.active.generation ++ (u8 s.rsu.active.offset ++ (u8 (pendingSegments s.rsu.pendingImage) ++
    (u32 (pendingGeneration s.rsu.pendingImage) ++ (u8 s.rsu.list.length ++ (u8 s.ciu.state.code ++
    (u16 (if s.ciu.held then s.ciu.tag else 0) ++ (u16 s.ciu.counts.framing ++ (u16 s.ciu.counts.check ++
    (u16 s.ciu.counts.sequence ++ (u16 s.ciu.counts.timeout ++
      u16 s.ciu.counts.format))))))))))))))))))))))))))))))))))))

theorem statusReply_eq (s : State) : u8 0 ++ statusFields s = statusReply s := by
  unfold statusFields statusReply
  simp only [List.append_assoc]

theorem statusReply_length (s : State) : (statusReply s).length = 75 := by
  simp only [statusReply, List.length_append, u8_length, u16_length, u32_length, i16_length, statusJourney_length,
    statusHead_length]

theorem u8_zero_append (y : List Byte) : u8 0 ++ y = 0 :: y :=
  rfl

theorem exec_status {tag : Byte} {rest : List RequestFrame} {s : State} (hr : Ready 0x01 tag [] rest s) :
    exec .status s = .next (s.answered 0x41 tag (statusReply s) rest) := by
  have he := exec_taken (h := answerStatus) (c := .status) (t := s) rfl hr rfl rfl rfl
  rw [← statusReply_eq, u8_zero_append]
  exact he

/-! ### What the fields hold -/

theorem fieldAt_statusJourney_running (y : List Byte) (j : Running) :
    (∀ k, j.position = .atStop k →
      fieldAt (statusJourney (some j) ++ y) 0 1 = 1 ∧ fieldAt (statusJourney (some j) ++ y) 1 1 = k % 256) ∧
    (∀ k, j.position = .running k →
      fieldAt (statusJourney (some j) ++ y) 0 1 = 2 ∧ fieldAt (statusJourney (some j) ++ y) 1 1 = k % 256) ∧
    fieldAt (statusJourney (some j) ++ y) 2 2 = j.epoch % 65536 ∧
    fieldAt (statusJourney (some j) ++ y) 4 2 = j.route.service % 65536 := by
  cases hp : j.position <;>
    simp [statusJourney, Position.bytes, hp, fieldAt_u8_skip, fieldAt_u16_skip, fieldAt_u8_front, fieldAt_u16_front]

theorem fieldAt_statusJourney_none (y : List Byte) :
    fieldAt (statusJourney none ++ y) 0 2 = 0 ∧ fieldAt (statusJourney none ++ y) 2 2 = 0 ∧
    fieldAt (statusJourney none ++ y) 4 2 = 0 := by
  simp [statusJourney, fieldAt_u16_skip, fieldAt_u16_front]

theorem fieldAt_statusHead_nil (y : List Byte) :
    fieldAt (statusHead [] ++ y) 0 1 = 0 ∧ fieldAt (statusHead [] ++ y) 1 4 = 0 := by
  simp [statusHead, fieldAt_u8_skip, fieldAt_u8_front, fieldAt_u32_front]

theorem fieldAt_statusHead_cons (y : List Byte) (e : Entry) (more : List Entry) :
    fieldAt (statusHead (e :: more) ++ y) 0 1 = (if e.origin = .link then 1 else 2) ∧
    fieldAt (statusHead (e :: more) ++ y) 1 4 = e.arrival % 4294967296 := by
  cases ho : e.origin <;>
    simp [statusHead, Origin.code, ho, fieldAt_u8_skip, fieldAt_u8_front, fieldAt_u32_front]

theorem Jnl.newest_append {j : Jnl} {before : List JournalRecord} {last : JournalRecord}
    (h : j.records = before ++ [last]) : j.newest = last.sequence := by
  simp [Jnl.newest, h]

theorem statusFlags_testBit (s : State) (i : Nat) :
    (statusFlags s % 256).testBit i = [s.jcu.clock.isSet, s.jcu.closeAtArrival, s.iq.hold, s.ven.parked.isSome,
      s.rsu.pendingImage.isSome, s.ciu.quiet, s.ciu.held].getD i false := by
  rw [Nat.mod_eq_of_lt (statusFlags_lt s), statusFlags_eq, flagBits_testBit]

theorem statusCodes_mod (s : State) :
    s.jcu.stateCode % 256 = s.jcu.stateCode ∧ s.jcu.staging.code % 256 = s.jcu.staging.code ∧
    s.jcu.cls.code % 256 = s.jcu.cls.code ∧ s.ven.engine.code % 256 = s.ven.engine.code ∧
    s.ciu.state.code % 256 = s.ciu.state.code := by
  have hjourney : s.jcu.stateCode ≤ 2 := by
    unfold Jcu.stateCode
    split
    · omega
    · split <;> omega
  have hstaging : s.jcu.staging.code ≤ 2 := by cases s.jcu.staging <;> simp [Staging.code]
  have hclass : s.jcu.cls.code ≤ 2 := by cases s.jcu.cls <;> decide
  have hengine : s.ven.engine.code ≤ 2 := by cases s.ven.engine <;> simp [Engine.code]
  have hcard : s.ciu.state.code ≤ 4 := by cases s.ciu.state <;> decide
  omega

/-- Settles O12: each field is read back at the sum of the widths before it. -/
theorem statusReportsTheState : Obligations.StatusReportsTheState := by
  intro tag rest s hr
  obtain ⟨hstate, hstaging, hclass, hengine, hcard⟩ := statusCodes_mod s
  have hpower : s.lif.power.code % 256 = 1 := by
    obtain ⟨_, _, hactive, _, _, _⟩ := hr
    rw [hactive]
    rfl
  refine ⟨statusReply s, exec_status hr, statusReply_length s, ?_⟩
  simp only [statusReply, fieldAt_u8_skip, fieldAt_u16_skip, fieldAt_u32_skip, fieldAt_i16_skip,
    fieldAt_statusJourney_skip, fieldAt_statusHead_skip, fieldAt_u8_front, fieldAt_u16_front, fieldAt_u32_front,
    fieldAt_u16_last, statusFlags_testBit, List.getD_cons_zero, List.getD_cons_succ, List.getD_nil, heldSlots, Jnl.free,
    hstate, hstaging, hclass, hengine, hcard, hpower, true_and, and_true]
  refine ⟨?journey, ?noJourney, ?stops, ?delay, ?noHead, ?head, ?noRecords, ?oldest, ?newest, ?noImage, ?image,
    ?session⟩
  case journey =>
    intro j hj
    rw [hj]
    exact fieldAt_statusJourney_running _ j
  case noJourney =>
    intro hj
    rw [hj]
    exact fieldAt_statusJourney_none _
  case stops => cases s.jcu.staging <;> rfl
  case delay =>
    intro hlow hhigh
    exact signed16_fieldAt_i16_front _ (by omega) (by omega)
  case noHead =>
    intro he
    rw [he]
    exact fieldAt_statusHead_nil _
  case head =>
    intro e more he
    rw [he]
    exact fieldAt_statusHead_cons _ e more
  case noRecords =>
    intro h
    simp [Jnl.oldest, Jnl.newest, h]
  case oldest =>
    intro first more h
    simp [Jnl.oldest, h]
  case newest =>
    intro before last h
    rw [Jnl.newest_append h]
  case noImage =>
    intro h
    simp [pendingSegments, pendingGeneration, h]
  case image =>
    intro p h
    simp [pendingSegments, pendingGeneration, h]
  case session => split <;> rfl

end Sys2Proof.Machine
end

section
/-! The register's lookup (R102, R103), the close of a case (R119, R127), and the journal's append (R175 to R180). -/

namespace Sys2Proof.Machine

/-! ### The register's lookup -/

theorem evictable_eq_true {r : Record} : evictable r = true ↔ ¬ (r.ride ≠ .none ∨ r.caseLink ≠ none) := by
  simp [evictable]

theorem evictable_eq_false {r : Record} : evictable r = false ↔ r.ride ≠ .none ∨ r.caseLink ≠ none := by
  rw [← Bool.not_eq_true, evictable_eq_true, Classical.not_not]

/-- The eviction takes the first record that may go. -/
theorem eraseP_named {front back : List Record} {r : Record} (hf : ∀ d ∈ front, evictable d = false)
    (hr : evictable r = true) : (front ++ r :: back).eraseP evictable = front ++ back := by
  rw [List.eraseP_append_right _ (fun d hd => by simp [hf d hd]), List.eraseP_cons_of_pos hr]

/-- Settles O35, by the four outcomes of the lookup. -/
theorem registerLookupEvictsOldest : Obligations.RegisterLookupEvictsOldest := by
  refine ⟨fun key rs r hd => ⟨findRecord_eq_some, ?_⟩, fun key seconds carriage rs => ⟨?_, ?_, ?_, ?_⟩⟩
  · rintro ⟨hr, rfl⟩
    exact findRecord_of_mem hd hr
  · rintro ⟨r, hr, hk⟩
    have hfound : findRecord key rs ≠ none := fun hn => findRecord_eq_none.1 hn r hr hk
    rcases registerLookup_cases key seconds carriage rs with ⟨_, h⟩ | ⟨hn, _⟩ | ⟨hn, _⟩ | ⟨hn, _⟩
    · exact h
    all_goals exact absurd hn hfound
  · intro hn hroom
    rcases registerLookup_cases key seconds carriage rs with ⟨⟨r, hr⟩, _⟩ | ⟨_, _, h⟩ | ⟨_, hfull, _⟩ | ⟨_, hfull, _⟩
    · exact absurd (findRecord_eq_some hr).2 (hn r (findRecord_eq_some hr).1)
    · exact h
    all_goals omega
  · rintro front back r rfl hn hfull hfront hr
    rw [← evictable_eq_true] at hr
    rcases registerLookup_cases key seconds carriage (front ++ r :: back) with
      ⟨⟨d, hd⟩, _⟩ | ⟨_, hroom, _⟩ | ⟨_, _, _, h⟩ | ⟨_, _, hnone, _⟩
    · exact absurd (findRecord_eq_some hd).2 (hn d (findRecord_eq_some hd).1)
    · omega
    · rw [h, eraseP_named (fun d hd => evictable_eq_false.2 (hfront d hd)) hr]
      rfl
    · exact absurd (hnone r (by simp)) (by simp [hr])
  · intro hn hfull hall
    rcases registerLookup_cases key seconds carriage rs with
      ⟨⟨d, hd⟩, _⟩ | ⟨_, hroom, _⟩ | ⟨_, _, ⟨r, hr, hevict⟩, _⟩ | ⟨_, _, _, h⟩
    · exact absurd (findRecord_eq_some hd).2 (hn d (findRecord_eq_some hd).1)
    · omega
    · exact absurd (hall r hr) (evictable_eq_true.1 hevict)
    · exact h

/-! ### The close of a case -/

theorem detachCase_eq (c : Case) (s : State) :
    detachCase c s =
      { s with
        ctb := { s.ctb with cases := s.ctb.cases.filter (fun d => d.serial ≠ c.serial) }
        irg := { s.irg with records := s.irg.records.map (fun r =>
          if c.linked = true ∧ r.key = c.key then { r with caseLink := none } else r) } } := by
  have hfilter : (fun d : Case => d.serial != c.serial) = fun d => decide (d.serial ≠ c.serial) := by
    funext d
    exact Bool.eq_iff_iff.2 (by simp)
  unfold detachCase
  cases hl : c.linked <;> simp [hfilter, modifyRecord, updateRecord]

theorem queueCaseClosed_enters {closed : ClosedCase} {s : State} (hw : s.ctb.closedWaiting = [])
    (hf : 0 < freeSlots s.lif) :
    queueCaseClosed closed s =
      { s with lif := { s.lif with outbound := s.lif.outbound ++ [.frame (.notice (.caseClosed closed))] } } := by
  simp [queueCaseClosed, hw, hf]
  rfl

theorem queueCaseClosed_waits {closed : ClosedCase} {s : State} (h : s.ctb.closedWaiting ≠ [] ∨ freeSlots s.lif = 0) :
    queueCaseClosed closed s = { s with ctb := { s.ctb with closedWaiting := s.ctb.closedWaiting ++ [closed] } } := by
  unfold queueCaseClosed
  rw [if_neg]
  rintro hc
  simp only [Bool.and_eq_true, List.isEmpty_iff, decide_eq_true_eq] at hc
  rcases h with h | h
  · exact h hc.1
  · omega

theorem whenRunning_of_running {f : State → State} {s : State} (h : s.resetN = true) : whenRunning f s = f s := by
  simp [whenRunning, h]

theorem timeOutCases_idle {s : State}
    (h : s.jcu.clock.isSet = false ∨ ∀ c ∈ s.ctb.cases, s.jcu.clock.seconds < c.deadline) : timeOutCases s = s := by
  have hnone : s.ctb.cases.filter (deadlineReached s) = [] := by
    refine List.filter_eq_nil_iff.2 fun c hc => ?_
    rcases h with h | h
    · simp [deadlineReached, h]
    · have := h c hc
      simp [deadlineReached]
      omega
  rw [timeOutCases, hnone, List.foldl_nil]

theorem caseClosedQueued_enters {closed : ClosedCase} {more : List ClosedCase} {s : State}
    (hw : s.ctb.closedWaiting = closed :: more) (hf : 0 < freeSlots s.lif) :
    caseClosedQueued s =
      { s with ctb := { s.ctb with closedWaiting := more },
               lif := { s.lif with outbound := s.lif.outbound ++ [.frame (.notice (.caseClosed closed))] } } := by
  simp [caseClosedQueued, hw, hf]
  rfl

theorem caseClosedQueued_idle {s : State} (h : s.ctb.closedWaiting = [] ∨ freeSlots s.lif = 0) :
    caseClosedQueued s = s := by
  unfold caseClosedQueued
  split
  · rfl
  · next hw =>
    rw [if_neg]
    rcases h with h | h
    · simp [hw] at h
    · omega

/-- Settles O44. -/
theorem casesCloseAndTimeOut : Obligations.CasesCloseAndTimeOut := by
  refine ⟨fun outcome ride remaining c s => ⟨fun hw hf => ?_, fun h => ?_⟩, fun s hr hc => ?_, fun s h => ?_,
    fun closed more s hr hw hf => ?_, fun s h => ?_⟩
  · rw [closeCase, detachCase_eq]
    exact queueCaseClosed_enters hw hf
  · rw [closeCase, detachCase_eq]
    exact queueCaseClosed_waits h
  · exact congrArg _ ((whenRunning_of_running hr).trans (timeOutCases_eq hc))
  · exact congrArg _ (whenRunning_idle (timeOutCases_idle h))
  · exact congrArg _ ((whenRunning_of_running hr).trans (caseClosedQueued_enters hw hf))
  · exact congrArg _ (whenRunning_idle (caseClosedQueued_idle h))

/-! ### The append -/

theorem Jnl.lowCheck_eq (j : Jnl) :
    j.lowCheck =
      ({ j with lowArmed := j.lowArmed && j.free ≠ j.lowThreshold },
        if j.lowArmed = true ∧ j.free = j.lowThreshold then [.journalLow j.free j.lowThreshold j.oldest j.newest]
        else []) := by
  unfold Jnl.lowCheck
  by_cases hlow : j.lowArmed = true ∧ j.free = j.lowThreshold
  · rw [if_pos (by simpa using hlow), if_pos hlow]
    simp [hlow]
  · have harmed : (j.lowArmed && decide (j.free ≠ j.lowThreshold)) = j.lowArmed := by
      cases ha : j.lowArmed
      · rfl
      · simpa [ha] using hlow
    rw [if_neg (by simpa using hlow), if_neg hlow, harmed]

theorem Jnl.lowCheck_quietSetting (j : Jnl) : j.lowCheck.1.quietSetting = j.quietSetting := by
  rw [Jnl.lowCheck_eq]

theorem Jnl.batch_immediate {now : Nat} {j : Jnl} (hq : j.quietSetting = 0) :
    j.batch now = ({ j with unreported := 0 }, [.journalReady (satSucc 65535 j.unreported) j.lastSequence]) := by
  simp [Jnl.batch, Jnl.ready, hq]

theorem Jnl.batch_timed {now : Nat} {j : Jnl} (hq : 0 < j.quietSetting) :
    j.batch now =
      ({ j with
          unreported := satSucc 65535 j.unreported
          quietTimer := some (now + 1000 * j.quietSetting)
          absoluteTimer := (if j.quietTimer = none ∧ j.absoluteTimer = none then
              (if j.absoluteSetting = 0 then none else some (now + 1000 * j.absoluteSetting))
            else j.absoluteTimer) }, []) := by
  simp [Jnl.batch, show j.quietSetting ≠ 0 by omega]

/-- The ring that a record has joined, before the low threshold and the batch are looked at (R175). -/
def Jnl.joined (time : Nat) (body : JournalBody) (j : Jnl) : Jnl :=
  { j with lastSequence := j.lastSequence + 1
           records := j.records ++ [{ sequence := j.lastSequence + 1, time := time, body := body }] }

section
variable (time now : Nat) (body : JournalBody) (j : Jnl)

theorem Jnl.store_eq_joined :
    j.store time now body =
      (((j.joined time body).lowCheck.1.batch now).1,
        (j.joined time body).lowCheck.2 ++ ((j.joined time body).lowCheck.1.batch now).2) :=
  rfl

theorem Jnl.joined_free : (j.joined time body).free = 2047 - j.records.length := by
  simp [Jnl.free, Jnl.joined]

theorem Jnl.joined_oldest : (j.joined time body).oldest = (match j.records with
    | [] => j.lastSequence + 1
    | r :: _ => r.sequence) := by
  cases h : j.records <;> simp [Jnl.oldest, Jnl.joined, h]

theorem Jnl.joined_newest : (j.joined time body).newest = j.lastSequence + 1 :=
  Jnl.newest_append (j := j.joined time body) (before := j.records) rfl

end

theorem append_spent {time now : Nat} {body : JournalBody} {j : Jnl} (h : maxSequence ≤ j.lastSequence) :
    j.append time now body = j.drop j.lastSequence := by
  simp [Jnl.append, h]

theorem append_full {time now : Nat} {body : JournalBody} {j : Jnl} (h : j.lastSequence < maxSequence)
    (hf : j.free = 0) : j.append time now body = j.drop (j.lastSequence + 1) := by
  simp [Jnl.append, Nat.not_le.2 h, hf]

theorem append_stored {time now : Nat} {body : JournalBody} {j : Jnl} (h : j.lastSequence < maxSequence)
    (hf : 0 < j.free) : j.append time now body = j.store time now body := by
  simp [Jnl.append, Nat.not_le.2 h, Nat.ne_of_gt hf]

/-- Settles O52. -/
theorem journalAppendStoresOrDrops : Obligations.JournalAppendStoresOrDrops := by
  refine ⟨fun body s => ⟨rfl, rfl⟩, fun time now body j hok => ?_⟩
  obtain ⟨hlength, -, -, -, hdrops, hunreported, -⟩ := hok
  refine ⟨fun hlast => ?_, fun hlast hfull => ?_, fun hlast hroom => ?_⟩
  · rw [append_spent (Nat.le_of_eq hlast.symm), Jnl.drop, satSucc_eq_min hdrops, hlast]
  · rw [append_full hlast (by simp [Jnl.free, hfull]), Jnl.drop, satSucc_eq_min hdrops]
  · have hquiet : (j.joined time body).lowCheck.1.quietSetting = j.quietSetting := Jnl.lowCheck_quietSetting _
    rw [append_stored hlast (by simp only [Jnl.free]; omega), Jnl.store_eq_joined, ← satSucc_eq_min hunreported]
    refine ⟨fun hq => ?_, fun hq => ?_⟩
    · rw [Jnl.batch_immediate (hquiet.trans hq), Jnl.lowCheck_eq, Jnl.joined_free, Jnl.joined_oldest,
        Jnl.joined_newest]
      rfl
    · rw [Jnl.batch_timed (hquiet ▸ hq), Jnl.lowCheck_eq, Jnl.joined_free, Jnl.joined_oldest, Jnl.joined_newest,
        List.append_nil]
      rfl

end Sys2Proof.Machine
end

section
/-! Decisions on cases (R121 to R125), the paid span (R113), and requoting (R97). -/

namespace Sys2Proof.Machine

/-! ### The ride a decision takes (R123, R125) -/

section
variable {c : Case} {s : State}

theorem takeCaseRide_noCount (h : c.rides = none) : takeCaseRide c s = (s, .none, none) := by
  simp [takeCaseRide, h]

variable {current : Nat} (hn : c.rides = some current)
include hn

theorem takeCaseRide_unlinked (hl : c.linked = false) : takeCaseRide c s = (s, .notWritten, some current) := by
  simp [takeCaseRide, hn, hl]

variable {r : Record} (hl : c.linked = true) (hr : findRecord c.key s.irg.records = some r)
include hl hr

theorem takeCaseRide_taken (h : (∃ e, r.ride = .pending e) ∨ r.ride = .consumed) :
    takeCaseRide c s = (s, .alreadyTaken, some current) := by
  rcases h with ⟨e, h⟩ | h <;> simp [takeCaseRide, hn, hl, hr, h]

theorem takeCaseRide_torn (h : ∃ e, r.ride = .torn e) : takeCaseRide c s = (s, .torn, some current) := by
  obtain ⟨e, h⟩ := h
  simp [takeCaseRide, hn, hl, hr, h]

variable (hride : r.ride = .none)
include hride

theorem takeCaseRide_exhausted (h : current = 0) : takeCaseRide c s = (s, .none, some 0) := by
  simp [takeCaseRide, hn, hl, hr, hride, h]

variable (hpos : 0 < current)
include hpos

theorem takeCaseRide_link (ho : c.origin = .link) :
    takeCaseRide c s = (modifyRecord c.key Record.consume s, .takenToken, some (current - 1)) := by
  simp [takeCaseRide, hn, hl, hr, hride, Nat.ne_of_gt hpos, ho]

variable {session : Nat} {k : Counter} (ho : c.origin = .card session (some k))
include ho

theorem takeCaseRide_present (h : sessionPresent .settled session s.ciu = true) :
    takeCaseRide c s = (startResolutionWrite c k current s, .writeStarted, some current) := by
  simp [takeCaseRide, hn, hl, hr, hride, Nat.ne_of_gt hpos, ho, h]

theorem takeCaseRide_gone (h : sessionPresent .settled session s.ciu = false) :
    takeCaseRide c s = (s, .notWritten, some current) := by
  simp [takeCaseRide, hn, hl, hr, hride, Nat.ne_of_gt hpos, ho, h]

end

theorem sessionPresent_iff {state : CardState} {session : Nat} {c : Ciu} :
    sessionPresent state session c = true ↔ c.held = true ∧ c.tag = session ∧ c.state = state := by
  simp [sessionPresent, and_assoc]

/-! ### The paid span (R113) -/

section
variable {r : Route} {a x : Nat} {p q : Stop} (hp : r.stops[a]? = some p) (hq : r.stops[x]? = some q)
include hp hq

theorem extendPaid_none : extendPaid r a x none = (p.code, q.code) := by
  simp [extendPaid, Route.stop_eq_of_getElem? hp, Route.stop_eq_of_getElem? hq]

theorem extendPaid_absent {m n : Nat} (h : r.indexOf? m = none ∨ r.indexOf? n = none) :
    extendPaid r a x (some (m, n)) = (p.code, q.code) := by
  rw [← extendPaid_none hp hq]
  simp only [extendPaid]
  split
  · next hm hn => simp [hm, hn] at h
  · rfl

variable {ps pe : Nat} {m n : Stop} (hr : r.stops.Pairwise (fun m n => m.code ≠ n.code)) (hm : r.stops[ps]? = some m)
  (hn : r.stops[pe]? = some n)
include hr hm hn

theorem extendPaid_apart (h : x < ps ∨ pe < a) : extendPaid r a x (some (m.code, n.code)) = (p.code, q.code) := by
  have hapart : (decide (ps ≤ x) && decide (a ≤ pe)) = false := by
    simp only [Bool.and_eq_false_iff, decide_eq_false_iff_not]
    omega
  rw [← extendPaid_none hp hq]
  simp [extendPaid, Route.indexOf?_eq_some hr hm, Route.indexOf?_eq_some hr hn, hapart]

theorem extendPaid_meets (h : ps ≤ x) (h' : a ≤ pe) : extendPaid r a x (some (m.code, n.code)) =
    (if ps ≤ a then m.code else p.code, if x ≤ pe then n.code else q.code) := by
  have hstart : (r.stop (min ps a)).code = if ps ≤ a then m.code else p.code := by
    split
    · next hle => rw [Nat.min_eq_left hle, Route.stop_eq_of_getElem? hm]
    · next hle => rw [Nat.min_eq_right (by omega), Route.stop_eq_of_getElem? hp]
  have hend : (r.stop (max pe x)).code = if x ≤ pe then n.code else q.code := by
    split
    · next hle => rw [Nat.max_eq_left hle, Route.stop_eq_of_getElem? hn]
    · next hle => rw [Nat.max_eq_right (by omega), Route.stop_eq_of_getElem? hq]
  simp [extendPaid, Route.indexOf?_eq_some hr hm, Route.indexOf?_eq_some hr hn, h, h', hstart, hend]

end

/-- Settles O43: the rows of the ride by the state of the record, and the span by where the paid stops lie. -/
theorem caseRideAndPaidSpan : Obligations.CaseRideAndPaidSpan := by
  refine ⟨fun c s => ⟨takeCaseRide_noCount, fun current hn => ⟨takeCaseRide_unlinked hn, fun r hl hr =>
    ⟨takeCaseRide_taken hn hl hr, takeCaseRide_torn hn hl hr, takeCaseRide_exhausted hn hl hr,
      takeCaseRide_link hn hl hr, fun session k hride hpos ho => ⟨fun h => ?_, fun h => ?_⟩⟩⟩⟩,
    fun r a x p q hr hp hq _ => ⟨extendPaid_none hp hq, fun ps pe m n hm hn =>
      ⟨extendPaid_meets hp hq hr hm hn, extendPaid_apart hp hq hr hm hn⟩, fun m n h => extendPaid_absent hp hq
        (h.imp Route.indexOf?_eq_none Route.indexOf?_eq_none)⟩⟩
  · exact takeCaseRide_present hn hl hr hride hpos ho (sessionPresent_iff.2 h)
  · exact takeCaseRide_gone hn hl hr hride hpos ho (by rwa [← Bool.not_eq_true, sessionPresent_iff])

end Sys2Proof.Machine
end

section
/-! CASE-RESOLVE (R121 to R124) and CASE-QUOTE (R97). -/

namespace Sys2Proof.Machine

/-! ### A decision does not read the link -/

theorem takeCaseRide_withLif (l : Lif) (c : Case) (s : State) :
    takeCaseRide c (withLif l s) = (withLif l (takeCaseRide c s).1, (takeCaseRide c s).2) := by
  unfold takeCaseRide
  simp only [withLif]
  split
  · rfl
  split
  · rfl
  split
  · rfl
  · rfl
  · rfl
  split
  · rfl
  split
  · rfl
  · split
    next h => exact if_pos h
    next h => exact if_neg h
  · rfl

theorem decisionEffects_withLif (l : Lif) (d : CaseOutcome) (c : Case) (s : State) :
    decisionEffects d c (withLif l s) = (withLif l (decisionEffects d c s).1, (decisionEffects d c s).2) := by
  unfold decisionEffects
  split
  · exact takeCaseRide_withLif l c s
  · split
    · exact takeCaseRide_withLif l c (modifyRecord _ _ s)
    · exact takeCaseRide_withLif l c s
  · rfl

theorem decisionEffects_reserveSlot (rest : List RequestFrame) (d : CaseOutcome) (c : Case) (s : State) :
    decisionEffects d c (reserveSlot rest s) = (reserveSlot rest (decisionEffects d c s).1, (decisionEffects d c s).2) := by
  unfold reserveSlot
  rw [decisionEffects_withLif, decisionEffects_lif]

/-! ### The handling of CASE-RESOLVE -/

theorem findCase_eq_none {serial : Nat} {cs : List Case} (h : ∀ c ∈ cs, c.serial ≠ serial) : findCase serial cs = none := by
  simpa [findCase] using h

theorem findCase_named {front back : List Case} {c : Case} (h : ∀ d ∈ front, d.serial ≠ c.serial) :
    findCase c.serial (front ++ c :: back) = some c :=
  find?_named (by simp) (fun d hd => by simpa using h d hd) back

section
variable {body : List Byte} {serial decision : Nat} {s : State} (hs : fieldAt body 0 2 = serial)
  (hd : fieldAt body 2 1 = decision)

include hs in
theorem answerCaseResolve_noSuch (h : findCase serial s.ctb.cases = none) :
    answerCaseResolve body s = refuse .noSuch s := by
  simp only [answerCaseResolve, hs, h]

variable {c : Case} (hc : findCase serial s.ctb.cases = some c)
include hs hd hc

theorem answerCaseResolve_badField (h : decisionOf? decision = none) :
    answerCaseResolve body s = refuse .badField s := by
  simp only [answerCaseResolve, hs, hd, hc, h]

variable {d : CaseOutcome} (h : decisionOf? decision = some d)
include h

theorem answerCaseResolve_wrongState (ha : decisionAllowed d c = false) :
    answerCaseResolve body s = refuse .wrongState s := by
  simp only [answerCaseResolve, hs, hd, hc, h, ha, Bool.not_false, if_true]

theorem answerCaseResolve_decides (ha : decisionAllowed d c = true) :
    answerCaseResolve body s =
      okReply (u16 c.serial ++ u8 d.code ++ u8 (decisionEffects d c s).2.1.code ++
          u8 (orZero (decisionEffects d c s).2.2) ++ paidAmount d c)
        (closeCase d (decisionEffects d c s).2.1 (decisionEffects d c s).2.2 c (decisionEffects d c s).1) := by
  simp only [answerCaseResolve, hs, hd, hc, h, ha, Bool.not_true, if_neg Bool.false_ne_true]

end

/-- What a decision does to the block, with the reply ahead of what its close causes. -/
def resolvedBy (tag : Byte) (rest : List RequestFrame) (c : Case) (d : CaseOutcome) (paid : List Byte)
    (r : State × RideOutcome × Option Nat) : State :=
  let reply := (0 : Byte) :: (u16 c.serial ++ u8 d.code ++ u8 r.2.1.code ++ u8 (r.2.2.getD 0) ++ paid)
  closeCase d r.2.1 r.2.2 c (r.1.answered 0x70 tag reply rest)

theorem exec_caseResolve_decides {tag : Byte} {body : List Byte} {rest : List RequestFrame} {s : State}
    {serial decision : Nat} {c : Case} {d : CaseOutcome} (hr : Ready 0x30 tag body rest s)
    (hsize : sizeOk 0x30 body = true) (hs : fieldAt body 0 2 = serial) (hd : fieldAt body 2 1 = decision)
    (hc : findCase serial s.ctb.cases = some c) (h : decisionOf? decision = some d) (ha : decisionAllowed d c = true) :
    exec .caseResolve s = .next (resolvedBy tag rest c d (paidAmount d c) (decisionEffects d c s)) := by
  have hanswer := answerCaseResolve_decides (s := reserveSlot rest s) hs hd hc h ha
  rw [decisionEffects_reserveSlot] at hanswer
  have hl : (decisionEffects d c s).1.lif.outbound = s.lif.outbound := by rw [decisionEffects_lif]
  have he := exec_taken_then (c := .caseResolve) (t := (decisionEffects d c s).1)
    (repliesFirst_closeCase d (decisionEffects d c s).2.1 (decisionEffects d c s).2.2 c) rfl hr hsize hl hanswer
  exact he

/-- Settles O42: the refusals in their order, and the three decisions by their own effects. -/
theorem caseResolveDecides : Obligations.CaseResolveDecides := by
  intro tag rest serial decision s hserial hdecision hr
  have hs : fieldAt (u16 serial ++ u8 decision) 0 2 = serial := fieldAt_u16_append _ hserial
  have hd : fieldAt (u16 serial ++ u8 decision) 2 1 = decision := by rw [fieldAt_u16_skip, fieldAt_u8 hdecision]
  refine ⟨fun hnone => ?_, ?_⟩
  · exact exec_refused rfl hr rfl (answerCaseResolve_noSuch (s := reserveSlot rest s) hs (findCase_eq_none hnone))
  · rintro front back c hcases rfl hfront
    have hc : findCase c.serial s.ctb.cases = some c := by rw [hcases, findCase_named hfront]
    refine ⟨fun hbad => ?_, fun hcharged hlacks => ?_, fun hrefused => ?_, fun haccepted => ?_,
      fun q x hcharged hl hq hx => ?_⟩
    · have hnone : decisionOf? decision = none := by
        unfold decisionOf?
        split <;> simp_all
      exact exec_refused rfl hr rfl (answerCaseResolve_badField (s := reserveSlot rest s) hs hd hc hnone)
    · have hdisallowed : decisionAllowed .charged c = false := by
        rcases hlacks with h | h <;> simp [decisionAllowed, h]
      exact exec_refused rfl hr rfl
        (answerCaseResolve_wrongState (s := reserveSlot rest s) hs hd hc (hcharged ▸ rfl) hdisallowed)
    · exact exec_caseResolve_decides hr rfl hs hd hc (hrefused ▸ rfl) rfl
    · exact exec_caseResolve_decides hr rfl hs hd hc (haccepted ▸ rfl) rfl
    · have hallowed : decisionAllowed .charged c = true := by simp [decisionAllowed, hl, hq]
      have he := exec_caseResolve_decides hr rfl hs hd hc (hcharged ▸ rfl) hallowed
      simp only [paidAmount, decisionEffects, hq] at he
      rw [he]
      simp only [modifyRecord, updateRecord, chargeRecord, hx, Option.getD_some]
      rfl

/-! ### The handling of CASE-QUOTE -/

section
variable {body : List Byte} {serial code : Nat} {s : State} (hs : fieldAt body 0 2 = serial)
  (hd : fieldAt body 2 2 = code)

include hs in
theorem answerCaseQuote_noSuch (h : findCase serial s.ctb.cases = none) : answerCaseQuote body s = refuse .noSuch s := by
  simp only [answerCaseQuote, hs, h]

variable {c : Case} (hc : findCase serial s.ctb.cases = some c)
include hs hd hc

theorem answerCaseQuote_offRoute (h : c.route.indexOf? code = none) : answerCaseQuote body s = refuse .badField s := by
  simp only [answerCaseQuote, hs, hd, hc, h]

variable {x : Nat} (hx : c.route.indexOf? code = some x)
include hx

theorem answerCaseQuote_behind (h : x ≤ c.a) : answerCaseQuote body s = refuse .badField s := by
  simp only [answerCaseQuote, hs, hd, hc, hx, h, if_true]

variable (hahead : c.a < x)
include hahead

theorem answerCaseQuote_wrongState
    (h : c.basis = none ∨ (s.ven.areaOf (c.route.stop c.a).area).configured = false) :
    answerCaseQuote body s = refuse .wrongState s := by
  simp only [answerCaseQuote, hs, hd, hc, hx, if_neg (Nat.not_le.2 hahead)]
  split
  · rfl
  · next b hb =>
    rcases h with h | h
    · rw [hb] at h
      simp at h
    · exact if_pos (by simpa [caseQuoteInput, Ven.areaOf] using h)

theorem answerCaseQuote_quotes {b : QuoteBasis} (hb : c.basis = some b)
    (h : (s.ven.areaOf (c.route.stop c.a).area).configured = true) :
    answerCaseQuote body s =
      okReply (u16 c.serial ++ (computeQuote (caseQuoteInput c b x s)).fields)
        (withCtb { s.ctb with cases := setQuote c.serial (computeQuote (caseQuoteInput c b x s)) s.ctb.cases } s) := by
  simp only [answerCaseQuote, hs, hd, hc, hx, if_neg (Nat.not_le.2 hahead), hb]
  exact if_neg (by simpa [caseQuoteInput, Ven.areaOf] using h)

end

/-- The input of a requote, with the record given by its lookup. -/
theorem caseQuoteInput_eq {c : Case} {s : State} {r : Option Record}
    (hr : r = if c.linked = true then findRecord c.key s.irg.records else none) (b : QuoteBasis) (x : Nat) :
    caseQuoteInput c b x s =
      { route := c.route, a := c.a, x := x, kind := b.kind, cls := b.cls, adults := b.adults, children := b.children,
        carriageClass := b.carriageClass, paid := r.bind (fun r => r.paid), upgradeHeld := r.any (fun r => r.upgrade),
        entry := s.ven.areaOf (c.route.stop c.a).area, m1 := s.ven.m1 } := by
  have hupgrade : (r.map (fun r => r.upgrade)).getD false = r.any (fun r => r.upgrade) := by cases r <;> rfl
  rw [← hupgrade, hr]
  rfl

theorem setQuote_named {front back : List Case} {c : Case} (h : ∀ d ∈ front ++ back, d.serial ≠ c.serial) (q : Quote) :
    setQuote c.serial q (front ++ c :: back) = front ++ { c with quote := some q } :: back := by
  have hnamed := map_named (p := fun d : Case => decide (d.serial = c.serial)) (front := front) (back := back) (e := c)
    (by simp) (fun d hd => by simpa using h d hd) (fun d => { d with quote := some q })
  simpa [setQuote] using hnamed

/-- Settles O45: the refusals in their order, and the quote made of the record, the entry and M1 of this instant. -/
theorem caseQuoteRequotes : Obligations.CaseQuoteRequotes := by
  intro tag rest serial code s hserial hcode hr
  have hs : fieldAt (u16 serial ++ u16 code) 0 2 = serial := fieldAt_u16_append _ hserial
  have hd : fieldAt (u16 serial ++ u16 code) 2 2 = code := by rw [fieldAt_u16_skip, fieldAt_u16 hcode]
  refine ⟨fun hnone => ?_, ?_⟩
  · exact exec_refused rfl hr rfl (answerCaseQuote_noSuch (s := reserveSlot rest s) hs (findCase_eq_none hnone))
  · rintro front back c hcases rfl hothers
    have hc : findCase c.serial s.ctb.cases = some c := by
      rw [hcases, findCase_named fun d hdf => hothers d (List.mem_append_left _ hdf)]
    refine ⟨fun habsent => ?_, fun x hx => ⟨fun hbehind => ?_, fun hahead h => ?_, fun b r hahead hb hentry hrec => ?_⟩⟩
    · exact exec_refused rfl hr rfl
        (answerCaseQuote_offRoute (s := reserveSlot rest s) hs hd hc (Route.indexOf?_eq_none habsent))
    · exact exec_refused rfl hr rfl (answerCaseQuote_behind (s := reserveSlot rest s) hs hd hc hx hbehind)
    · exact exec_refused rfl hr rfl (answerCaseQuote_wrongState (s := reserveSlot rest s) hs hd hc hx hahead h)
    · have hanswer := answerCaseQuote_quotes (s := reserveSlot rest s) hs hd hc hx hahead hb hentry
      have hinput := caseQuoteInput_eq (s := s) hrec b x
      have hinput' : caseQuoteInput c b x (reserveSlot rest s) = caseQuoteInput c b x s := rfl
      have hcases' : (reserveSlot rest s).ctb.cases = front ++ c :: back := hcases
      rw [hinput', hinput, hcases', setQuote_named hothers] at hanswer
      have he := exec_taken (c := .caseQuote) (t := withCtb { s.ctb with cases := front ++ { c with quote := some _ } :: back } s)
        rfl hr rfl rfl hanswer
      exact he

end Sys2Proof.Machine
end

section
/-! The card line (08): its frames in and out, cards coming and going, and the timers of a read (R131, R135 to R143,
R145). -/

namespace Sys2Proof.Machine

/-! ### Frames received -/

section
variable {idle : Bool} {s : State} (hr : s.resetN = true) (hg : s.ciu.awaitsGap = false)
include hr hg

theorem exec_cardUp {identifier : List Byte} (h : identifier.length = 7) :
    exec (.cardUp idle (cardFrameBytes 0x01 identifier)) s = .next (cardUp identifier s) :=
  congrArg _ ((whenRunning_of_running hr).trans
    (receiveFrame_cardFrameBytes (by decide) (by omega) (r := .cardUp identifier) (by simp [decodeCardBody, h]) hg))

theorem exec_block {index : Byte} {data : List Byte} (h : data.length = 16) :
    exec (.block idle (cardFrameBytes 0x02 (index :: data))) s = .next (block index data s) :=
  congrArg _ ((whenRunning_of_running hr).trans
    (receiveFrame_cardFrameBytes (by decide) (by simp [h]) (r := .block index data) (by simp [decodeCardBody, h]) hg))

theorem exec_cardDown : exec (.cardDown idle (cardFrameBytes 0x03 [])) s = .next (cardDown s) :=
  congrArg _ ((whenRunning_of_running hr).trans
    (receiveFrame_cardFrameBytes (by decide) (by simp) (r := .cardDown) rfl hg))

theorem exec_written_done : exec (.written idle (cardFrameBytes 0x04 [0x01])) s = .next (written .done s) :=
  congrArg _ ((whenRunning_of_running hr).trans
    (receiveFrame_cardFrameBytes (by decide) (by simp) (r := .written .done) rfl hg))

theorem exec_written_lost : exec (.written idle (cardFrameBytes 0x04 [0x02])) s = .next (written .lost s) :=
  congrArg _ ((whenRunning_of_running hr).trans
    (receiveFrame_cardFrameBytes (by decide) (by simp) (r := .written .lost) rfl hg))

end

/-! ### Frames sent (R131, R139, R145) -/

theorem cardFrameBytes_eq (kind : Nat) (body : List Byte) :
    ∃ check : Byte, cardFrameBytes kind body = BitVec.ofNat 8 kind :: BitVec.ofNat 8 body.length :: (body ++ [check]) :=
  ⟨_, rfl⟩

theorem cardFrameSent_sends {f : CardFrame} {more : List CardFrame} {s : State} (h : s.ciu.sending = f :: more) :
    cardFrameSent s =
      { s with ciu := { startTimer f s.timebase s.ciu with sending := more }, cardSent := s.cardSent ++ [f.bytes] } := by
  have htimer : startTimer f s.timebase { s.ciu with sending := more } =
      { startTimer f s.timebase s.ciu with sending := more } := by
    unfold startTimer
    split
    · split <;> rfl
    · split <;> rfl
    · rfl
  simp only [cardFrameSent, h, htimer]

theorem exec_cardFrameSent {f : CardFrame} {more : List CardFrame} {c : Ciu} {s : State} (hr : s.resetN = true)
    (h : s.ciu.sending = f :: more) (hc : startTimer f s.timebase s.ciu = c) :
    exec .cardFrameSent s = .next { s with ciu := { c with sending := more }, cardSent := s.cardSent ++ [f.bytes] } := by
  rw [← hc, ← cardFrameSent_sends h]
  exact congrArg _ (whenRunning_of_running hr)

theorem cardFrameSent_idle {s : State} (h : s.ciu.sending = []) : cardFrameSent s = s := by
  simp [cardFrameSent, h]

/-- Settles O51. -/
theorem cardFramesStartTimers : Obligations.CardFramesStartTimers := by
  refine ⟨fun s h => congrArg _ (whenRunning_idle (cardFrameSent_idle h)), fun kind body => ?_,
    fun session block outcome => ⟨rfl, rfl, rfl⟩, rfl, rfl, fun f more s hr hs => ⟨?_, ?_, ?_, ?_, ?_⟩⟩
  · obtain ⟨check, h⟩ := cardFrameBytes_eq kind body
    exact ⟨check, h, byteSum_cardFrameBytes kind body⟩
  · rintro outcome rfl
    exact exec_cardFrameSent hr hs rfl
  · rintro session rfl hstate htag himage
    exact exec_cardFrameSent hr hs (if_pos ⟨hstate, htag, himage⟩)
  · rintro session rfl h
    refine exec_cardFrameSent hr hs (if_neg ?_)
    rintro ⟨hstate, htag, himage⟩
    rcases h with h | h | h
    · exact h hstate
    · exact h htag
    · exact h himage
  · rintro session block w rfl hstate htag hw
    refine exec_cardFrameSent hr hs ((if_pos ⟨hstate, htag⟩).trans ?_)
    rw [hw]
    rfl
  · rintro session block rfl h
    refine exec_cardFrameSent hr hs (if_neg ?_)
    rintro ⟨hstate, htag⟩
    rcases h with h | h
    · exact h hstate
    · exact h htag

/-! ### Reports of the card line (R133, R141, R148, R150) -/

theorem quietNow_iff {s : State} : quietNow s = true ↔ s.lif.power = .standby ∧ s.ciu.quiet = true := by
  simp [quietNow]

theorem wakeLif_eq (cause : WakeCause) (l : Lif) :
    wakeLif cause l = if l.power = .standby then
      produceWaiting (.wake cause) { l with power := .active, standbyToSend := 0 } else l := by
  unfold wakeLif
  cases l.power <;> rfl

/-- The link after a report: the CARD-EVENT, after a wake in STANDBY, or nothing where quiet errors apply. -/
def cardReported (event : CardEvent) (s : State) : Lif :=
  if s.lif.power = .standby ∧ s.ciu.quiet = true then s.lif
  else produceSingleton (.cardEvent event) (if s.lif.power = .standby then
    produceWaiting (.wake .card) { s.lif with power := .active, standbyToSend := 0 } else s.lif)

/-- The counts after a report. -/
def countsReported (event : CardEventKind) (s : State) : ErrorCounts :=
  if s.lif.power = .standby ∧ s.ciu.quiet = true then s.ciu.counts else s.ciu.counts.bump event

/-- The content of the report of an event that ends in a state. -/
def cardEventOf (event : CardEventKind) (session : Option Nat) (after : CardState) (s : State) : CardEvent :=
  { event := event, session := session, identifier := s.ciu.identifier, count := (s.ciu.counts.bump event).of event,
    state := after }

theorem reportCard_eq (event : CardEventKind) (session : Option Nat) (after : CardState) (s : State) :
    reportCard event session after s =
      { s with lif := cardReported (cardEventOf event session after s) s
               ciu := { s.ciu with counts := countsReported event s } } := by
  unfold reportCard cardReported countsReported
  simp only [← quietNow_iff]
  split
  · rfl
  · rw [wakeLif_eq]
    rfl

theorem failRead_eq (event : CardEventKind) (s : State) :
    failRead event s =
      { s with lif := cardReported (cardEventOf event (some s.ciu.tag) .settled s) s
               ciu := { s.ciu with state := .settled, held := false, image := [], readTimer := none
                                   counts := countsReported event s
                                   sending := s.ciu.sending ++ [.release .error] } } := by
  rw [failRead, reportCard_eq]
  rfl

theorem answerBusy_eq (s : State) :
    answerBusy s =
      { s with lif := cardReported (cardEventOf .busy none .settled s) s
               ciu := { s.ciu with state := .settled, held := false, readTimer := none
                                   sending := s.ciu.sending ++ [.release .error] } } := by
  have hcounts : countsReported .busy s = s.ciu.counts := ite_self _
  rw [answerBusy, reportCard_eq, hcounts]
  rfl

/-! ### A card comes (R136, R137) -/

theorem intakeOpen_iff {s : State} :
    intakeOpen s = true ↔ (∃ j, s.jcu.journey = some j ∧ j.closing = false) ∧ s.iq.entries.length < 16 := by
  simp [intakeOpen, journeyOpen_iff]

theorem intakeOpen_eq_false {s : State}
    (h : (∀ j, s.jcu.journey = some j → j.closing = true) ∨ 16 ≤ s.iq.entries.length) : intakeOpen s = false := by
  rw [← Bool.not_eq_true, intakeOpen_iff]
  rintro ⟨⟨j, hj, ho⟩, hroom⟩
  rcases h with h | h
  · exact absurd (h j hj) (by simp [ho])
  · omega

theorem cardDown_absent {s : State} (h : s.ciu.state = .absent) : cardDown s = s := by
  simp [cardDown, h]

theorem cardUp_absent {identifier : List Byte} {s : State} (h : s.ciu.state = .absent) :
    cardUp identifier s = cardUpAbsent identifier s := by
  rw [cardUp, cardDown_absent h]

theorem cardUp_reads {identifier : List Byte} {s : State} (h : s.ciu.state = .absent) (ho : intakeOpen s = true) :
    cardUp identifier s =
      { s with ciu := { s.ciu with state := .reading, tag := (s.ciu.tag + 1) % 65536, held := true,
                                   identifier := some identifier, image := [], readTimer := none,
                                   sending := s.ciu.sending ++ [.readImage ((s.ciu.tag + 1) % 65536)] } } :=
  (cardUp_absent h).trans (if_pos ho)

theorem cardUp_busy {identifier : List Byte} {s : State} (h : s.ciu.state = .absent) (ho : intakeOpen s = false) :
    cardUp identifier s =
      { s with
        lif := cardReported { event := .busy, session := none, identifier := some identifier, count := none,
                              state := .settled } s
        ciu := { s.ciu with identifier := some identifier, state := .settled, held := false, readTimer := none,
                            sending := s.ciu.sending ++ [.release .error] } } :=
  (cardUp_absent h).trans ((if_neg (Bool.eq_false_iff.1 ho)).trans (answerBusy_eq _))

theorem cardReported_active {event : CardEvent} {s : State} (h : s.lif.power = .active) :
    cardReported event s = produceSingleton (.cardEvent event) s.lif := by
  simp [cardReported, h]

theorem cardReported_quiet {event : CardEvent} {s : State} (h : s.lif.power = .standby) (hq : s.ciu.quiet = true) :
    cardReported event s = s.lif := by
  simp [cardReported, h, hq]

theorem cardReported_woken {event : CardEvent} {s : State} (h : s.lif.power = .standby) (hq : s.ciu.quiet = false) :
    cardReported event s = produceSingleton (.cardEvent event)
      (produceWaiting (.wake .card) { s.lif with power := .active, standbyToSend := 0 }) := by
  simp [cardReported, h, hq]

end Sys2Proof.Machine
end

section
/-! CARD_UP, BLOCK, CARD_DOWN and the read timers, command by command (R136 to R142). -/

namespace Sys2Proof.Machine

/-! ### CARD_UP -/

theorem endWrite_awaitsGap (done down : Bool) (s : State) : (endWrite done down s).ciu.awaitsGap = s.ciu.awaitsGap := by
  cases hw : s.ciu.write with
  | none => simp [endWrite, hw]
  | some w =>
    cases ho : w.owner with
    | parkedVerdict =>
      rw [endWrite_parkedVerdict hw ho]
      cases down <;> rfl
    | resolutionWrite =>
      rw [endWrite_resolutionWrite hw ho]
      cases down <;> rfl

theorem cardDown_awaitsGap (s : State) : (cardDown s).ciu.awaitsGap = s.ciu.awaitsGap := by
  unfold cardDown
  split
  · rfl
  · rw [reportCard_eq]
    rfl
  · rfl
  · exact endWrite_awaitsGap _ _ s
  · rfl

/-- Settles O46. -/
theorem cardUpStartsARead : Obligations.CardUpStartsARead := by
  intro idle identifier s hr hg hlength
  refine ⟨fun j hstate hj ho hroom => ?_, fun hstate h hactive => ?_, fun hstate h hstandby hquiet => ?_,
    fun hstate h hstandby hloud => ?_, fun t hok _ hdown => ?_⟩
  · rw [exec_cardUp hr hg hlength, cardUp_reads hstate (intakeOpen_iff.2 ⟨⟨j, hj, ho⟩, hroom⟩)]
  · rw [exec_cardUp hr hg hlength, cardUp_busy hstate (intakeOpen_eq_false h), cardReported_active hactive]
  · rw [exec_cardUp hr hg hlength, cardUp_busy hstate (intakeOpen_eq_false h), cardReported_quiet hstandby hquiet]
  · rw [exec_cardUp hr hg hlength, cardUp_busy hstate (intakeOpen_eq_false h), cardReported_woken hstandby hloud]
  · rw [exec_cardDown hr hg] at hdown
    obtain rfl : cardDown s = t := Host.Outcome.next.inj hdown
    have habsent := cardDown_state hok
    refine ⟨habsent, ?_⟩
    rw [exec_cardUp hr hg hlength, exec_cardUp (by simpa using hr) ((cardDown_awaitsGap s).trans hg) hlength,
      cardUp_absent habsent, cardUp]

/-! ### CARD_DOWN outside WRITING, and the read timers -/

theorem cardDown_reading {s : State} (h : s.ciu.state = .reading) :
    cardDown s =
      { s with lif := cardReported (cardEventOf .removedEarly (some s.ciu.tag) .absent s) s
               ciu := { s.ciu with state := .absent, held := false, identifier := none, image := [],
                                   readTimer := none } } := by
  have hcounts : countsReported .removedEarly s = s.ciu.counts := ite_self _
  simp only [cardDown, h, reportCard_eq, hcounts]
  rfl

theorem cardDown_leaves {s : State} (h : s.ciu.state = .queued ∨ s.ciu.state = .settled) :
    cardDown s = { s with ciu := { s.ciu with state := .absent, held := false, identifier := none } } := by
  rcases h with h | h <;> simp only [cardDown, h] <;> rfl

theorem readTimerExpiry_idle {s : State} (h : s.ciu.state ≠ .reading ∨ s.ciu.readTimer = none ∨
    ∃ due, s.ciu.readTimer = some due ∧ s.timebase < due) : readTimerExpiry s = s := by
  refine if_neg ?_
  rcases h with h | h | ⟨due, h, hearly⟩
  · simp [h]
  · simp [timerDue, h]
  · simp [timerDue, h, hearly]

theorem readTimerExpiry_due {s : State} {due : Nat} (hs : s.ciu.state = .reading) (ht : s.ciu.readTimer = some due)
    (h : due ≤ s.timebase) : readTimerExpiry s = failRead .timeout s :=
  if_pos (by simp [timerDue, hs, ht, h])

/-- Settles O48. -/
theorem cardLeavesOrFallsSilent : Obligations.CardLeavesOrFallsSilent := by
  intro idle s hr
  refine ⟨fun hg => ⟨fun hstate => ?_, fun hstate => ?_, fun hstate => ?_⟩, fun h => ?_, fun due hstate ht hdue => ?_⟩
  · rw [exec_cardDown hr hg, cardDown_absent hstate]
  · rw [exec_cardDown hr hg, cardDown_leaves hstate]
  · rw [exec_cardDown hr hg, cardDown_reading hstate]
    rfl
  · exact congrArg _ (whenRunning_idle (readTimerExpiry_idle h))
  · have hexec : exec .readTimerExpiry s = .next (readTimerExpiry s) := congrArg _ (whenRunning_of_running hr)
    rw [hexec, readTimerExpiry_due hstate ht hdue, failRead_eq]
    rfl

/-! ### BLOCK -/

/-- A block is stored, and the block timer runs (R138, R139). -/
def withBlock (data : List Byte) (s : State) : State :=
  withCiu { s.ciu with image := s.ciu.image ++ [data], readTimer := some (s.timebase + 50) } s

theorem wake_withBlock_lif (data : List Byte) (s : State) :
    (wake .card (withBlock data s)).lif = if s.lif.power = .standby then
      produceWaiting (.wake .card) { s.lif with power := .active, standbyToSend := 0 } else s.lif :=
  wakeLif_eq .card s.lif

section
variable {index : Byte} {data : List Byte} {s : State}

theorem block_ignored (h : s.ciu.state ≠ .reading) : block index data s = s :=
  if_neg h

variable (hs : s.ciu.state = .reading)
include hs

theorem block_stored (hi : index.toNat = s.ciu.image.length) (h5 : index.toNat < 5) :
    block index data s =
      { s with ciu := { s.ciu with image := s.ciu.image ++ [data], readTimer := some (s.timebase + 50) } } := by
  have hexpected : index.toNat = s.ciu.image.length ∧ index.toNat ≤ 5 := ⟨hi, by omega⟩
  simp only [block, hs, takeBlock, if_pos hexpected, if_neg (show ¬ index.toNat = 5 by omega), if_true]
  rfl

theorem block_misplaced (h : index.toNat ≠ s.ciu.image.length ∨ 5 < index.toNat) :
    block index data s = failRead .sequence s := by
  simp only [block, hs, takeBlock, if_true]
  exact if_neg (by omega)

theorem block_last (hi : index.toNat = 5) (hl : s.ciu.image.length = 5) :
    block index data s = completeRead (s.ciu.image ++ [data]) (withBlock data s) := by
  have hexpected : index.toNat = s.ciu.image.length ∧ index.toNat ≤ 5 := by omega
  rw [block, if_pos hs, takeBlock, if_pos hexpected]
  exact if_pos hi

end

/-- The counter record's three bytes are its fields written out. -/
theorem counterOf_bytes {data : List Byte} (h : data.length = 16) :
    u8 (counterOf data).rides ++ u16 (counterOf data).sequence = data.take 3 := by
  match data with
  | b :: c :: d :: more =>
    have hb := b.isLt
    have hc := c.isLt
    have hd := d.isLt
    have hhigh : (c.toNat * 256 + d.toNat) / 256 = c.toNat := by omega
    simp [counterOf, u8, u16, fieldAt, beNat, hhigh]
    bv_omega

theorem counterCrcOk_iff {content data : List Byte} (h : data.length = 16) :
    counterCrcOk content data = true ↔
      (crc16 (data.take 3 ++ (content.drop 3).take 6)).toNat = fieldAt data 3 2 := by
  rw [← counterOf_bytes h, counterCrcOk, beq_iff_eq]
  rfl

section
variable {image : List (List Byte)} {data : List Byte} {s : State} (hd : image.getD 5 [] = data)
include hd

theorem completeRead_badFormat (h : counterCrcOk (image.take 5).flatten data = false ∨
    80 < fieldAt (image.take 5).flatten 9 1) : completeRead image s = failRead .format s := by
  rcases h with h | h
  · simp only [completeRead, hd, h, Bool.not_false, if_true]
  · simp only [completeRead, if_pos h, ite_self]

variable (hc : counterCrcOk (image.take 5).flatten data = true) (hl : fieldAt (image.take 5).flatten 9 1 ≤ 80)
include hc hl

theorem completeRead_busy (h : intakeOpen s = false) : completeRead image s = answerBusy s := by
  simp only [completeRead, hd, hc, if_neg (Nat.not_lt.2 hl), h, Bool.not_true, Bool.not_false, Bool.false_eq_true,
    if_true, if_false]

theorem completeRead_queues (h : intakeOpen s = true) :
    completeRead image s = withCiu { s.ciu with state := .queued, readTimer := none }
      (addEntry (.card (counterOf data) s.ciu.tag) (image.take 5).flatten (wake .card s)) := by
  simp only [completeRead, hd, hc, if_neg (Nat.not_lt.2 hl), h, Bool.not_true, Bool.false_eq_true, if_false,
    addEntry_ciu, wake_ciu]

end

/-- Settles O47. -/
theorem blocksMakeAnEntry : Obligations.BlocksMakeAnEntry := by
  intro idle index data s hr hg hlength received stored content counter sound silent woken failed
  have hexec : exec received s = .next (block index data s) := exec_block hr hg hlength
  have hsound : counterCrcOk content data = true ↔ sound := counterCrcOk_iff hlength
  have hunsound : counterCrcOk content data = false ↔ ¬ sound := by rw [← hsound, Bool.not_eq_true]
  have hlast (h5 : s.ciu.image.length = 5) : stored.getD 5 [] = data := by
    simp [stored, h5]
  rw [hexec]
  refine ⟨fun hs => ?_, fun hs => ⟨fun hi h5 => ?_, fun h => ?_, fun hi h5 h => ?_, fun hi h5 hok hl h => ?_,
    fun j hi h5 hok hl hj ho hroom => ?_⟩⟩
  · rw [block_ignored hs]
  · rw [block_stored hs hi h5]
  · rw [block_misplaced hs h, failRead_eq]
    rfl
  · rw [block_last hs hi h5, completeRead_badFormat (hlast h5) (h.imp_left hunsound.2), failRead_eq]
    rfl
  · rw [block_last hs hi h5, completeRead_busy (hlast h5) (hsound.2 hok) hl, answerBusy_eq]
    · simp only [failed, ite_self]
      rfl
    · exact intakeOpen_eq_false h
  · rw [block_last hs hi h5, completeRead_queues (hlast h5) (hsound.2 hok) hl]
    · intro number entry count held
      have hwoken : (wake .card (withBlock data s)).lif = woken := wake_withBlock_lif data s
      by_cases hheld : held
      · obtain ⟨hhold, hhigh⟩ := id hheld
        rw [addEntry_enters (s := wake .card (withBlock data s)) _ _ hhold hhigh, ← hwoken]
        simp only [hheld, if_true, decide_true, Bool.or_true]
        rfl
      · have hstays : s.iq.hold = true ∨ s.iq.entries.length + 1 < s.iq.high := by
          simp only [held, not_and, Nat.not_le] at hheld
          cases hhold : s.iq.hold with
          | true => exact .inl rfl
          | false => exact .inr (hheld hhold)
        rw [addEntry_stays (s := wake .card (withBlock data s)) _ _ hstays, ← hwoken]
        simp only [hheld, if_false, decide_false, Bool.or_false]
        rfl
    · exact intakeOpen_iff.2 ⟨⟨j, hj, ho⟩, hroom⟩

end Sys2Proof.Machine
end

section
/-! Errors of the card line (R131 to R133, R148), and the end of a write (R83, R109, R125, R146). -/

namespace Sys2Proof.Machine

/-! ### Well-formed frames and the rows that receive them -/

/-- The kind byte of a received frame (R189). -/
def CardReceived.kind : CardReceived → Nat
  | .cardUp _ => 0x01
  | .block _ _ => 0x02
  | .cardDown => 0x03
  | .written _ => 0x04

/-- The body has the size and the values of its kind (R189). -/
def cardBodyOk (kind : Nat) (body : List Byte) : Prop :=
  (kind = 0x01 ∧ body.length = 7) ∨ (kind = 0x02 ∧ body.length = 17) ∨ (kind = 0x03 ∧ body = []) ∨
    (kind = 0x04 ∧ (body = [0x01] ∨ body = [0x02]))

theorem decodeCardBody_eq_some {kind : Nat} {body : List Byte} (h : cardBodyOk kind body) :
    ∃ r, decodeCardBody kind body = some r ∧ r.kind = kind ∧ kind < 256 ∧ body.length ≤ 20 := by
  rcases h with ⟨rfl, h⟩ | ⟨rfl, h⟩ | ⟨rfl, rfl⟩ | ⟨rfl, rfl | rfl⟩
  · exact ⟨.cardUp body, by simp [decodeCardBody, h], rfl, by decide, by omega⟩
  · match body with
    | index :: data =>
      have hdata : data.length = 16 := by simpa using h
      exact ⟨.block index data, by simp [decodeCardBody, hdata], rfl, by decide, by omega⟩
  · exact ⟨.cardDown, rfl, rfl, by decide, by decide⟩
  · exact ⟨.written .done, rfl, rfl, by decide, by decide⟩
  · exact ⟨.written .lost, rfl, rfl, by decide, by decide⟩

theorem decodeCardFrame_eq_some {kind : Nat} {frame : List Byte}
    (h : ∃ body, frame = cardFrameBytes kind body ∧ cardBodyOk kind body) :
    ∃ r, decodeCardFrame frame = some r ∧ r.kind = kind := by
  obtain ⟨body, rfl, hbody⟩ := h
  obtain ⟨r, hr, hkind, hsmall, hlength⟩ := decodeCardBody_eq_some hbody
  exact ⟨r, (decodeCardFrame_cardFrameBytes hsmall hlength).trans hr, hkind⟩

theorem decodeCardFrame_eq_none {frame : List Byte}
    (h : ∀ kind, ¬ ∃ body, frame = cardFrameBytes kind body ∧ cardBodyOk kind body) : decodeCardFrame frame = none := by
  cases hd : decodeCardFrame frame with
  | none => rfl
  | some r =>
    obtain ⟨kind, body, -, -, hframe, hbody⟩ := eq_cardFrameBytes_of_decode hd
    refine absurd ⟨body, hframe, ?_⟩ (h kind)
    rcases decodeCardBody_cases hbody with ⟨hk, hl, -⟩ | ⟨index, data, hk, rfl, hl, -⟩ | ⟨hk, hb, -⟩ | ⟨hk, hb, -⟩ |
      ⟨hk, hb, -⟩
    · exact .inl ⟨hk, hl⟩
    · exact .inr (.inl ⟨hk, by simp [hl]⟩)
    · exact .inr (.inr (.inl ⟨hk, hb⟩))
    · exact .inr (.inr (.inr ⟨hk, .inl hb⟩))
    · exact .inr (.inr (.inr ⟨hk, .inr hb⟩))

/-- The rows that receive frames, each with the kind that is its own; 0 where it has none. -/
def cardRows (idle : Bool) (frame : List Byte) : List (Nat × Instr) :=
  [(0x01, .cardUp idle frame), (0x02, .block idle frame), (0x03, .cardDown idle frame), (0x04, .written idle frame),
    (0x00, .cardCheckError idle frame)]

/-- A row receives its frame by a handling of its own, which does nothing with a frame of another kind. -/
theorem cardRows_receive {idle : Bool} {frame : List Byte} {k : Nat} {c : Instr} (h : (k, c) ∈ cardRows idle frame) :
    ∃ own, (∀ s, exec c s = .next (whenRunning (receiveFrame own idle frame) s)) ∧
      ∀ (r : CardReceived) (s : State), r.kind ≠ k → own r s = s := by
  simp only [cardRows, List.mem_cons, Prod.mk.injEq, List.not_mem_nil, or_false] at h
  rcases h with ⟨rfl, rfl⟩ | ⟨rfl, rfl⟩ | ⟨rfl, rfl⟩ | ⟨rfl, rfl⟩ | ⟨rfl, rfl⟩
  · exact ⟨takeCardUp, fun _ => rfl, fun r s hk => by cases r <;> simp_all [CardReceived.kind, takeCardUp]⟩
  · exact ⟨takeBlockFrame, fun _ => rfl, fun r s hk => by cases r <;> simp_all [CardReceived.kind, takeBlockFrame]⟩
  · exact ⟨takeCardDown, fun _ => rfl, fun r s hk => by cases r <;> simp_all [CardReceived.kind, takeCardDown]⟩
  · exact ⟨takeWritten, fun _ => rfl, fun r s hk => by cases r <;> simp_all [CardReceived.kind, takeWritten]⟩
  · exact ⟨fun _ s => s, fun _ => rfl, fun _ _ _ => rfl⟩

theorem receiveFrame_malformed {own : CardReceived → State → State} {idle : Bool} {frame : List Byte} {s : State}
    (hd : decodeCardFrame frame = none) (hg : s.ciu.awaitsGap = false) :
    receiveFrame own idle frame s = lineError .check s := by
  simp [receiveFrame, hd, hg]

theorem receiveFrame_discarded {own : CardReceived → State → State} {frame : List Byte} {s : State}
    (hg : s.ciu.awaitsGap = true) : receiveFrame own false frame s = s := by
  unfold receiveFrame
  split <;> simp [whenListening, hg]

/-- After an idle gap the receiver takes a frame as if it had not waited. -/
theorem receiveFrame_idle (own : CardReceived → State → State) (frame : List Byte) (s : State) :
    receiveFrame own true frame s = receiveFrame own true frame (setAwaitsGap false s) := by
  unfold receiveFrame
  split <;> rfl

/-! ### Errors of the line (R133) -/

theorem lineError_eq (event : CardEventKind) (s : State) :
    lineError event s =
      { s with
        lif := cardReported
          { event := event, session := (if s.ciu.state = .reading then some s.ciu.tag else none),
            identifier := s.ciu.identifier, count := (s.ciu.counts.bump event).of event,
            state := (if s.ciu.state = .reading then .settled else s.ciu.state) } s
        ciu := if s.ciu.state = .reading then
            { s.ciu with counts := countsReported event s, state := .settled, held := false, image := [],
                         readTimer := none, sending := s.ciu.sending ++ [.release .error] }
          else { s.ciu with counts := countsReported event s } } := by
  unfold lineError
  by_cases h : s.ciu.state = .reading
  · simp only [h, if_true, failRead_eq]
    rfl
  · simp only [h, if_false, reportCard_eq]
    rfl

theorem lineError_awaitsGap (event : CardEventKind) (s : State) :
    (lineError event s).ciu.awaitsGap = s.ciu.awaitsGap := by
  rw [lineError_eq]
  split <;> rfl

theorem frameCutShort_awake {idle : Bool} {s : State} (hg : s.ciu.awaitsGap = false) :
    frameCutShort idle s = lineError .check s := by
  simp [frameCutShort, hg]

section
variable {idle : Bool} {s : State}

theorem exec_cardFrameCutShort (hr : s.resetN = true) :
    exec (.cardFrameCutShort idle) s = .next (frameCutShort idle s) :=
  congrArg _ (whenRunning_of_running hr)

theorem exec_cardFramingError (hr : s.resetN = true) : exec .cardFramingError s = .next (framingError s) :=
  congrArg _ (whenRunning_of_running hr)

variable {event : CardEventKind}

theorem countsReported_quiet (h : s.lif.power = .standby) (hq : s.ciu.quiet = true) :
    countsReported event s = s.ciu.counts :=
  if_pos ⟨h, hq⟩

theorem countsReported_counted (h : s.lif.power = .active ∨ s.ciu.quiet = false) :
    countsReported event s = s.ciu.counts.bump event := by
  refine if_neg ?_
  rcases h with h | h <;> simp [h]

end

/-- The commands that say a CHECK or a FRAMING error of the line, and what they do. -/
theorem exec_lineError {c : Instr} {kind : CardEventKind} {s : State} (hr : s.resetN = true)
    (hc : (kind = .check ∧ s.ciu.awaitsGap = false ∧ ∃ idle, c = .cardFrameCutShort idle ∨
        ∃ k frame, (k, c) ∈ cardRows idle frame ∧
          ∀ k', ¬ ∃ body, frame = cardFrameBytes k' body ∧ cardBodyOk k' body) ∨
      (kind = .framing ∧ c = .cardFramingError)) :
    exec c s = .next (setAwaitsGap (decide (kind = .framing)) (lineError kind s)) ∧ (kind = .check ∨ kind = .framing) := by
  have hsame (h : s.ciu.awaitsGap = false) : setAwaitsGap false (lineError .check s) = lineError .check s :=
    setAwaitsGap_self ((lineError_awaitsGap _ s).trans h)
  rcases hc with ⟨rfl, hg, idle, rfl | ⟨k, frame, hrow, hmalformed⟩⟩ | ⟨rfl, rfl⟩
  · rw [exec_cardFrameCutShort hr, frameCutShort_awake hg]
    exact ⟨congrArg _ (hsame hg).symm, .inl rfl⟩
  · obtain ⟨own, hown, -⟩ := cardRows_receive hrow
    rw [hown, whenRunning_of_running hr, receiveFrame_malformed (decodeCardFrame_eq_none hmalformed) hg]
    exact ⟨congrArg _ (hsame hg).symm, .inl rfl⟩
  · exact ⟨exec_cardFramingError hr, .inr rfl⟩

/-- Settles O49. -/
theorem cardErrorsAreCounted : Obligations.CardErrorsAreCounted := by
  unfold Obligations.CardErrorsAreCounted
  intro wellFormed rows
  refine ⟨fun c kind s hr hc => ?_, fun idle frame k k' c s hg hrow hwell hne => ?_, fun frame k s hr hg => ?_⟩
  · obtain ⟨hexec, hkind⟩ := exec_lineError hr hc
    rw [hexec, lineError_eq]
    refine ⟨fun hactive => ?_, fun hstandby hloud => ?_, fun hstandby hquiet => ?_⟩
    · rw [cardReported_active hactive, countsReported_counted (.inl hactive)]
      by_cases hreading : s.ciu.state = .reading <;> simp only [hreading, if_true, if_false] <;>
        rcases hkind with rfl | rfl <;> rfl
    · rw [cardReported_woken hstandby hloud, countsReported_counted (.inr hloud)]
      by_cases hreading : s.ciu.state = .reading <;> simp only [hreading, if_true, if_false] <;>
        rcases hkind with rfl | rfl <;> rfl
    · rw [cardReported_quiet hstandby hquiet, countsReported_quiet hstandby hquiet]
      by_cases hreading : s.ciu.state = .reading <;> simp only [hreading, if_true, if_false] <;> rfl
  · obtain ⟨own, hown, hother⟩ := cardRows_receive hrow
    obtain ⟨r, hd, rfl⟩ := decodeCardFrame_eq_some hwell
    rw [hown, whenRunning_idle]
    simp [receiveFrame, hd, hg, hother r s hne]
  · refine ⟨fun c hrow => ?_, fun c hrow => ?_, ?_, ?_⟩
    · obtain ⟨own, hown, -⟩ := cardRows_receive hrow
      rw [hown, whenRunning_idle (receiveFrame_discarded hg)]
    · obtain ⟨own, hown, -⟩ := cardRows_receive hrow
      rw [hown, hown, whenRunning_of_running hr, receiveFrame_idle]
      exact congrArg _ (whenRunning_of_running (s := setAwaitsGap false s) hr).symm
    · rw [exec_cardFrameCutShort hr]
      simp [frameCutShort, hg, setAwaitsGap, withCiu]
    · rw [exec_cardFrameCutShort hr, exec_cardFrameCutShort (by exact hr)]
      rfl

end Sys2Proof.Machine
end

section
/-! The end of a card write (R83, R109, R125, R146). -/

namespace Sys2Proof.Machine

/-! ### The commands that end a write -/

section
variable {s : State}

theorem written_ignored {result : WriteResult} (h : s.ciu.state ≠ .writing) : written result s = s :=
  if_neg h

theorem writeTimerExpiry_idle (h : s.ciu.state ≠ .writing ∨ ∃ w, s.ciu.write = some w ∧
    (w.timer = none ∨ ∃ due, w.timer = some due ∧ s.timebase < due)) : writeTimerExpiry s = s := by
  refine if_neg ?_
  rcases h with h | ⟨w, hw, h | ⟨due, h, hearly⟩⟩
  · simp [h]
  · simp [timerDue, hw, h]
  · simp [timerDue, hw, h, hearly]

theorem exec_written_ignored {idle : Bool} {result : Byte} (hg : s.ciu.awaitsGap = false) (hs : s.ciu.state ≠ .writing)
    (h : result ∈ [0x01#8, 0x02#8]) : exec (.written idle (cardFrameBytes 0x04 [result])) s = .next s := by
  have hkept (r : WriteResult) (hd : decodeCardBody 0x04 [result] = some (.written r)) :
      receiveFrame takeWritten idle (cardFrameBytes 0x04 [result]) s = s :=
    (receiveFrame_cardFrameBytes (by decide) (by simp) hd hg).trans (written_ignored hs)
  refine congrArg _ (whenRunning_idle ?_)
  simp only [List.mem_cons, List.not_mem_nil, or_false] at h
  rcases h with rfl | rfl
  · exact hkept .done rfl
  · exact hkept .lost rfl

/-- WRITTEN, the timer and CARD_DOWN end the write alike, each with its outcome (R146). -/
theorem exec_endsWrite {c : Instr} {idle done down : Bool} {w : WriteRecord} (hr : s.resetN = true)
    (hg : s.ciu.awaitsGap = false ∨ c = .writeTimerExpiry) (hs : s.ciu.state = .writing) (hw : s.ciu.write = some w)
    (hc : (c = .written idle (cardFrameBytes 0x04 [0x01]) ∧ done = true ∧ down = false) ∨
      (c = .written idle (cardFrameBytes 0x04 [0x02]) ∧ done = false ∧ down = false) ∨
      (c = .cardDown idle (cardFrameBytes 0x03 []) ∧ done = false ∧ down = true) ∨
      (c = .writeTimerExpiry ∧ done = false ∧ down = false ∧ ∃ due, w.timer = some due ∧ due ≤ s.timebase)) :
    exec c s = .next (endWrite done down s) := by
  rcases hc with ⟨rfl, rfl, rfl⟩ | ⟨rfl, rfl, rfl⟩ | ⟨rfl, rfl, rfl⟩ | ⟨rfl, rfl, rfl, due, ht, hdue⟩
  · rw [exec_written_done hr (hg.resolve_right (by simp))]
    exact congrArg _ (if_pos hs)
  · rw [exec_written_lost hr (hg.resolve_right (by simp))]
    exact congrArg _ (if_pos hs)
  · rw [exec_cardDown hr (hg.resolve_right (by simp))]
    simp only [cardDown, hs]
  · have hexec : exec .writeTimerExpiry s = .next (writeTimerExpiry s) := congrArg _ (whenRunning_of_running hr)
    rw [hexec, writeTimerExpiry, if_pos]
    simp [timerDue, hs, hw, ht, hdue]

end

/-! ### The record and the verdict -/

/-- The ride state of a record at the end of its write (R109). -/
def RideState.ended (done : Bool) (ride : RideState) : RideState :=
  match ride with
  | .pending e => if done then .consumed else .torn e
  | other => if done then .consumed else other

theorem Record.endWrite_eq (done : Bool) (r : Record) : r.endWrite done = { r with ride := r.ride.ended done } := by
  cases done with
  | true => cases hr : r.ride <;> simp [Record.endWrite, Record.consume, RideState.ended]
  | false => cases hr : r.ride <;> simp [Record.endWrite, Record.tear, RideState.ended, hr] <;> rw [← hr]

theorem modifyRecord_endWrite (key : CredKey) (done : Bool) (s : State) :
    modifyRecord key (Record.endWrite done) s =
      { s with irg := { s.irg with records := s.irg.records.map (fun r =>
        if r.key = key then { r with ride := r.ride.ended done } else r) } } := by
  simp only [modifyRecord, updateRecord, Record.endWrite_eq]

theorem parkedAfterWrite_done {ev : Evaluation} {counter : Counter} {session : Nat} (v : Ven)
    (ho : ev.origin = .card counter session) :
    parkedAfterWrite true v ev = ev.setRide .written (some (counter.rides - 1)) := by
  simp [parkedAfterWrite, ho, Origin.counterRides]

theorem parkedAfterWrite_lost {ev : Evaluation} {counter : Counter} {session : Nat} (v : Ven)
    (ho : ev.origin = .card counter session) :
    parkedAfterWrite false v ev = addRideTorn (v.policyOf .rideTorn) (ev.setRide .torn (some counter.rides)) := by
  simp [parkedAfterWrite, ho, Origin.counterRides]

theorem endParkedWrite_eq {ev : Evaluation} {cred : Credential} {s : State} (done : Bool)
    (hp : s.ven.parked = some { ev := ev, completed := false }) (hc : ev.credential = some cred) :
    endParkedWrite done s =
      ({ modifyRecord cred.key (Record.endWrite done) s with
          ven := { s.ven with parked := some { ev := parkedAfterWrite done s.ven ev, completed := true } } },
        releaseOf ((parkedAfterWrite done s.ven ev).verdict.getD .pass)) := by
  have hkept : (parkedAfterWrite done s.ven ev).credential = some cred := by
    unfold parkedAfterWrite addRideTorn
    split
    · exact hc
    · split <;> exact hc
  simp only [endParkedWrite, hp, hkept]
  rfl

theorem endResolutionWrite_eq {entry : ResolutionWrite} {s : State} (done : Bool) (hr : s.ctb.resolution = some entry) :
    endResolutionWrite done s =
      (journal (.ride entry.serial entry.journey entry.key (if done then .written else .torn)
          (if done then entry.rides - 1 else entry.rides))
        { modifyRecord entry.key (Record.endWrite done) s with ctb := { s.ctb with resolution := none } },
        if done then .pass else .note) := by
  simp only [endResolutionWrite, hr]
  rfl

theorem deriveVerdict_eq_action {fs : List Raised} : deriveVerdict fs = .action ↔ ∃ r ∈ fs, r.policy = some .blocking := by
  rw [deriveVerdict_eq]
  split
  · next h => simp [h]
  · next h =>
    simp only [h, iff_false]
    split <;> simp

/-- RIDE-TORN joins the findings, and the verdict and the quote follow (R83). -/
theorem addRideTorn_eq {p : Policy} {v' : Verdict} {ev : Evaluation} (hp : p ≠ .ignored)
    (hv : v' = if p = .blocking ∨ ∃ r ∈ ev.findings, r.policy = some .blocking then .action else .passNoted) :
    addRideTorn p ev =
      { ev with
        verdict := some v'
        quote := (if v' = .action ∧ ∀ r ∈ ev.findings, r.policy ≠ some .blocking then none else ev.quote)
        findings := ev.findings ++ [{ finding := .rideTorn, policy := some p }] } := by
  have hderived : deriveVerdict (ev.findings ++ [{ finding := .rideTorn, policy := some p }]) = v' := by
    rw [hv, deriveVerdict_eq]
    simp only [List.mem_append, List.mem_singleton, or_and_right, exists_or, exists_eq_left, Option.some.injEq,
      List.append_eq_nil_iff, List.cons_ne_self, and_false, if_false, or_comm]
  have hbefore : deriveVerdict ev.findings ≠ .action ↔ ∀ r ∈ ev.findings, r.policy ≠ some .blocking := by
    rw [Ne, deriveVerdict_eq_action]
    simp
  simp only [addRideTorn, if_neg hp, hderived, hbefore]

/-- Settles O50. -/
theorem writesEnd : Obligations.WritesEnd := by
  refine ⟨fun idle result s hg hs h => exec_written_ignored hg hs h,
    fun s h => congrArg _ (whenRunning_idle (writeTimerExpiry_idle (.inl h))),
    fun w s hw h => congrArg _ (whenRunning_idle (writeTimerExpiry_idle (.inr ⟨w, hw, h⟩))), ?_⟩
  intro c idle done down w s hr hg hs hw hc ended moved after finished
  have hexec := exec_endsWrite hr hg hs hw hc
  have hafter (outcome : ReleaseOutcome) : s.ciu.writeEnded outcome down = after outcome := by
    cases down <;> rfl
  refine ⟨fun ev cred counter session v ho hp hcred horigin hv => ?_, fun entry ho hentry => ?_⟩
  · rw [hexec, endWrite_parkedVerdict hw ho, endParkedWrite_eq done hp hcred, hafter, modifyRecord_endWrite]
    have hdone' := parkedAfterWrite_done s.ven horigin
    have hlost' := parkedAfterWrite_lost s.ven horigin
    refine ⟨fun hdone => ?_, fun hlost hignored => ?_, fun p v' hlost hpolicy hraised hv' => ?_⟩
    · subst hdone
      rw [hdone', Evaluation.setRide, hv]
      rfl
    · subst hlost
      rw [hlost', hignored, addRideTorn, if_pos rfl, Evaluation.setRide, hv]
      rfl
    · subst hlost
      rw [hlost', hpolicy, addRideTorn_eq (ev := ev.setRide .torn (some counter.rides)) hraised hv']
      rfl
  · rw [hexec, endWrite_resolutionWrite hw ho, endResolutionWrite_eq done hentry, hafter, modifyRecord_endWrite]
    rfl

end Sys2Proof.Machine
end

section
/-! The journal's requests and timers (R178, R179, R181), and the bytes of a record (R174, R192). -/

namespace Sys2Proof.Machine

/-! ### The bytes of a record -/

theorem journalQuoteBytes_eq (quote : Option (Nat × Nat)) : journalQuoteBytes quote = laidOut (quoteLayout 3 quote) := by
  cases quote with
  | none => rfl
  | some q => rw [quoteLayout, laidOut_cons, laidOut_three, laidOut_two]; rfl

theorem keyBytes_some (k : CredKey) : keyBytes (some k) = laidOut [(1, k.issuer)] ++ laidOut [(6, k.serial)] := by
  rw [laidOut_one, laidOut_six]
  rfl

theorem TravelClass.code_sub_one (c : TravelClass) : c.code - 1 = if c = .second then 1 else 0 := by
  cases c <;> rfl

theorem flagBits_five (a b c d e : Bool) :
    flagBits [a, b, c, d, e] = bit a + 2 * bit b + 4 * bit c + 8 * bit d + 16 * bit e := by
  rw [flagBits_cons, flagBits_four]
  omega

/-- A body's fields are its layout written out. -/
theorem JournalBody.fields_eq (b : JournalBody) : b.code = b.layout.1 ∧ b.fields = laidOut b.layout.2 := by
  refine ⟨by cases b <;> rfl, ?_⟩
  cases b with
  | inspection =>
    simp only [JournalBody.fields, JournalBody.layout, laidOut_append, laidOut_cons (_, _) (_ :: _), laidOut_one,
      laidOut_two, laidOut_three, ← keyBytes_eq, ← journalQuoteBytes_eq, flagBits_five, TravelClass.code_sub_one,
      Nat.mul_comm, List.append_assoc, orZero]
  | caseEnd =>
    simp only [JournalBody.fields, JournalBody.layout, laidOut_append, laidOut_cons (_, _) (_ :: _), keyBytes_some,
      laidOut_one, laidOut_two, ← journalQuoteBytes_eq, flagBits_one, List.append_assoc]
  | ride =>
    simp only [JournalBody.fields, JournalBody.layout, laidOut_cons (_, _) (_ :: _), keyBytes_some, laidOut_one,
      laidOut_two, List.append_assoc]
  | journeyStart =>
    simp only [JournalBody.fields, JournalBody.layout, laidOut_cons (_, _) (_ :: _), laidOut_one, laidOut_two,
      laidOut_four, List.append_assoc]
  | routeChange =>
    simp only [JournalBody.fields, JournalBody.layout, laidOut_cons (_, _) (_ :: _), laidOut_two, List.append_assoc]
  | journeyEnd =>
    simp only [JournalBody.fields, JournalBody.layout, laidOut_cons (_, _) (_ :: _), laidOut_one, laidOut_two,
      List.append_assoc]
  | partReset =>
    simp only [JournalBody.fields, JournalBody.layout, laidOut_cons (_, _) (_ :: _), laidOut_one, laidOut_two]

/-- No kind's fields are longer than the 23 bytes that a record has for them. -/
theorem JournalBody.fields_length (b : JournalBody) : b.fields.length ≤ 23 := by
  cases b with
  | inspection _ _ key _ _ quote => cases key <;> cases quote <;> simp [JournalBody.fields, keyBytes, journalQuoteBytes, u24]
  | caseEnd _ _ _ _ quote => cases quote <;> simp [JournalBody.fields, keyBytes, journalQuoteBytes, u24]
  | _ => simp [JournalBody.fields, keyBytes]

theorem JournalRecord.bytes_eq (r : JournalRecord) :
    r.bytes = laidOut ([(4, r.sequence), (1, r.body.layout.1), (4, r.time)] ++ r.body.layout.2) ++
      List.replicate (23 - r.body.fields.length) 0 := by
  obtain ⟨hcode, hfields⟩ := r.body.fields_eq
  simp only [JournalRecord.bytes, ← hcode, laidOut_append, ← hfields, laidOut_cons (_, _) (_ :: _), laidOut_one,
    laidOut_four, List.append_assoc]

theorem JournalRecord.bytes_length (r : JournalRecord) : r.bytes.length = 32 := by
  have h := r.body.fields_length
  simp only [JournalRecord.bytes, List.length_append, u32_length, u8_length, List.length_replicate]
  omega

/-! ### The findings word -/

/-- Findings whose codes follow one another, each adding its bit where it is among those found. -/
theorem findingBits_eq (p : Finding → Bool) (fs : List Finding) (k acc : Nat)
    (h : fs.map Finding.code = List.range' (k + 1) fs.length) :
    (fs.filter p).foldl (fun acc f => acc + 2 ^ (f.code - 1)) acc = acc + 2 ^ k * flagBits (fs.map p) := by
  induction fs generalizing k acc with
  | nil => simp [flagBits]
  | cons f fs ih =>
    simp only [List.map_cons, List.length_cons, List.range'_succ, List.cons.injEq] at h
    obtain ⟨hf, hrest⟩ := h
    rw [List.map_cons, flagBits_cons]
    have hfalse : bit false = 0 := rfl
    have htrue : bit true = 1 := rfl
    cases hp : p f
    · rw [List.filter_cons_of_neg (by simp [hp]), ih (k + 1) acc hrest, hfalse, Nat.zero_add, Nat.pow_succ,
        Nat.mul_assoc]
    · rw [List.filter_cons_of_pos hp, List.foldl_cons, ih (k + 1) _ hrest, hf, htrue, Nat.add_sub_cancel,
        Nat.pow_succ, Nat.mul_assoc, Nat.mul_add, Nat.mul_one, Nat.add_assoc]

theorem findingsWord_eq (found : List Finding) :
    findingsWord found = flagBits (Finding.all.map (fun f => decide (f ∈ found))) := by
  rw [findingsWord, findingBits_eq (fun f => decide (f ∈ found)) Finding.all 0 0 (by decide)]
  simp

theorem flagBits_lt (flags : List Bool) : flagBits flags < 2 ^ flags.length := by
  induction flags with
  | nil => decide
  | cons b flags ih =>
    rw [flagBits_cons, List.length_cons, Nat.pow_succ]
    cases b <;> simp [bit] <;> omega

theorem findingsWord_lt (found : List Finding) : findingsWord found < 524288 := by
  have hlt := flagBits_lt (Finding.all.map (fun f => decide (f ∈ found)))
  rwa [← findingsWord_eq, List.length_map, show Finding.all.length = 19 from rfl] at hlt

theorem findingsWord_testBit (found : List Finding) (f : Finding) :
    (findingsWord found).testBit (f.code - 1) = decide (f ∈ found) := by
  rw [findingsWord_eq, flagBits_testBit]
  cases f <;> rfl

/-! ### JOURNAL-READ and JOURNAL-RELEASE -/

section
variable {j : Jnl} {front back : List JournalRecord}

/-- Along the ring the sequences rise (R175). -/
theorem Jnl.sequence_lt (h : j.ok) (hj : j.records = front ++ back) : ∀ a ∈ front, ∀ b ∈ back, a.sequence < b.sequence := by
  obtain ⟨-, hrising, -⟩ := h
  rw [hj, List.pairwise_append] at hrising
  exact hrising.2.2

/-- The newest sequence is the one of the last record, and no record's is above it. -/
theorem Jnl.newest_spec (h : j.ok) (hne : j.records ≠ []) :
    (∃ r ∈ j.records, r.sequence = j.newest) ∧ ∀ r ∈ j.records, r.sequence ≤ j.newest := by
  obtain ⟨before, last, hj⟩ : ∃ before last, j.records = before ++ [last] := by
    obtain hnil | ⟨before, last, hj⟩ := List.eq_nil_or_concat j.records
    · exact absurd hnil hne
    · exact ⟨before, last, by simpa using hj⟩
  have hnewest := Jnl.newest_append hj
  refine ⟨⟨last, by simp [hj], hnewest.symm⟩, fun r hr => ?_⟩
  rw [hj, List.mem_append, List.mem_singleton] at hr
  rcases hr with hr | rfl
  · have hlt := Jnl.sequence_lt h hj r hr last (by simp)
    omega
  · omega

theorem readRecords_eq {start : Nat} {skipped found later : List JournalRecord} (hs : ∀ r ∈ skipped, r.sequence < start)
    (hf : ∀ r ∈ found ++ later, start ≤ r.sequence) (hl : found.length = 7 ∨ (found.length < 7 ∧ later = [])) :
    readRecords start (skipped ++ (found ++ later)) = found := by
  have hdrop : (skipped ++ (found ++ later)).dropWhile (fun r => decide (r.sequence < start)) = found ++ later := by
    rw [List.dropWhile_append_of_pos (fun r hr => by simpa using hs r hr)]
    cases hfl : found ++ later with
    | nil => rfl
    | cons r more =>
      have hr := hf r (by simp [hfl])
      exact List.dropWhile_cons_of_neg (by simpa using hr)
  rw [readRecords, hdrop]
  rcases hl with hl | ⟨hl, rfl⟩
  · exact List.take_left' hl
  · simp only [List.append_nil]
    exact List.take_of_length_le (by omega)

variable {start : Nat} {found later : List JournalRecord} (hj : j.records = front ++ (found ++ later))
  (hread : readRecords start j.records = found) (hok : j.ok)
include hj hread hok

theorem reachesNewest_of_end (hlater : later = []) (h : found ≠ [] ∨ j.records = []) : reachesNewest start j = true := by
  by_cases hnil : j.records = []
  · simp [reachesNewest, hnil]
  · have hne := h.resolve_right hnil
    obtain ⟨⟨r, hr, hnewest⟩, hmost⟩ := Jnl.newest_spec hok hnil
    obtain ⟨last, hlast⟩ := List.exists_mem_of_ne_nil found hne
    have hfound : r ∈ found := by
      rw [hj, hlater, List.append_nil, List.mem_append] at hr
      refine hr.resolve_left fun hfront => ?_
      have hlt := Jnl.sequence_lt hok hj r hfront last (by simp [hlast])
      have hle := hmost last (by simp [hj, hlast])
      omega
    simp only [reachesNewest, hread, Bool.or_eq_true, List.any_eq_true, beq_iff_eq]
    exact .inr ⟨r, hfound, hnewest⟩

theorem reachesNewest_short (h : later ≠ [] ∨ (found = [] ∧ j.records ≠ [])) : reachesNewest start j = false := by
  have hnil : j.records ≠ [] := by
    rcases h with h | h
    · simp [hj, h]
    · exact h.2
  have hnone : ∀ r ∈ found, r.sequence ≠ j.newest := by
    intro r hr
    rcases h with h | ⟨h, -⟩
    · obtain ⟨last, hlast⟩ := List.exists_mem_of_ne_nil later h
      have hlt := Jnl.sequence_lt hok (front := front ++ found) (back := later) (by simp [hj]) r (by simp [hr]) last hlast
      have hle := (Jnl.newest_spec hok hnil).2 last (by simp [hj, hlast])
      omega
    · simp [h] at hr
  rw [← Bool.not_eq_true]
  simpa [reachesNewest, hread, hnil] using hnone

end

theorem exec_journalRead {tag : Byte} {rest : List RequestFrame} {start : Nat} {found : List JournalRecord} {s : State}
    (hstart : start < 4294967296) (hr : Ready 0x38 tag (u32 start) rest s)
    (hread : readRecords start s.jnl.records = found) :
    exec .journalRead s = .next
      ((if reachesNewest start s.jnl then withJnl s.jnl.stopBatch s else s).answered 0x78 tag
        (0 :: (u8 found.length ++ u32 s.jnl.lastSequence ++ u32 s.jnl.oldest ++ found.flatMap JournalRecord.bytes)) rest) := by
  have hfield : fieldAt (u32 start) 0 4 = start := by rw [fieldAt_u32 hstart]
  have ha : answerJournalRead (u32 start) (reserveSlot rest s) =
      okReply (u8 found.length ++ u32 s.jnl.lastSequence ++ u32 s.jnl.oldest ++ found.flatMap JournalRecord.bytes)
        (reserveSlot rest (if reachesNewest start s.jnl then withJnl s.jnl.stopBatch s else s)) := by
    have hjnl : (reserveSlot rest s).jnl = s.jnl := rfl
    cases h : reachesNewest start s.jnl <;> simp only [answerJournalRead, hfield, hjnl, hread, h] <;> rfl
  have he := exec_taken (c := .journalRead) (t := if reachesNewest start s.jnl then withJnl s.jnl.stopBatch s else s)
    rfl hr rfl (by split <;> rfl) ha
  exact he

theorem Jnl.release_eq {upTo : Nat} {freed kept : List JournalRecord} {j : Jnl} (hok : j.ok)
    (hj : j.records = freed ++ kept) (hf : ∀ r ∈ freed, r.sequence ≤ upTo) (hk : ∀ r ∈ kept, upTo < r.sequence) :
    j.release upTo = if freed = [] then j else
      { j with records := kept, fullArmed := true,
               lowArmed := j.lowArmed || decide (j.lowThreshold < 2048 - kept.length) } := by
  have hfilter : j.records.filter (fun r => decide (min upTo j.newest < r.sequence)) = kept := by
    rw [hj, List.filter_append, List.filter_eq_nil_iff.2, List.filter_eq_self.2, List.nil_append]
    · intro r hr
      have hlt := hk r hr
      simp only [decide_eq_true_eq]
      omega
    · intro r hr
      have hle := hf r hr
      have hmem : r ∈ j.records := by simp [hj, hr]
      have hnewest := (Jnl.newest_spec hok (List.ne_nil_of_mem hmem)).2 r hmem
      simp only [decide_eq_true_eq]
      omega
  simp only [Jnl.release, hfilter]
  cases freed with
  | nil => simp [hj]
  | cons r more =>
    have hlt : kept.length < j.records.length := by
      rw [hj, List.length_append, List.length_cons]
      omega
    rw [if_pos hlt, if_neg (List.cons_ne_nil r more)]

theorem exec_journalRelease {tag : Byte} {rest : List RequestFrame} {upTo : Nat} {s : State} (hupTo : upTo < 4294967296)
    (hr : Ready 0x39 tag (u32 upTo) rest s) :
    exec .journalRelease s = .next ((withJnl (s.jnl.release upTo) s).answered 0x79 tag
      (0 :: (u16 (s.jnl.records.length - (s.jnl.release upTo).records.length) ++ u32 (s.jnl.release upTo).oldest ++
        u16 (s.jnl.release upTo).free)) rest) := by
  have hfield : fieldAt (u32 upTo) 0 4 = upTo := by rw [fieldAt_u32 hupTo]
  have ha : answerJournalRelease (u32 upTo) (reserveSlot rest s) = okReply _ _ := rfl
  rw [hfield] at ha
  have he := exec_taken (c := .journalRelease) (t := withJnl (s.jnl.release upTo) s) rfl hr rfl rfl ha
  exact he

/-- Settles O53. -/
theorem journalReadReleaseReport : Obligations.JournalReadReleaseReport := by
  refine ⟨fun r => ⟨r.bytes_length, _, r.bytes_eq⟩, fun found => ⟨findingsWord_lt found, findingsWord_testBit found⟩,
    ?read, ?release, ?expiry⟩
  case read =>
    intro tag rest start skipped found later s hstart hr hj hs hf hl hok oldest reply
    have hread : readRecords start s.jnl.records = found := hj ▸ readRecords_eq hs hf hl
    have hexec := exec_journalRead hstart hr hread
    refine ⟨fun hlater h => ?_, fun h => ?_⟩
    · rw [hexec, reachesNewest_of_end hj hread hok hlater h]
      rfl
    · rw [hexec, reachesNewest_short hj hread hok h]
      rfl
  case release =>
    intro tag rest upTo freed kept s hupTo hr hok hj hf hk oldest free reply
    have hrelease := Jnl.release_eq hok hj hf hk
    have hexec := exec_journalRelease hupTo hr
    refine ⟨fun hnone => ?_, fun hsome => ?_⟩
    · obtain rfl : s.jnl.records = kept := by rw [hj, hnone, List.nil_append]
      rw [hexec, hrelease, if_pos hnone, Nat.sub_self]
      simp only [reply, hnone, List.length_nil]
      rfl
    · have hcount : s.jnl.records.length - kept.length = freed.length := by simp [hj]
      rw [hexec, hrelease, if_neg hsome, hcount]
      rfl
  case expiry =>
    intro c timer s hr hc
    have hexec : exec c s = .next (if batchDue timer s.timebase then reportBatch s else s) := by
      simp only [List.mem_cons, Prod.mk.injEq, List.not_mem_nil, or_false] at hc
      rcases hc with ⟨rfl, rfl⟩ | ⟨rfl, rfl⟩ <;> exact congrArg _ (whenRunning_of_running hr)
    rw [hexec]
    refine ⟨fun due ht hdue => ?_, fun h => ?_⟩
    · rw [if_pos (by simp [batchDue, ht, hdue])]
      rfl
    · rw [if_neg]
      rcases h with h | ⟨due, h, hearly⟩
      · simp [batchDue, h]
      · simp [batchDue, h, hearly]

end Sys2Proof.Machine
end

section
/-! The resets (R151, R169 to R171): the hard-reset values of every unit, and RESET. -/

namespace Sys2Proof.Machine

/-! ### The hard-reset values -/

theorem bitAt_zeros (n i : Nat) : bitAt (List.replicate n 0) i = false := by
  unfold bitAt
  rw [List.getD_eq_getElem?_getD, List.getElem?_replicate]
  split <;> simp

theorem bitAt_nil (i : Nat) : bitAt [] i = false := by
  simp [bitAt]

theorem policyOf_reset (f : Finding) : Ven.reset.policyOf f =
    if f ∈ [Finding.keyRetiring, .delayGrace, .repeatElsewhere, .rideTorn, .registerFull] then .noted else .blocking := by
  cases f <;> rfl

theorem accepts_unconfigured (p : Nat) : AreaEntry.unconfigured.accepts p = false := by
  unfold AreaEntry.accepts AreaEntry.unconfigured
  simp only [Vector.getElem?_replicate]
  split
  · exact bitAt_zeros _ _
  · exact bitAt_nil _

/-- Whatever the lines have carried and the link has queued, a part at its reset state has the hard-reset values. -/
theorem hardValues_reset (outbound : List Slot) (resetN : Bool) (hostSent cardSent : List (List Byte))
    (pending : List Instr) :
    HardValues { State.reset with lif := { Lif.reset with outbound := outbound }, resetN := resetN, hostSent := hostSent,
                                  cardSent := cardSent, pending := pending } where
  keys := rfl
  journey := ⟨rfl, rfl, rfl, rfl, rfl⟩
  carriage := ⟨rfl, rfl⟩
  clock := ⟨rfl, rfl, rfl, rfl, rfl⟩
  screen := ⟨rfl, rfl, fun b hb => imageBit_zeroSegments rfl hb, rfl, rfl⟩
  engine := ⟨rfl, rfl, rfl⟩
  areas i h := by
    have hentry : State.reset.ven.areas[i] = AreaEntry.unconfigured := Vector.getElem_replicate h
    refine ⟨AreaEntry.unconfigured.accept, fun p _ => ?_, hentry⟩
    exact (congrArg (AreaEntry.accepts · p) hentry).trans (accepts_unconfigured p)
  policies := policyOf_reset
  register := ⟨rfl, rfl⟩
  cases := ⟨rfl, rfl, rfl, rfl, rfl⟩
  card := ⟨rfl, rfl, rfl, rfl, rfl, rfl, rfl, rfl, rfl⟩
  counts := rfl
  journal := ⟨rfl, rfl, rfl, rfl, rfl, rfl, rfl⟩
  timers := ⟨rfl, rfl, rfl, rfl⟩
  intake := ⟨rfl, rfl, rfl, rfl, rfl⟩
  link := ⟨rfl, rfl, rfl, rfl, rfl, rfl⟩
  chosen := ⟨rfl, rfl, rfl, rfl⟩

/-! ### The frames on the lines -/

theorem whenRunning_low {f : State → State} {s : State} (h : s.resetN = false) : whenRunning f s = s := by
  simp [whenRunning, h]

/-- While RESET_N is low every command but a power-on and its rise leaves the part (R170; log 12). -/
theorem exec_low {c : Instr} {s : State} (h : s.resetN = false) (hp : c ≠ .powerOn) (hh : c ≠ .resetNHigh) :
    exec c s = .next s := by
  cases c with
  | powerOn => exact absurd rfl hp
  | resetNHigh => exact absurd rfl hh
  | _ => exact congrArg _ (whenRunning_low h)

theorem completedHost_sending {f : OutFrame} {more : List Slot} {l : Lif} (ho : l.outbound = .frame f :: more)
    (h : l.power = .active ∨ 0 < l.standbyToSend) : completedHost l = [f.bytes] := by
  rw [completedHost, beingSent_head ho h]

theorem completedHost_idle {l : Lif} (h : l.outbound = [] ∨ (l.power = .standby ∧ l.standbyToSend = 0)) :
    completedHost l = [] := by
  rw [completedHost, beingSent_none h]

theorem resetRelease_bytes (c : Ciu) : (resetRelease c).map CardFrame.bytes =
    if c.state = .absent then [] else [[0x13#8, 0x01#8, 0x04#8, 0xE8#8]] := by
  unfold resetRelease
  split <;> rfl

/-- Settles O3. -/
theorem hardResetsStartAfresh : Obligations.HardResetsStartAfresh := by
  refine ⟨fun s => ?_, fun s hs => ?_, fun s hs => ?_, fun s hs => ?_, fun c s hs hp hh => exec_low hs hp hh⟩
  · exact ⟨_, rfl, hardValues_reset _ true _ _ _, rfl, rfl, rfl, rfl, rfl⟩
  · have hexec : exec .resetNHigh s = .next (startNotice .line (hardReset s)) := congrArg _ (if_neg (by simp [hs]))
    exact ⟨_, hexec, hardValues_reset _ true _ _ _, rfl, rfl, rfl, rfl, rfl⟩
  · have hexec : exec .resetNLow s = .next (resetNLow s) := congrArg _ (whenRunning_of_running hs)
    refine ⟨_, hexec, hardValues_reset [] false _ _ _, rfl, rfl, rfl, fun f more ho hsend => ?_, fun h => ?_, ?_⟩
    · exact congrArg (s.hostSent ++ ·) (completedHost_sending ho hsend)
    · exact (congrArg (s.hostSent ++ ·) (completedHost_idle h)).trans (List.append_nil _)
    · have hcard : (resetNLow s).cardSent =
          s.cardSent ++ (completedCard s.ciu ++ resetRelease s.ciu).map CardFrame.bytes := rfl
      rw [hcard, List.map_append, resetRelease_bytes, List.append_assoc]
      rfl
  · exact congrArg _ (if_pos hs)

/-! ### RESET -/

/-- In ACTIVE the frame being sent is the head of the queue (R159). -/
theorem beingSent_reserved {l : Lif} (hp : l.power = .active) (hn : noneReserved l.outbound) (back : List Slot) :
    beingSent { l with outbound := l.outbound ++ .reserved :: back } = l.outbound.take 1 := by
  cases ho : l.outbound with
  | nil => simp [beingSent]
  | cons slot more =>
    cases slot with
    | reserved => simp [noneReserved, ho] at hn
    | frame f => simp [beingSent, hp]

/-- The link of RESET with its reply in place: behind the frame being sent the reply, and behind that START (R169). -/
theorem fill_softReset {l : Lif} (hp : l.power = .active) (hn : noneReserved l.outbound) (r : OutFrame)
    (rest : List RequestFrame) (cause : StartCause) (journey newest : Nat) (clockSet : Bool) :
    fill r (enterNotice (.start cause journey clockSet newest)
        (Lif.softReset { l with requests := rest, outbound := l.outbound ++ [.reserved] })) =
      { receiver := l.receiver, requests := rest,
        outbound := l.outbound.take 1 ++ [.frame r, .frame (.notice (.start cause journey clockSet newest))],
        pendingNotices := [], waiting := [], faultCount := 0, power := .active, standbyToSend := 0 } := by
  have hsent : beingSent { l with requests := rest, outbound := l.outbound ++ [.reserved] } = l.outbound.take 1 :=
    beingSent_reserved hp hn []
  have hfront : noneReserved (l.outbound.take 1) := fun h => hn (List.mem_of_mem_take h)
  simp only [fill, enterNotice, Lif.softReset, hsent, List.append_assoc, List.singleton_append, placeReply_reserved hfront]

/-- Settles O4: the reply goes into the slot behind the frame being sent, and the notices of the append follow it. -/
theorem softResetKeepsTables : Obligations.SoftResetKeepsTables := by
  intro tag rest s hr appended
  obtain ⟨-, -, hactive, -, -, hnone⟩ := id hr
  have hstart : .reserved ∈ (enterNotice (.start .soft s.jcu.number s.jcu.clock.isSet appended.1.lastSequence)
      (reserveSlot rest s).lif.softReset).outbound := by
    simp [Lif.softReset]
  have ha : answerReset [] (reserveSlot rest s) = okReply [] _ := rfl
  have htake := takeRequest_okReply (kind := 0x03) (k := 0x03) hr rfl rfl ha
  have hfill := (fill_produceAll (ns := appended.2) (r := .reply 0x43 tag [0]) hstart).trans
    (congrArg _ (fill_softReset hactive hnone _ rest .soft _ _ _))
  have hexec : exec .reset s = .next (takeRequest 0x03 answerReset s) := rfl
  rw [hexec, htake]
  exact congrArg (fun l => Host.Outcome.next (withLif l _)) hfill

end Sys2Proof.Machine
end

section
/-! CONSUME, row by row (R79 to R81, R108, R110 to R112, R145). -/

namespace Sys2Proof.Machine

section
variable {c : Credential} {ev : Evaluation} {s : State}

theorem recordOf_held (hh : ev.hasRecord = true) (key : CredKey) (s : State) :
    recordOf ev key s = findRecord key s.irg.records := by
  simp [recordOf, hh]

theorem recordOf_unheld (hh : ev.hasRecord = false) (key : CredKey) (s : State) : recordOf ev key s = none := by
  simp [recordOf, hh]

theorem consumeStage_noCount (h : c.rides = none) : consumeStage c ev s = toIssue (ev.setRide .none none) s := by
  simp [consumeStage, h]

variable {content : Nat} (hc : c.rides = some content)
include hc

theorem consumeStage_unheld (h : ev.hasRecord = false) :
    consumeStage c ev s = toIssue (ev.setRide .notWritten (some (currentRides c ev.origin))) s := by
  simp [consumeStage, hc, recordOf_unheld h]

variable {r : Record} (hh : ev.hasRecord = true) (hr : findRecord c.key s.irg.records = some r)
include hh hr

theorem consumeStage_taken (h : (∃ e, r.ride = .pending e) ∨ r.ride = .consumed) :
    consumeStage c ev s = toIssue (ev.setRide .alreadyTaken (some (currentRides c ev.origin))) s := by
  rcases h with ⟨e, h⟩ | h <;> simp [consumeStage, hc, recordOf_held hh, hr, h]

theorem consumeStage_torn {expected : Nat} (h : r.ride = .torn expected) :
    consumeStage c ev s = recoverTorn c expected ev s := by
  simp [consumeStage, hc, recordOf_held hh, hr, h]

variable (hride : r.ride = .none)
include hride

theorem consumeStage_none (h : ev.verdict = some .action ∨ currentRides c ev.origin = 0) :
    consumeStage c ev s = toIssue (ev.setRide .none (some (currentRides c ev.origin))) s := by
  simp [consumeStage, hc, recordOf_held hh, hr, hride, h]

variable (hv : ev.verdict ≠ some .action) (hpos : 0 < currentRides c ev.origin)
include hv hpos

theorem consumeStage_link (ho : ev.origin = .link) :
    consumeStage c ev s = toIssue (ev.setRide .takenToken (some (currentRides c ev.origin - 1)))
      (modifyRecord c.key Record.consume s) := by
  simp [consumeStage, hc, recordOf_held hh, hr, hride, hv, Nat.ne_of_gt (ho ▸ hpos), ho]

variable {k : Counter} {session : Nat} (ho : ev.origin = .card k session)
include ho

theorem consumeStage_present (h : sessionPresent .queued session s.ciu = true) :
    consumeStage c ev s = parkAndWrite c k ev s := by
  simp [consumeStage, hc, recordOf_held hh, hr, hride, hv, Nat.ne_of_gt (ho ▸ hpos), ho, h]

theorem consumeStage_gone (h : sessionPresent .queued session s.ciu = false) :
    consumeStage c ev s = toIssue (ev.setRide .notWritten (some (currentRides c ev.origin))) s := by
  simp [consumeStage, hc, recordOf_held hh, hr, hride, hv, Nat.ne_of_gt (ho ▸ hpos), ho, h]

end

/-! ### A torn record (R111, R112) -/

section
variable {c : Credential} {expected : Nat} {ev : Evaluation} {s : State}

theorem recoverTorn_link (ho : ev.origin = .link) :
    recoverTorn c expected ev s = toIssue (ev.setRide .torn (some (currentRides c ev.origin))) s := by
  simp [recoverTorn, ho]

variable {k : Counter} {session : Nat} (ho : ev.origin = .card k session)
include ho

theorem recoverTorn_gone (h : sessionPresent .queued session s.ciu = false) :
    recoverTorn c expected ev s = toIssue (ev.setRide .torn (some k.rides)) s := by
  simp [recoverTorn, ho, h]

variable (h : sessionPresent .queued session s.ciu = true)
include h

theorem recoverTorn_rewrites (hs : k.sequence = sequenceBefore expected) (hpos : 1 ≤ k.rides) :
    recoverTorn c expected ev s = parkAndWrite c k ev s := by
  simp [recoverTorn, ho, h, hs, hpos]

theorem recoverTorn_exhausted (hs : k.sequence = sequenceBefore expected) (hzero : k.rides = 0) :
    recoverTorn c expected ev s = toIssue (ev.setRide .torn (some 0)) s := by
  simp [recoverTorn, ho, h, hs, hzero]

theorem recoverTorn_written (hs : k.sequence ≠ sequenceBefore expected) :
    recoverTorn c expected ev s =
      toIssue (ev.setRide .alreadyTaken (some k.rides)) (modifyRecord c.key Record.consume s) := by
  simp [recoverTorn, ho, h, hs]

end

/-- The sequence before an expected one is the one that it follows. -/
theorem eq_sequenceBefore_iff {n expected : Nat} (hn : n < 65536) (he : expected < 65536) :
    n = sequenceBefore expected ↔ (n + 1) % 65536 = expected := by
  unfold sequenceBefore
  omega

/-- Settles O40: CONSUME by the state of the record, and a torn record by what the card's counter shows. -/
theorem consumeTakesTheRide : Obligations.ConsumeTakesTheRide := by
  intro c ev s report withRide write queuedOn
  have hpresent (session : Nat) : sessionPresent .queued session s.ciu = true ↔ queuedOn session := sessionPresent_iff
  have hgone (session : Nat) : sessionPresent .queued session s.ciu = false ↔ ¬ queuedOn session := by
    rw [← hpresent, Bool.not_eq_true]
  refine ⟨consumeStage_noCount, fun content hc => ?_⟩
  intro current
  have hcurrent : currentRides c ev.origin = current := by
    simp only [currentRides, current, hc]
    cases ev.origin <;> rfl
  have hcard (k : Counter) (session : Nat) (ho : ev.origin = .card k session) : current = k.rides := by
    simp only [current, ho]
  refine ⟨fun hh => hcurrent ▸ consumeStage_unheld hc hh, fun r hh hr => ⟨fun h => hcurrent ▸ consumeStage_taken hc hh hr h,
    fun hride => ⟨fun h => ?_, fun hv hpos => ?_⟩, fun expected hride => ?_⟩⟩
  · exact hcurrent ▸ consumeStage_none hc hh hr hride (hcurrent ▸ h)
  · rw [← hcurrent] at hpos
    refine ⟨fun ho => hcurrent ▸ consumeStage_link hc hh hr hride hv hpos ho, fun k session ho => ⟨fun h => ?_, fun h => ?_⟩⟩
    · exact consumeStage_present hc hh hr hride hv hpos ho ((hpresent session).2 h)
    · exact hcurrent ▸ consumeStage_gone hc hh hr hride hv hpos ho ((hgone session).2 h)
  · rw [consumeStage_torn hc hh hr hride]
    refine ⟨fun ho => hcurrent ▸ recoverTorn_link ho, fun k session ho => ⟨fun h => ?_, fun h hs hk he => ?_,
      fun h hs hk he => ?_⟩⟩
    · rw [recoverTorn_gone ho ((hgone session).2 h), ← hcard k session ho]
      rfl
    · have hs' := (eq_sequenceBefore_iff hk he).2 hs
      rw [hcard k session ho]
      refine ⟨fun hpos => recoverTorn_rewrites ho ((hpresent session).2 h) hs' hpos,
        fun hzero => recoverTorn_exhausted ho ((hpresent session).2 h) hs' hzero⟩
    · rw [recoverTorn_written ho ((hpresent session).2 h) (mt (eq_sequenceBefore_iff hk he).1 hs), ← hcard k session ho]
      rfl

end Sys2Proof.Machine
end

section
/-! The quote over a validated route (R87 to R96): its distances, its product and its amount. -/

namespace Sys2Proof.Machine

/-! ### Distances -/

theorem upgradeDue_iff {cls carriageClass : TravelClass} {held : Bool} :
    upgradeDue cls carriageClass held = true ↔ cls = .second ∧ carriageClass = .first ∧ held = false := by
  simp [upgradeDue, and_assoc]

/-- The sections that pass a test and those that do not make up them all. -/
theorem sumDistances_add (r : Route) (test : Nat → Bool) (sections : List Nat) :
    sumDistances r (fun i => !test i) sections + sumDistances r test sections =
      (sections.map (sectionDistance r)).sum := by
  induction sections with
  | nil => rfl
  | cons i sections ih =>
    simp only [sumDistances] at ih ⊢
    cases ht : test i
    · rw [List.filter_cons_of_pos (by simp [ht]), List.filter_cons_of_neg (by simp [ht]), List.map_cons, List.sum_cons,
        List.map_cons, List.sum_cons, Nat.add_assoc, ih]
    · rw [List.filter_cons_of_neg (by simp [ht]), List.filter_cons_of_pos ht, List.map_cons, List.sum_cons, List.map_cons,
        List.sum_cons, ← ih]
      omega

section
variable {r : Route} (hr : r.ok)
include hr

/-- Along a validated route the posts do not fall (R21). -/
theorem Route.post_le {i k : Nat} (hik : i ≤ k) (hk : k < r.stops.length) : (r.stop i).post ≤ (r.stop k).post := by
  obtain ⟨-, -, -, -, -, -, hrising⟩ := hr
  rcases Nat.lt_or_eq_of_le hik with hlt | rfl
  · have hle := (List.pairwise_iff_getElem.1 hrising i k (by omega) hk hlt).2.1
    rwa [Route.stop_eq_of_getElem? (List.getElem?_eq_getElem (by omega)),
      Route.stop_eq_of_getElem? (List.getElem?_eq_getElem hk)]
  · exact Nat.le_refl _

theorem Route.post_lt_65536 {i : Nat} (hi : i < r.stops.length) : (r.stop i).post < 65536 := by
  obtain ⟨-, -, -, -, -, hstops, -⟩ := hr
  obtain ⟨-, -, hpost, -⟩ := hstops _ (List.getElem_mem hi)
  rwa [Route.stop_eq_of_getElem? (List.getElem?_eq_getElem hi)]

theorem sum_sectionDistance {a n : Nat} (h : a + n < r.stops.length) :
    (((List.range n).map (fun i => a + i)).map (sectionDistance r)).sum = (r.stop (a + n)).post - (r.stop a).post := by
  induction n with
  | zero => simp
  | succ n ih =>
    have hfront := Route.post_le hr (Nat.le_add_right a n) (by omega)
    have hlast := Route.post_le hr (Nat.le_succ (a + n)) h
    rw [List.range_succ, List.map_append, List.map_append, List.sum_append, ih (by omega)]
    simp only [List.map_cons, List.map_nil, List.sum_singleton, sectionDistance, Nat.succ_eq_add_one, ← Nat.add_assoc] at hlast ⊢
    omega

theorem sum_spanSections {a x : Nat} (hax : a < x) (hx : x < r.stops.length) :
    ((spanSections a x).map (sectionDistance r)).sum = (r.stop x).post - (r.stop a).post := by
  have hsum := sum_sectionDistance hr (a := a) (n := x - a) (by omega)
  rwa [Nat.add_sub_cancel' (Nat.le_of_lt hax)] at hsum

end

/-! ### The product (R93) -/

theorem kmUpward_mul_le (d : Nat) : 10 * kmUpward d ≤ d + 9 := by
  unfold kmUpward
  split <;> omega

theorem chargedUp_mul_le (d : Nat) : 10 * chargedUp d ≤ d + 9 := by
  rw [chargedUp_eq_kmUpward]
  exact kmUpward_mul_le d

/-- A charged distance is the smallest charge or the distance in whole kilometres. -/
theorem chargedShort_le (kmin d : Nat) : chargedShort kmin d ≤ kmin ∨ 10 * chargedShort kmin d ≤ d + 9 := by
  rcases Nat.eq_zero_or_pos d with rfl | hd
  · exact .inl (by simp)
  · have hup := chargedUp_mul_le d
    rw [chargedShort_of_pos hd]
    omega

theorem travellerWeight_le {adults children childPercent : Nat} (hn : adults + children ≤ 9) (hc : childPercent ≤ 100) :
    travellerWeight adults children childPercent ≤ 900 := by
  have hchildren : children * childPercent ≤ children * 100 := Nat.mul_le_mul_left _ hc
  unfold travellerWeight
  omega

theorem classMultiplier_bounds {m1 : Nat} (h1 : 100 ≤ m1) (h2 : m1 ≤ 250) (c : TravelClass) :
    100 ≤ classMultiplier m1 c ∧ classMultiplier m1 c ≤ 250 := by
  cases c
  · exact ⟨h1, h2⟩
  · simp [classMultiplier]

/-- The weighted kilometres of distances that no route exceeds. -/
theorem weightedKm_le {kmin short up multiplier factor : Nat} (hkmin : kmin < 256) (hd : short + up < 65536)
    (hm : multiplier ≤ 250) (hf : factor ≤ 150) :
    chargedShort kmin short * multiplier + chargedUp up * factor ≤ 1638735 := by
  have hshort := chargedShort_le kmin short
  have hup := chargedUp_mul_le up
  have h1 : chargedShort kmin short * multiplier ≤ chargedShort kmin short * 250 := Nat.mul_le_mul_left _ hm
  have h2 : chargedUp up * factor ≤ chargedUp up * 150 := Nat.mul_le_mul_left _ hf
  omega

theorem quoteProduct_lt {q : QuoteInput} (he : q.entry.ok) (h1 : 100 ≤ q.m1) (h2 : q.m1 ≤ 250)
    (hn : q.adults + q.children ≤ 9) (hd : shortDistance q + coveredDistance q < 65536) :
    quoteProduct q < 100000000000000 := by
  obtain ⟨hrate, hkmin, -, -, -, hchild, -⟩ := he
  have hup : upgradeDistance q ≤ coveredDistance q := by
    unfold upgradeDistance
    split <;> omega
  obtain ⟨hcarriage, hcarriage'⟩ := classMultiplier_bounds h1 h2 q.carriageClass
  obtain ⟨hcls, -⟩ := classMultiplier_bounds h1 h2 q.cls
  have hfactor : upgradeFactor q.m1 q.carriageClass q.cls ≤ 150 := by
    unfold upgradeFactor
    omega
  have hkm := weightedKm_le hkmin (short := shortDistance q) (up := upgradeDistance q) (by omega) hcarriage' hfactor
  have hweight := travellerWeight_le hn hchild
  calc quoteProduct q ≤ 65535 * 900 * 1638735 := Nat.mul_le_mul (Nat.mul_le_mul (by omega) hweight) hkm
    _ < 100000000000000 := by decide

/-- Nothing charged is nothing owed. -/
theorem computeQuote_amount_zero {q : QuoteInput} (hs : (computeQuote q).kmShort = 0) (hu : (computeQuote q).kmUp = 0) :
    (computeQuote q).amount = 0 := by
  have hproduct : quoteProduct q = 0 := by
    have hs' : chargedShort q.entry.kmin (shortDistance q) = 0 := hs
    have hu' : chargedUp (upgradeDistance q) = 0 := hu
    simp [quoteProduct, hs', hu']
  simp [computeQuote, hproduct]

/-- Settles O33. -/
theorem quoteStaysWithinCap : Obligations.QuoteStaysWithinCap := by
  intro q hroute hax hx hentry h1 h2 _ hn away length span total
  have haway : upgradeDue q.cls q.carriageClass q.upgradeHeld = true ↔ away := upgradeDue_iff
  have hup : upgradeDistance q = if away then coveredDistance q else 0 := by
    simp only [upgradeDistance, haway]
  have hlength : shortDistance q + coveredDistance q = (q.route.stop q.x).post - (q.route.stop q.a).post :=
    (sumDistances_add _ _ _).trans (sum_spanSections hroute hax hx)
  have hshort : (fun i => !covered q.kind q.paid q.route i) = fun i => decide (covered q.kind q.paid q.route i = false) := by
    funext i
    cases covered q.kind q.paid q.route i <;> rfl
  have hcovered : (fun i => covered q.kind q.paid q.route i) = fun i => decide (covered q.kind q.paid q.route i = true) := by
    funext i
    cases covered q.kind q.paid q.route i <;> rfl
  have hpost := Route.post_lt_65536 hroute hx
  refine ⟨?_, ?_, rfl, ?_, rfl, ?_, hlength, quoteProduct_lt hentry h1 h2 hn (by omega), Nat.min_le_right _ _,
    computeQuote_amount_zero, rfl, rfl, decide_eq_true_iff, ?_⟩
  · rw [← hshort]
    rfl
  · rw [← hcovered]
    rfl
  · exact congrArg chargedUp hup
  · exact Nat.min_def
  · have hupgrade : (computeQuote q).upgrade = true ↔ 0 < upgradeDistance q := decide_eq_true_iff
    rw [hupgrade, hup]
    split
    · next h => simp [h]
    · next h => simp [h]

end Sys2Proof.Machine
end

section
/-! POLICY (R77), and a check that fails (R15, R17). -/

namespace Sys2Proof.Machine

/-! ### POLICY -/

theorem Evaluation.has_iff {ev : Evaluation} {f : Finding} : ev.has f = true ↔ ∃ r ∈ ev.findings, r.finding = f := by
  simp [Evaluation.has]

section
variable {v : Ven} {ev : Evaluation}

/-- A finding that POLICY keeps is one that was raised and is not IGNORED, with its policy of this moment (R77). -/
theorem mem_policyStage {r : Raised} : r ∈ (policyStage v ev).findings ↔
    ev.has r.finding = true ∧ r.policy = some (v.policyOf r.finding) ∧ v.policyOf r.finding ≠ .ignored := by
  simp only [policyStage, List.mem_filter, List.mem_map, Evaluation.has_iff, bne_iff_ne]
  constructor
  · rintro ⟨⟨q, hq, rfl⟩, hkept⟩
    exact ⟨⟨q, hq, rfl⟩, rfl, fun h => hkept (congrArg some h)⟩
  · rintro ⟨⟨q, hq, hf⟩, hp, hkept⟩
    refine ⟨⟨q, hq, ?_⟩, fun h => hkept (Option.some.inj (hp.symm.trans h))⟩
    rw [hf, ← hp]

theorem policyStage_has {f : Finding} :
    (policyStage v ev).has f = true ↔ ev.has f = true ∧ v.policyOf f ≠ .ignored := by
  rw [Evaluation.has_iff]
  constructor
  · rintro ⟨r, hr, rfl⟩
    obtain ⟨hhas, -, hkept⟩ := mem_policyStage.1 hr
    exact ⟨hhas, hkept⟩
  · rintro ⟨hhas, hkept⟩
    exact ⟨⟨f, some (v.policyOf f)⟩, mem_policyStage.2 ⟨hhas, rfl, hkept⟩, rfl⟩

theorem policyStage_policies : ∀ r ∈ (policyStage v ev).findings, r.policy = some (v.policyOf r.finding) := by
  intro r hr
  exact (mem_policyStage.1 hr).2.1

theorem policyStage_action : (policyStage v ev).verdict = some .action ↔
    ∃ f, ev.has f = true ∧ v.policyOf f = .blocking := by
  have hverdict : (policyStage v ev).verdict = some (deriveVerdict (policyStage v ev).findings) := rfl
  rw [hverdict, Option.some.injEq, deriveVerdict_eq_action]
  constructor
  · rintro ⟨r, hr, hblocking⟩
    obtain ⟨hhas, hpolicy, -⟩ := mem_policyStage.1 hr
    exact ⟨r.finding, hhas, Option.some.inj (hpolicy.symm.trans hblocking)⟩
  · rintro ⟨f, hhas, hblocking⟩
    exact ⟨⟨f, some (v.policyOf f)⟩, mem_policyStage.2 ⟨hhas, rfl, by simp [hblocking]⟩, by simp [hblocking]⟩

theorem deriveVerdict_eq_pass {fs : List Raised} : deriveVerdict fs = .pass ↔ fs = [] := by
  rw [deriveVerdict_eq]
  cases fs with
  | nil => simp
  | cons r fs =>
    simp only [List.cons_ne_nil, iff_false, if_false]
    split <;> simp

theorem policyStage_pass : (policyStage v ev).verdict = some .pass ↔
    ∀ f, ev.has f = true → v.policyOf f = .ignored := by
  have hverdict : (policyStage v ev).verdict = some (deriveVerdict (policyStage v ev).findings) := rfl
  rw [hverdict, Option.some.injEq, deriveVerdict_eq_pass, List.eq_nil_iff_forall_not_mem]
  constructor
  · intro hnone f hhas
    refine Classical.byContradiction fun hkept => ?_
    exact hnone ⟨f, some (v.policyOf f)⟩ (mem_policyStage.2 ⟨hhas, rfl, hkept⟩)
  · intro hall r hr
    obtain ⟨hhas, -, hkept⟩ := mem_policyStage.1 hr
    exact hkept (hall r.finding hhas)

end

/-! ### An untrusted credential (R17) -/

/-- The evaluation of an untrusted credential when it goes on to ISSUE: SCREEN and POLICY have run, and nothing else. -/
def untrusted (c : Credential) (s : State) (ev : Evaluation) : Evaluation :=
  policyStage s.ven (screenStage c s { ev with trust := .untrusted })

section
variable (c : Credential) (s : State) (ev : Evaluation)

theorem untrusted_trust : (untrusted c s ev).trust = .untrusted := by
  obtain ⟨fs, hfs⟩ := screenStage_onlyFindings c s { ev with trust := .untrusted }
  simp only [untrusted, hfs]
  rfl

theorem untrusted_raise_eq (f : Finding) : untrusted c s (ev.raise f) =
    { ev with findings := (untrusted c s (ev.raise f)).findings, trust := (untrusted c s (ev.raise f)).trust,
              verdict := (untrusted c s (ev.raise f)).verdict } := by
  obtain ⟨gs, hgs⟩ := Evaluation.raise_onlyFindings f ev
  obtain ⟨fs, hfs⟩ := screenStage_onlyFindings c s { ev with findings := gs, trust := .untrusted }
  simp only [hgs, untrusted, hfs]
  rfl

theorem untrusted_has (f : Finding) : (untrusted c s ev).has f = true ↔
    (ev.has f = true ∨ screenFinding c.key s.rsu = some f) ∧ s.ven.policyOf f ≠ .ignored := by
  rw [untrusted, policyStage_has, screenStage_eq_raise?, Evaluation.has_raise?]
  rfl

variable {c s ev}

theorem untrusted_verdictOk (hc : ev.credential.isSome = true) : (untrusted c s ev).verdictOk := by
  refine (policyStage_decided s.ven ?_).verdictOk
  rw [screenStage_credential]
  exact hc

theorem untrusted_action {f : Finding} (hf : ev.has f = true) (hp : s.ven.policyOf f = .blocking) :
    (untrusted c s ev).verdict = some .action := by
  refine policyStage_action.2 ⟨f, ?_, hp⟩
  rw [screenStage_eq_raise?, Evaluation.has_raise?]
  exact .inl hf

end

/-- The findings that make a credential untrusted block (R75). -/
theorem policyOf_untrusting {v : Ven} (h : v.tablesOk) {f : Finding}
    (hf : f = .checkMismatch ∨ f = .issuerUnknown ∨ f = .keyWithdrawn) : v.policyOf f = .blocking := by
  obtain ⟨-, -, -, hfixed⟩ := h
  rcases hf with rfl | rfl | rfl <;> exact (hfixed _ rfl).trans (if_neg (by simp))

/-- Settles O37. -/
theorem checkMismatchIsUntrusted : Obligations.CheckMismatchIsUntrusted := by
  refine ⟨fun s h => ?_, fun ev check c s hr he hc hretiring hmismatch => ?_⟩
  · refine congrArg _ (whenRunning_idle ?_)
    unfold checkComplete
    split
    · next ev check he => exact absurd he (h ev check)
    · rfl
  · obtain ⟨fs, hfs⟩ := Evaluation.raise_onlyFindings .checkMismatch ev
    have hraised : (ev.raise .checkMismatch).has .checkMismatch = true := Evaluation.has_raise_self _ _
    have hcomplete : checkComplete s = toIssue (untrusted c s (ev.raise .checkMismatch)) s := by
      have hmatches : check.matches = false := by simpa [CheckInFlight.matches] using hmismatch
      simp only [checkComplete, he, finishCheck, hc, hmatches]
      exact afterCheck_untrusted (.inr (.inr hraised))
    refine ⟨untrusted c s (ev.raise .checkMismatch), ?_, ?_, ?_, ?_, policyStage_policies, fun htables => ?_, fun f => ?_⟩
    · exact congrArg _ ((whenRunning_of_running hr).trans hcomplete)
    · exact untrusted_trust c s _
    · exact untrusted_raise_eq c s ev _
    · exact untrusted_verdictOk (by rw [hfs]; exact (by simp [hc]))
    · exact untrusted_action hraised (policyOf_untrusting htables (.inl rfl))
    · rw [untrusted_has, Evaluation.has_raise]
      grind

end Sys2Proof.Machine
end

section
/-! ENGINE_TAKE (R9, R14, R17, R30, R41, R58, R59). -/

namespace Sys2Proof.Machine

/-! ### The conditions of the take (R58) -/

theorem canTakeEntry_iff {s : State} :
    canTakeEntry s = true ↔ s.ven.engine = .idle ∧ s.lif.power = .active ∧ 2 ≤ freeSlots s.lif := by
  simp [canTakeEntry, and_assoc]

theorem headTakable_iff {e : Entry} {v : Ven} : headTakable e v = true ↔ e.origin = .link ∨ v.parked = none := by
  cases ho : e.origin <;> simp [headTakable, ho, Origin.isCard]

section
variable {s : State}

theorem engineTake_idle (h : s.iq.entries = [] ∨ s.jcu.journey = none ∨ s.ven.engine ≠ .idle ∨ s.lif.power = .standby ∨
    freeSlots s.lif < 2 ∨ (s.ven.parked ≠ none ∧ ∀ e more, s.iq.entries = e :: more → e.origin ≠ .link)) :
    engineTake s = s := by
  unfold engineTake
  split
  · next e rest j he hj =>
    rw [if_neg]
    simp only [Bool.and_eq_true, canTakeEntry_iff, headTakable_iff]
    rintro ⟨⟨hidle, hactive, hslots⟩, htakable⟩
    rcases h with h | h | h | h | h | ⟨hparked, hcard⟩
    · simp [he] at h
    · simp [hj] at h
    · exact h hidle
    · simp [hactive] at h
    · omega
    · exact htakable.elim (hcard e rest he) hparked
  · rfl

variable {e : Entry} {more : List Entry} {j : Running}

/-- The part once the head entry has left its queue, with the end of HOLD at the low mark (R165). -/
def headTaken (more : List Entry) (s : State) : State := resumeAfterTake (withIq { s.iq with entries := more } s)

theorem engineTake_takes (he : s.iq.entries = e :: more) (hj : s.jcu.journey = some j) (hidle : s.ven.engine = .idle)
    (hactive : s.lif.power = .active) (hslots : 2 ≤ freeSlots s.lif) (h : e.origin = .link ∨ s.ven.parked = none) :
    engineTake s = startEvaluation (newEvaluation e (snapshot j s)) (headTaken more s) := by
  have hcond : (canTakeEntry s && headTakable e s.ven) = true := by
    rw [Bool.and_eq_true]
    exact ⟨canTakeEntry_iff.2 ⟨hidle, hactive, hslots⟩, headTakable_iff.2 h⟩
  simp only [engineTake, he, hj, hcond, if_true]
  rfl

theorem headTaken_eq (more : List Entry) (s : State) :
    headTaken more s =
      if s.iq.hold = true ∧ more.length ≤ s.iq.low then
        { s with iq := { s.iq with entries := more, hold := false },
                 lif := produceSingleton (.intakeResume more.length s.iq.low) s.lif }
      else { s with iq := { s.iq with entries := more } } := by
  unfold headTaken
  split
  · next h => exact resumeAfterTake_leaves h.1 h.2
  · next h =>
    refine resumeAfterTake_stays ?_
    rw [Classical.not_and_iff_not_or_not, Bool.not_eq_true, Nat.not_le] at h
    exact h

theorem headTaken_ven (more : List Entry) (s : State) : (headTaken more s).ven = s.ven :=
  resumeAfterTake_ven _

theorem headTaken_rsu (more : List Entry) (s : State) : (headTaken more s).rsu = s.rsu :=
  resumeAfterTake_rsu _

theorem headTaken_dcu (more : List Entry) (s : State) : (headTaken more s).dcu = s.dcu :=
  resumeAfterTake_dcu _

end

/-- The section under inspection (R30): the one the vehicle runs in, or the one ahead of its stop, the last one at most. -/
theorem inspectionSection_eq (j : Running) : inspectionSection j = (match j.position with
    | .running k => k
    | .atStop k => if k ≤ j.route.stops.length - 2 ∧ 2 ≤ j.route.stops.length then k else j.route.stops.length - 2) := by
  cases hp : j.position with
  | running k => simp only [inspectionSection, hp]
  | atStop k =>
    simp only [inspectionSection, hp]
    split <;> split <;> omega

/-! ### DECODE and the key (R9, R14) -/

section
variable {c : Credential} {ev : Evaluation} {s : State} (hd : decodeContent ev.origin ev.content = some c)

theorem startEvaluation_unreadable (hd : decodeContent ev.origin ev.content = none) :
    startEvaluation ev s = toIssue { ev with verdict := some .unreadable } s := by
  simp only [startEvaluation, hd]

/-- The check that a key starts (R14). -/
def checkBy (k : KeyEntry) (c : Credential) : CheckInFlight :=
  { material := k.material, keyState := k.state, input := c.checkInput, value := c.checkValue }

include hd

theorem startEvaluation_unknown (hk : findKey c.key.issuer c.version s.dcu.keys = none) :
    startEvaluation ev s =
      toIssue (untrusted c s (Evaluation.raise .issuerUnknown { ev with credential := some c })) s := by
  simp only [startEvaluation, hd, startCheck, hk]
  exact afterCheck_untrusted (.inl (Evaluation.has_raise_self _ _))

variable {k : KeyEntry} (hk : findKey c.key.issuer c.version s.dcu.keys = some k)
include hk

theorem startEvaluation_withdrawn (hs : k.state = .withdrawn) :
    startEvaluation ev s =
      toIssue (untrusted c s (Evaluation.raise .keyWithdrawn { ev with credential := some c })) s := by
  simp only [startEvaluation, hd, startCheck, hk, hs]
  exact afterCheck_untrusted (.inr (.inl (Evaluation.has_raise_self _ _)))

theorem startEvaluation_active (hs : k.state = .active) :
    startEvaluation ev s =
      withVen { s.ven with engine := .checking { ev with credential := some c } (checkBy k c) } s := by
  simp only [startEvaluation, hd, startCheck, hk, hs]
  rw [checkBy, hs]

theorem startEvaluation_retiring (hs : k.state = .retiring) :
    startEvaluation ev s =
      withVen { s.ven with
        engine := .checking (Evaluation.raise .keyRetiring { ev with credential := some c }) (checkBy k c) } s := by
  simp only [startEvaluation, hd, startCheck, hk, hs]
  rw [checkBy, hs]

end

theorem Evaluation.raise_credential (f : Finding) (ev : Evaluation) : (ev.raise f).credential = ev.credential := by
  obtain ⟨fs, hfs⟩ := Evaluation.raise_onlyFindings f ev
  rw [hfs]

theorem findKey_named {issuer version : Nat} {front back : List KeyEntry} {k : KeyEntry} (hi : k.issuer = issuer)
    (hv : k.version = version) (hf : ∀ d ∈ front, ¬ (d.issuer = issuer ∧ d.version = version)) :
    findKey issuer version (front ++ k :: back) = some k :=
  find?_named (hasPair_iff.2 ⟨hi, hv⟩) (fun d hd => Bool.eq_false_iff.2 fun h => hf d hd (hasPair_iff.1 h)) back

/-- Settles O36. -/
theorem engineTakesTheHeadEntry : Obligations.EngineTakesTheHeadEntry := by
  refine ⟨fun s h => congrArg _ (whenRunning_idle (engineTake_idle h)), ?_⟩
  intro e more j s hr he hj hidle hactive hslots h lastStart a ev taken inEngine
  have hev : newEvaluation e (snapshot j s) = ev := by
    have ha : inspectionSection j = a := inspectionSection_eq j
    simp only [newEvaluation, snapshot, ha]
    rfl
  have htaken : headTaken more s = taken := headTaken_eq more s
  have hexec : exec .engineTake s = .next (startEvaluation ev taken) := by
    refine congrArg _ ((whenRunning_of_running hr).trans ?_)
    rw [engineTake_takes he hj hidle hactive hslots h, hev, htaken]
  have hven : taken.ven = s.ven := htaken ▸ headTaken_ven more s
  have hdcu : taken.dcu = s.dcu := htaken ▸ headTaken_dcu more s
  have hrsu : taken.rsu = s.rsu := htaken ▸ headTaken_rsu more s
  have hengine (engine : Engine) : withVen { taken.ven with engine := engine } taken = inEngine engine := by
    rw [hven]
    rfl
  rw [hexec]
  refine ⟨fun hd => ?unreadable, fun c hd => ⟨fun front back k hkeys hi hv hf => ?checked, fun found hfound => ?untrusted⟩⟩
  case unreadable => rw [startEvaluation_unreadable hd, toIssue, hengine]
  case checked =>
    intro check
    have hk : findKey c.key.issuer c.version taken.dcu.keys = some k := by rw [hdcu, hkeys, findKey_named hi hv hf]
    refine ⟨fun hs => ?_, fun hs => ?_⟩
    · rw [startEvaluation_active hd hk hs, hengine]
      rfl
    · rw [startEvaluation_retiring hd hk hs, hengine]
      rfl
  case untrusted =>
    have hstart : startEvaluation ev taken =
        toIssue (untrusted c taken (Evaluation.raise found { ev with credential := some c })) taken := by
      rcases hfound with ⟨rfl, hnone⟩ | ⟨rfl, front, back, k, hkeys, hi, hv, hs, hf⟩
      · exact startEvaluation_unknown hd (by rw [hdcu, findKey_eq_none hnone])
      · exact startEvaluation_withdrawn hd (by rw [hdcu, hkeys, findKey_named hi hv hf]) hs
    have huntrusting : found = .checkMismatch ∨ found = .issuerUnknown ∨ found = .keyWithdrawn := by
      rcases hfound with ⟨rfl, -⟩ | ⟨rfl, -⟩ <;> simp
    have hfresh (f : Finding) : ({ ev with credential := some c } : Evaluation).has f = true ↔ False := by
      simp [Evaluation.has, ev]
    rw [hstart, ← hven, ← hrsu]
    refine ⟨untrusted c taken (Evaluation.raise found { ev with credential := some c }), congrArg _ (hengine _),
      untrusted_trust _ _ _, untrusted_raise_eq _ _ _ _, ?_, policyStage_policies, fun htables => ?_, fun f => ?_⟩
    · exact untrusted_verdictOk (by rw [Evaluation.raise_credential]; rfl)
    · exact untrusted_action (Evaluation.has_raise_self _ _) (policyOf_untrusting htables huntrusting)
    · rw [untrusted_has, Evaluation.has_raise, hfresh, false_or, eq_comm]

end Sys2Proof.Machine
end

section
/-! The stages of a trusted credential (R60): what the register shows of it, and the findings that JUDGE raises (R65 to
R74, R102 to R105). -/

namespace Sys2Proof.Machine

/-! ### The record that JUDGE reads (R102 to R104) -/

section
variable (key : CredKey) (seconds carriage : Nat) (rs : List Record)

/-- The three outcomes of a sighting: the record that was known, a new one, or none with the register FULL. -/
theorem registerLookup_finds :
    (∃ r, findRecord key rs = some r ∧ (registerLookup key seconds carriage rs).2 = .seen ∧
      findRecord key (registerLookup key seconds carriage rs).1 = some r) ∨
    (findRecord key rs = none ∧ ¬ (1024 ≤ rs.length ∧ ∀ r ∈ rs, r.ride ≠ .none ∨ r.caseLink ≠ none) ∧
      (registerLookup key seconds carriage rs).2 = .new ∧
      findRecord key (registerLookup key seconds carriage rs).1 = some (newRecord key seconds carriage)) ∨
    (findRecord key rs = none ∧ (1024 ≤ rs.length ∧ ∀ r ∈ rs, r.ride ≠ .none ∨ r.caseLink ≠ none) ∧
      (registerLookup key seconds carriage rs).2 = .full ∧
      findRecord key (registerLookup key seconds carriage rs).1 = none) := by
  have hnew (front : List Record) (hn : findRecord key front = none) :
      findRecord key (front ++ [newRecord key seconds carriage]) = some (newRecord key seconds carriage) := by
    rw [findRecord, List.find?_append, ← findRecord, hn]
    simp [newRecord]
  rcases registerLookup_cases key seconds carriage rs with ⟨⟨r, hr⟩, he⟩ | ⟨hn, hroom, he⟩ | ⟨hn, hfull, ⟨r, hr, hv⟩, he⟩ |
    ⟨hn, hfull, hall, he⟩
  · exact .inl ⟨r, hr, by rw [he], by rw [he]; exact hr⟩
  · exact .inr (.inl ⟨hn, fun h => by omega, by rw [he], by rw [he]; exact hnew _ hn⟩)
  · refine .inr (.inl ⟨hn, fun h => evictable_eq_true.1 hv (h.2 r hr), by rw [he], ?_⟩)
    rw [he]
    exact hnew _ (findRecord_eraseP_eq_none hn)
  · exact .inr (.inr ⟨hn, ⟨hfull, fun r hr => evictable_eq_false.1 (hall r hr)⟩, by rw [he], by rw [he]; exact hn⟩)

theorem registerLookup_full : (registerLookup key seconds carriage rs).2 = .full ↔
    findRecord key rs = none ∧ 1024 ≤ rs.length ∧ ∀ r ∈ rs, r.ride ≠ .none ∨ r.caseLink ≠ none := by
  rcases registerLookup_finds key seconds carriage rs with ⟨r, hr, hs, -⟩ | ⟨hn, hroom, hs, -⟩ | ⟨hn, hfull, hs, -⟩ <;> rw [hs]
  · simp [hr]
  · simpa [hn] using hroom
  · simpa [hn] using hfull

/-- A new record has no paid span. -/
theorem registerLookup_paid : (findRecord key (registerLookup key seconds carriage rs).1).bind (·.paid) =
    (findRecord key rs).bind (·.paid) := by
  rcases registerLookup_finds key seconds carriage rs with ⟨r, hr, -, hf⟩ | ⟨hn, -, -, hf⟩ | ⟨hn, -, -, hf⟩ <;> rw [hf]
  · rw [hr]
  · rw [hn]
    rfl
  · rw [hn]

/-- Nor has it a class upgrade. -/
theorem registerLookup_upgrade : ((findRecord key (registerLookup key seconds carriage rs).1).map (·.upgrade)).getD false =
    (findRecord key rs).any (·.upgrade) := by
  rcases registerLookup_finds key seconds carriage rs with ⟨r, hr, -, hf⟩ | ⟨hn, -, -, hf⟩ | ⟨hn, -, -, hf⟩ <;> rw [hf]
  · rw [hr]
    rfl
  · rw [hn]
    rfl
  · rw [hn]
    rfl

theorem registerLookup_ride : rideStateOf (findRecord key (registerLookup key seconds carriage rs).1) = .none ↔
    ∀ r, findRecord key rs = some r → r.ride = .none := by
  rcases registerLookup_finds key seconds carriage rs with ⟨r, hr, -, hf⟩ | ⟨hn, -, -, hf⟩ | ⟨hn, -, -, hf⟩ <;> rw [hf]
  · simp [hr, rideStateOf]
  · simp [hn, rideStateOf, newRecord]
  · simp [hn, rideStateOf]

/-- What is read of a record that the register knew before holds only of one that is SEEN. -/
theorem registerLookup_seen (p : Record → Bool) :
    ((registerLookup key seconds carriage rs).2 == .seen &&
        ((findRecord key (registerLookup key seconds carriage rs).1).map p).getD false) = true ↔
      ∃ r, findRecord key rs = some r ∧ p r = true := by
  rcases registerLookup_finds key seconds carriage rs with ⟨r, hr, hs, hf⟩ | ⟨hn, -, hs, hf⟩ | ⟨hn, -, hs, hf⟩ <;>
    rw [hs, hf]
  · simp [hr]
  · simp [hn]
  · simp [hn]

end

/-! ### The findings of the judgements (R53, R68, R69) -/

theorem screenFinding_cases {key : CredKey} {r : Rsu} {f : Finding} (h : screenFinding key r = some f) :
    f = .revoked ∨ f = .screenHit := by
  unfold screenFinding at h
  split at h
  · split at h
    · exact .inl (Option.some.inj h).symm
    · simp at h
  · split at h
    · exact .inr (Option.some.inj h).symm
    · simp at h

theorem coverageFinding_eq_some {k : KindPart} {paid : Option (Nat × Nat)} {r : Route} {a : Nat} {f : Finding} :
    coverageFinding k paid r a = some f ↔
      (f = .offRoute ∧ coveredByPaid paid r a = false ∧ offRoute k r = true) ∨
      (f = .shortCoverage ∧ covered k paid r a = false ∧ offRoute k r = false) := by
  unfold coverageFinding covered
  cases hp : coveredByPaid paid r a
  · cases ho : offRoute k r
    · cases hk : coveredByKind k r a
      · simp only [Bool.false_eq_true, if_false, Option.some.injEq, and_false, false_or, Bool.or_self, and_true]
        exact eq_comm
      · simp
    · simp only [Bool.false_eq_true, if_false, if_true, Option.some.injEq, Bool.true_eq_false, and_false, or_false, and_true]
      exact eq_comm
  · simp

theorem timeFinding_eq_some {validFrom validUntil minute tau : Nat} {f : Finding} :
    timeFinding validFrom validUntil minute tau = some f ↔
      (f = .notYetValid ∧ minute < validFrom) ∨
      (f = .delayGrace ∧ validFrom ≤ minute ∧ validUntil < minute ∧ minute ≤ validUntil + tau) ∨
      (f = .expired ∧ validFrom ≤ minute ∧ validUntil + tau < minute) := by
  rcases Nat.lt_or_ge minute validFrom with hearly | hvalid
  · rw [timeFinding_notYetValid hearly]
    simp only [Option.some.injEq, hearly, Nat.not_le.2 hearly, and_true, false_and, and_false, or_false]
    exact eq_comm
  rcases Nat.lt_or_ge validUntil minute with hlate | huntil
  case inr =>
    have hnot : ¬ validUntil + tau < minute := by omega
    simp only [timeFinding_none hvalid huntil, reduceCtorEq, Nat.not_lt.2 hvalid, Nat.not_lt.2 huntil, hnot, false_and,
      and_false, or_false]
  rcases Nat.lt_or_ge (validUntil + tau) minute with hout | hgrace
  · rw [timeFinding_expired hvalid hout]
    simp only [Option.some.injEq, Nat.not_lt.2 hvalid, Nat.not_le.2 hout, hvalid, hout, and_true, and_false, false_or]
    exact eq_comm
  · rw [timeFinding_delayGrace hvalid hlate hgrace]
    simp only [Option.some.injEq, Nat.not_lt.2 hvalid, Nat.not_lt.2 hgrace, hvalid, hlate, hgrace, and_true, and_false,
      false_or, or_false]
    exact eq_comm

end Sys2Proof.Machine
end

section
/-! CHECK_COMPLETE with a match: the stages of a trusted credential put together (R60, R65 to R78, R102 to R105). -/

namespace Sys2Proof.Machine

/-! ### What JUDGE asks of the credential and the record -/

theorem currentRides_exhausted (c : Credential) (o : Origin) : (c.rides.isSome = true ∧ currentRides c o = 0) ↔
    (match o with
      | .link => c.rides
      | .card counter _ => c.rides.map (fun _ => counter.rides)) = some 0 := by
  cases o <;> cases hr : c.rides <;> simp [currentRides, hr]

theorem serviceMismatch_iff {service : Option Nat} {running : Nat} :
    serviceMismatch service running = true ↔ ∃ n, service = some n ∧ n ≠ running := by
  cases service <;> simp [serviceMismatch]

theorem repeatElsewhere_iff {window seconds carriage : Nat} {r : Record} :
    repeatElsewhere window seconds carriage r = true ↔ 0 < window ∧ r.lastCarriage ≠ carriage ∧
      (seconds : Int) - (r.lastSeen : Int) ≤ (window : Int) := by
  simp [repeatElsewhere, and_assoc]

/-! ### The evaluation after JUDGE -/

/-- The evaluation after REGISTER and JUDGE. -/
def judged (c : Credential) (ev : Evaluation) (s : State) : Evaluation :=
  (judgeStage c (registerStage c ev s).1 (registerStage c ev s).2).1

/-- The block after REGISTER and JUDGE: the sighting is recorded (R102 to R104). -/
def sighted (c : Credential) (ev : Evaluation) (s : State) : State :=
  { s with irg := { s.irg with records := sightedRecords c.key ev.snapshot.seconds ev.carriage s.irg.records } }

/-- The evaluation when CONSUME takes it up: weighed by POLICY, and quoted. -/
def quoted (c : Credential) (ev : Evaluation) (s : State) : Evaluation :=
  quoteStage c (sighted c ev s) (policyStage s.ven (judged c ev s))

theorem trustedStages_eq (c : Credential) (ev : Evaluation) (s : State) :
    trustedStages c ev s = consumeStage c (quoted c ev s) (sighted c ev s) := by
  have hstate : (judgeStage c (registerStage c ev s).1 (registerStage c ev s).2).2 = sighted c ev s := judged_state c ev s
  simp only [trustedStages, hstate]
  rfl

section
variable (c : Credential) (ev : Evaluation) (s : State)

/-- The record that the evaluation has in JUDGE is the one that the lookup found or made. -/
theorem recordOf_registered : recordOf (registerStage c ev s).1 c.key (registerStage c ev s).2 =
    findRecord c.key (registerLookup c.key ev.snapshot.seconds ev.carriage s.irg.records).1 := by
  obtain ⟨fs, hfs⟩ := registerStage_evaluation c ev s
  rw [hfs]
  by_cases hfull : (registerLookup c.key ev.snapshot.seconds ev.carriage s.irg.records).2 = .full
  · rw [recordOf_unheld (by simp [hfull]), registerLookup_full_iff.1 hfull]
  · rw [recordOf_held (by simp [hfull])]
    rfl

/-- REGISTER and JUDGE fix the register status, the record and its count, and the area; the rest are findings. -/
theorem judged_onlyFindings :
    ({ ev with
        regStatus := (registerLookup c.key ev.snapshot.seconds ev.carriage s.irg.records).2
        hasRecord := (registerLookup c.key ev.snapshot.seconds ev.carriage s.irg.records).2 != .full
        areaReading := some (s.ven.areaOf (ev.snapshot.route.stop ev.snapshot.a).area)
        inspCount := ((findRecord c.key (registerLookup c.key ev.snapshot.seconds ev.carriage s.irg.records).1).map
          fun r => satSucc 255 r.count).getD ev.inspCount } : Evaluation).OnlyFindings (judged c ev s) := by
  obtain ⟨fs, hfs⟩ := registerStage_evaluation c ev s
  obtain ⟨gs, hgs⟩ := judgeStage_evaluation c (registerStage c ev s).1 (registerStage c ev s).2
  rw [recordOf_registered] at hgs
  refine ⟨gs, hgs.trans ?_⟩
  rw [hfs]
  rfl

theorem judgeStage_has (f : Finding) (t : State) : (judgeStage c ev t).1.has f =
    (judgements c (recordOf ev c.key t) (t.ven.areaOf (ev.snapshot.route.stop ev.snapshot.a).area) t.irg.passback
      ev).has f := by
  unfold judgeStage
  simp only
  split <;> rfl

/-- The findings before POLICY: those there were, REGISTER-FULL, and what JUDGE reads off the record, the area and the
credential. -/
theorem judged_has (f : Finding) : (judged c ev s).has f = true ↔
    let sn := ev.snapshot
    let entry := s.ven.areaOf (sn.route.stop sn.a).area
    let looked := registerLookup c.key sn.seconds ev.carriage s.irg.records
    let rec' := findRecord c.key looked.1
    ev.has f = true ∨ (f = .registerFull ∧ looked.2 = .full) ∨ (f = .areaUnconfigured ∧ entry.configured = false) ∨
      coverageFinding c.kind (rec'.bind (·.paid)) sn.route sn.a = some f ∨
      timeFinding c.validFrom c.validUntil (sn.seconds / 60) (tolerance sn.delay entry) = some f ∨
      (f = .productRefused ∧ entry.configured = true ∧ entry.accepts c.product = false) ∨
      (f = .classMismatch ∧ upgradeDue c.cls ev.cls ((rec'.map (·.upgrade)).getD false) = true) ∨
      (f = .serviceMismatch ∧ serviceMismatch c.service sn.route.service = true) ∨
      (f = .ridesExhausted ∧ c.rides.isSome = true ∧ rideStateOf rec' = .none ∧ currentRides c ev.origin = 0) ∨
      (f = .repeatElsewhere ∧ (looked.2 == .seen &&
        (rec'.map (repeatElsewhere s.irg.passback sn.seconds ev.carriage)).getD false) = true) := by
  rw [judged, judgeStage_has, recordOf_registered]
  have hregistered (g : Finding) : (registerStage c ev s).1.has g = true ↔ ev.has g = true ∨
      ((registerLookup c.key ev.snapshot.seconds ev.carriage s.irg.records).2 = .full ∧ .registerFull = g) := by
    simp only [registerStage, Evaluation.has_raiseIf, beq_iff_eq]
    rfl
  obtain ⟨fs, hfs⟩ := registerStage_evaluation c ev s
  simp only [judgements, Evaluation.has_raiseIf, Evaluation.has_raise?, hregistered]
  simp only [hfs, or_assoc, Bool.not_eq_true', Bool.and_eq_true, beq_iff_eq, eq_comm (b := f), and_comm (b := f = _),
    and_assoc]
  rfl

/-- The evaluation of a trusted credential when SCREEN has run. -/
def screened : Evaluation := screenStage c s { ev with trust := .trusted }

theorem screened_onlyFindings : ({ ev with trust := .trusted } : Evaluation).OnlyFindings (screened c ev s) :=
  screenStage_onlyFindings c s _

variable {c ev s} (hretiring : ∀ f, ev.has f = true → f = .keyRetiring)
include hretiring

theorem screened_has (f : Finding) : (screened c ev s).has f = true ↔
    (f = .keyRetiring ∧ ev.has .keyRetiring = true) ∨ (f = .revoked ∧ screenFinding c.key s.rsu = some .revoked) ∨
      (f = .screenHit ∧ screenFinding c.key s.rsu = some .screenHit) := by
  rw [screened, screenStage_eq_raise?, Evaluation.has_raise?]
  constructor
  · rintro (h | h)
    · obtain rfl := hretiring f h
      exact .inl ⟨rfl, h⟩
    · rcases screenFinding_cases h with rfl | rfl
      · exact .inr (.inl ⟨rfl, h⟩)
      · exact .inr (.inr ⟨rfl, h⟩)
  · rintro (⟨rfl, h⟩ | ⟨rfl, h⟩ | ⟨rfl, h⟩)
    · exact .inl h
    · exact .inr h
    · exact .inr h

/-- Before POLICY the findings are those that the rules raise. -/
theorem judged_screened_has (f : Finding) : (judged c (screened c ev s) s).has f = true ↔ f.raisedBy c ev s := by
  obtain ⟨fs, hfs⟩ := screened_onlyFindings c ev s
  rw [judged_has, screened_has hretiring]
  simp only [hfs, registerLookup_paid, registerLookup_upgrade, registerLookup_ride, registerLookup_full,
    registerLookup_seen, coverageFinding_eq_some, timeFinding_eq_some, upgradeDue_iff, serviceMismatch_iff,
    repeatElsewhere_iff]
  cases f <;> simp only [reduceCtorEq, false_and, true_and, false_or, or_false, Finding.raisedBy]
  case classMismatch => simp only [Option.any_eq_false]
  case ridesExhausted =>
    refine Iff.trans ?_ (and_congr_left' (currentRides_exhausted c ev.origin))
    grind

end

end Sys2Proof.Machine
end

section
/-! The evaluation that CONSUME takes up, and what CHECK_COMPLETE leaves of it and of the register (R60, R77 to R81, R102 to
R104). -/

namespace Sys2Proof.Machine

/-! ### The record after its update -/

theorem findRecord_updateRecord {key : CredKey} {f : Record → Record} (hf : ∀ r, (f r).key = r.key) (rs : List Record) :
    findRecord key (updateRecord key f rs) = (findRecord key rs).map f := by
  induction rs with
  | nil => rfl
  | cons r rs ih =>
    simp only [findRecord, updateRecord, List.map_cons, List.find?_cons] at ih ⊢
    by_cases hk : r.key = key
    · simp [hk, hf]
    · simp [beq_eq_false_iff_ne.2 hk, hk, ih]

theorem map_key_updateRecord {key : CredKey} {f : Record → Record} (hf : ∀ r, (f r).key = r.key) (rs : List Record) :
    (updateRecord key f rs).map (·.key) = rs.map (·.key) := by
  rw [updateRecord, List.map_map]
  refine List.map_congr_left fun r _ => ?_
  simp only [Function.comp]
  split
  · exact hf r
  · rfl

theorem findRecord_sightedRecords (key : CredKey) (seconds carriage : Nat) (rs : List Record) :
    findRecord key (sightedRecords key seconds carriage rs) =
      (findRecord key (registerLookup key seconds carriage rs).1).map (seenUpdate seconds carriage) :=
  findRecord_updateRecord (f := seenUpdate seconds carriage) (fun _ => rfl) _

/-! ### The evaluation at CONSUME -/

section
variable (c : Credential) (ev : Evaluation) (s : State)

/-- The evaluation as POLICY leaves it. -/
def weighed : Evaluation := policyStage s.ven (judged c (screened c ev s) s)

theorem weighed_eq : weighed c ev s =
    { ev with
      trust := .trusted
      findings := (weighed c ev s).findings
      verdict := (weighed c ev s).verdict
      regStatus := (registerLookup c.key ev.snapshot.seconds ev.carriage s.irg.records).2
      hasRecord := (registerLookup c.key ev.snapshot.seconds ev.carriage s.irg.records).2 != .full
      areaReading := some (s.ven.areaOf (ev.snapshot.route.stop ev.snapshot.a).area)
      inspCount := ((findRecord c.key (registerLookup c.key ev.snapshot.seconds ev.carriage s.irg.records).1).map
        fun r => satSucc 255 r.count).getD ev.inspCount } := by
  obtain ⟨fs, hfs⟩ := screened_onlyFindings c ev s
  obtain ⟨gs, hgs⟩ := judged_onlyFindings c (screened c ev s) s
  rw [weighed, hgs, hfs]
  rfl

theorem sighted_screened : sighted c (screened c ev s) s = sighted c ev s := by
  obtain ⟨fs, hfs⟩ := screened_onlyFindings c ev s
  rw [hfs]
  rfl

theorem recordOf_weighed : recordOf (weighed c ev s) c.key (sighted c ev s) =
    (findRecord c.key (registerLookup c.key ev.snapshot.seconds ev.carriage s.irg.records).1).map
      (seenUpdate ev.snapshot.seconds ev.carriage) := by
  rw [weighed_eq]
  by_cases hfull : (registerLookup c.key ev.snapshot.seconds ev.carriage s.irg.records).2 = .full
  · rw [recordOf_unheld (by simp [hfull]), registerLookup_full_iff.1 hfull]
    rfl
  · rw [recordOf_held (by simp [hfull])]
    exact findRecord_sightedRecords _ _ _ _

/-- The input of the quote over the inspection section (R86). -/
def sectionQuote : QuoteInput :=
  { route := ev.snapshot.route, a := ev.snapshot.a, x := ev.snapshot.a + 1, kind := c.kind, cls := c.cls,
    adults := c.adults, children := c.children, carriageClass := ev.cls,
    paid := (findRecord c.key s.irg.records).bind (fun r => r.paid),
    upgradeHeld := (findRecord c.key s.irg.records).any (fun r => r.upgrade),
    entry := s.ven.areaOf (ev.snapshot.route.stop ev.snapshot.a).area, m1 := s.ven.m1 }

theorem evaluationQuote_weighed : evaluationQuote c (weighed c ev s) (recordOf (weighed c ev s) c.key (sighted c ev s))
    (s.ven.areaOf (ev.snapshot.route.stop ev.snapshot.a).area) s.ven.m1 = sectionQuote c ev s := by
  have hpaid (o : Option Record) :
      (o.map (seenUpdate ev.snapshot.seconds ev.carriage)).bind (·.paid) = o.bind (·.paid) := by
    cases o <;> rfl
  have hupgrade (o : Option Record) :
      ((o.map (seenUpdate ev.snapshot.seconds ev.carriage)).map (·.upgrade)) = o.map (·.upgrade) := by
    cases o <;> rfl
  rw [recordOf_weighed, evaluationQuote, hpaid, hupgrade, registerLookup_paid, registerLookup_upgrade, weighed_eq]
  rfl

/-- The quote is made when SHORT-COVERAGE or CLASS-MISMATCH is left and the area is configured (R78). -/
theorem quoted_screened_eq (hq : ev.quote = none) : quoted c (screened c ev s) s =
    { weighed c ev s with
      quote := if (s.ven.areaOf (ev.snapshot.route.stop ev.snapshot.a).area).configured = true ∧
          ((weighed c ev s).has .shortCoverage = true ∨ (weighed c ev s).has .classMismatch = true) then
        some (computeQuote (sectionQuote c ev s)) else none } := by
  have harea : (weighed c ev s).areaReading = some (s.ven.areaOf (ev.snapshot.route.stop ev.snapshot.a).area) := by
    rw [weighed_eq]
  have hnone : (weighed c ev s).quote = none := by
    rw [weighed_eq]
    exact hq
  have hunfold : quoted c (screened c ev s) s = quoteStage c (sighted c ev s) (weighed c ev s) := by
    rw [quoted, sighted_screened, weighed]
  have hm1 : (sighted c ev s).ven.m1 = s.ven.m1 := rfl
  simp only [hunfold, quoteStage, harea, hm1, evaluationQuote_weighed, Bool.and_eq_true, Bool.or_eq_true]
  split
  · rfl
  · rw [← harea, ← hnone]

end

/-! ### CONSUME leaves the rest -/

/-- The record's ride state moves. -/
def Record.withRide (g : RideState → RideState) (r : Record) : Record := { r with ride := g r.ride }

/-- What CONSUME leaves: the evaluation with the ride it reports, in JUDGING or parked, and the register with ride states
moved. -/
theorem Consumed.leaves {c : Credential} {ev : Evaluation} {s t : State} (h : Consumed c ev s t) :
    ∃ outcome remaining g,
      (t.ven = { s.ven with engine := .judging (ev.setRide outcome remaining) } ∨
        t.ven = { s.ven with engine := .idle,
                             parked := some { ev := ev.setRide outcome remaining, completed := false } }) ∧
      t.irg = { s.irg with records := updateRecord c.key (Record.withRide g) s.irg.records } ∧
      t = { s with ven := t.ven, irg := t.irg, ciu := t.ciu } := by
  have hsame (rs : List Record) : updateRecord c.key (Record.withRide id) rs = rs :=
    (List.map_congr_left fun r _ => ite_self r).trans (List.map_id rs)
  cases h with
  | reported outcome remaining => exact ⟨outcome, remaining, id, .inl rfl, by rw [hsame]; rfl, rfl⟩
  | taken outcome remaining => exact ⟨outcome, remaining, fun _ => .consumed, .inl rfl, rfl, rfl⟩
  | parked counter =>
    exact ⟨ev.rideOutcome, ev.ridesRemaining, fun _ => .pending (nextSequence counter.sequence), .inr rfl, rfl, rfl⟩

end Sys2Proof.Machine
end

section
/-! CHECK_COMPLETE with a match (R15, R60): the trusted evaluation, its findings and its verdict. -/

namespace Sys2Proof.Machine

theorem quoteStage_evaluation (c : Credential) (s : State) (ev : Evaluation) :
    ∃ q, quoteStage c s ev = { ev with quote := q } := by
  unfold quoteStage
  split
  · split
    · exact ⟨_, rfl⟩
    · exact ⟨ev.quote, rfl⟩
  · exact ⟨ev.quote, rfl⟩

section
variable (c : Credential) (ev : Evaluation) (s : State)

/-- The quote apart, CONSUME takes up what POLICY leaves. -/
theorem quoted_screened : ∃ q, quoted c (screened c ev s) s = { weighed c ev s with quote := q } :=
  quoteStage_evaluation _ _ _

variable {c ev s} {check : CheckInFlight} (hr : s.resetN = true) (he : s.ven.engine = .checking ev check)
  (hc : ev.credential = some c) (hretiring : ∀ f, ev.has f = true → f = .keyRetiring)

include hc in
theorem quoted_verdictOk : (quoted c (screened c ev s) s).verdictOk := by
  obtain ⟨fs, hfs⟩ := screened_onlyFindings c ev s
  obtain ⟨gs, hgs⟩ := judged_onlyFindings c (screened c ev s) s
  refine (quoteStage_decided (policyStage_decided _ ?_)).verdictOk
  rw [hgs, hfs]
  simp [hc]

include hretiring in
theorem weighed_has (f : Finding) :
    (weighed c ev s).has f = true ↔ f.raisedBy c ev s ∧ s.ven.policyOf f ≠ .ignored := by
  rw [weighed, policyStage_has, judged_screened_has hretiring]

include hretiring in
theorem weighed_action : (weighed c ev s).verdict = some .action ↔
    ∃ f : Finding, f.raisedBy c ev s ∧ s.ven.policyOf f = .blocking := by
  simp only [weighed, policyStage_action, judged_screened_has hretiring]

include hretiring in
theorem weighed_pass : (weighed c ev s).verdict = some .pass ↔
    ∀ f : Finding, f.raisedBy c ev s → s.ven.policyOf f = .ignored := by
  simp only [weighed, policyStage_pass, judged_screened_has hretiring]

include hretiring in
/-- At most KEY-RETIRING stands, so that the credential is trusted (R17) and all the stages follow (R60). -/
theorem afterCheck_trusted : afterCheck c ev s = consumeStage c (quoted c (screened c ev s) s) (sighted c ev s) := by
  have hnot (f : Finding) (hf : f ≠ .keyRetiring) : ev.has f = false :=
    Bool.eq_false_iff.2 fun h => hf (hretiring f h)
  have htrusted : afterCheck c ev s = trustedStages c (screened c ev s) s := by
    simp only [afterCheck, hnot .issuerUnknown (by simp), hnot .keyWithdrawn (by simp), hnot .checkMismatch (by simp)]
    rfl
  rw [htrusted, trustedStages_eq, sighted_screened]

include hr he hc hretiring in
theorem exec_checkComplete_trusted (hmatch : Config.keyedCheck check.material check.input = check.value) :
    exec .checkComplete s = .next (consumeStage c (quoted c (screened c ev s) s) (sighted c ev s)) := by
  have hmatches : check.matches = true := by simpa [CheckInFlight.matches] using hmatch
  have hcomplete : checkComplete s = afterCheck c ev s := by
    simp only [checkComplete, he, finishCheck, hc, hmatches]
    rfl
  exact congrArg _ ((whenRunning_of_running hr).trans (hcomplete.trans (afterCheck_trusted hretiring)))

end

/-- Settles O38: what is proved of the evaluation that CONSUME takes up holds of the one it leaves. -/
theorem trustedFindingsAreThoseRaised : Obligations.TrustedFindingsAreThoseRaised := by
  intro ev check c s hr he hc hretiring hmatch
  have hexec := exec_checkComplete_trusted hr he hc hretiring hmatch
  have hok := quoted_verdictOk (s := s) hc
  obtain ⟨q, hq⟩ := quoted_screened c ev s
  rw [hq] at hexec hok
  obtain ⟨outcome, remaining, g, hven, hirg, hrest⟩ :=
    (consumeStage_consumed c { weighed c ev s with quote := q } (sighted c ev s)).leaves
  refine ⟨_, ({ weighed c ev s with quote := q } : Evaluation).setRide outcome remaining, hexec, hven, ?_, hok,
    policyStage_policies, weighed_action hretiring, weighed_pass hretiring, fun _ => Evaluation.has_iff,
    weighed_has hretiring, ?_⟩
  · exact congrArg Evaluation.trust (weighed_eq c ev s)
  · rw [hrest, hirg]
    rfl

end Sys2Proof.Machine
end

section
/-! CHECK_COMPLETE with a match: the sighting in the register, the quote, and what CONSUME takes up (R78, R102 to R104). -/

namespace Sys2Proof.Machine

section
variable (c : Credential) (ev : Evaluation) (s : State)

/-- The inspection count that the verdict reports: the record's, one higher, and none with the register FULL. -/
theorem weighed_inspCount (hcount : ev.inspCount = 0) :
    let looked := registerLookup c.key ev.snapshot.seconds ev.carriage s.irg.records
    (weighed c ev s).inspCount = if looked.2 = .full then 0 else satSucc 255 (match findRecord c.key s.irg.records with
      | some r => r.count
      | none => 0) := by
  intro looked
  have hweighed : (weighed c ev s).inspCount = ((findRecord c.key looked.1).map fun r => satSucc 255 r.count).getD 0 := by
    rw [weighed_eq, hcount]
  rcases registerLookup_finds c.key ev.snapshot.seconds ev.carriage s.irg.records with
    ⟨r, hr, hs, hf⟩ | ⟨hn, -, hs, hf⟩ | ⟨hn, -, hs, hf⟩
  · simp only [hweighed, looked, hs, hf, hr, reduceCtorEq, if_false, Option.map_some, Option.getD_some]
  · simp only [hweighed, looked, hs, hf, hn, reduceCtorEq, if_false, Option.map_some, Option.getD_some]
    rfl
  · simp only [hweighed, looked, hs, hf, if_true, Option.map_none, Option.getD_none]

/-- The evaluation at CONSUME, field by field. -/
theorem quoted_eq (hq : ev.quote = none) (hcount : ev.inspCount = 0) :
    let looked := registerLookup c.key ev.snapshot.seconds ev.carriage s.irg.records
    let entry := s.ven.areaOf (ev.snapshot.route.stop ev.snapshot.a).area
    quoted c (screened c ev s) s =
      { ev with
        trust := .trusted
        findings := (quoted c (screened c ev s) s).findings
        verdict := (quoted c (screened c ev s) s).verdict
        regStatus := looked.2
        hasRecord := looked.2 ≠ .full
        inspCount := if looked.2 = .full then 0 else satSucc 255 (match findRecord c.key s.irg.records with
          | some r => r.count
          | none => 0)
        areaReading := some entry
        quote := if entry.configured = true ∧ ((quoted c (screened c ev s) s).has .shortCoverage = true ∨
            (quoted c (screened c ev s) s).has .classMismatch = true) then
          some (computeQuote (sectionQuote c ev s)) else none } := by
  intro looked entry
  have hheld : (looked.2 != .full) = decide (looked.2 ≠ .full) := by
    cases looked.2 <;> rfl
  rw [quoted_screened_eq c ev s hq, ← weighed_inspCount c ev s hcount, ← hheld,
    congrArg Evaluation.inspCount (weighed_eq c ev s)]
  exact congrArg (fun w : Evaluation => { w with
    quote := if entry.configured = true ∧ ((weighed c ev s).has .shortCoverage = true ∨
        (weighed c ev s).has .classMismatch = true) then some (computeQuote (sectionQuote c ev s)) else none })
    (weighed_eq c ev s)

/-- The register when JUDGE is done, written out: FULL leaves it, and otherwise the record is updated. -/
theorem inspected_eq (key : CredKey) (seconds carriage : Nat) (rs : List Record) :
    let looked := registerLookup key seconds carriage rs
    (if looked.2 = .full then looked.1 else updateRecord key (seenUpdate seconds carriage) looked.1) =
      sightedRecords key seconds carriage rs := by
  intro looked
  split
  next h => exact (updateRecord_eq_self (registerLookup_full_iff.1 h)).symm
  next => rfl

end

/-- A record that is found makes room for none; a new one goes to the end. -/
theorem registerLookup_keys {key : CredKey} {seconds carriage : Nat} {front back : List Record} {old : Record}
    (hn : findRecord key (front ++ old :: back) = none) (hfull : 1024 ≤ (front ++ old :: back).length)
    (hfront : ∀ d ∈ front, d.ride ≠ .none ∨ d.caseLink ≠ none) (hold : ¬ (old.ride ≠ .none ∨ old.caseLink ≠ none)) :
    (registerLookup key seconds carriage (front ++ old :: back)).1.map (·.key) =
      (front ++ back).map (·.key) ++ [key] := by
  have hlookup := (registerLookupEvictsOldest.2 key seconds carriage (front ++ old :: back)).2.2.1 front back old rfl
    (findRecord_eq_none.1 hn) hfull hfront hold
  rw [hlookup, List.map_append, List.map_singleton]

/-- Where no record is held CONSUME takes no ride (R79, R80). -/
theorem consumeStage_issues {c : Credential} {ev : Evaluation} (s : State) (h : ev.hasRecord = false) :
    ∃ outcome remaining, consumeStage c ev s = toIssue (ev.setRide outcome remaining) s := by
  cases hc : c.rides with
  | none => exact ⟨_, _, consumeStage_noCount hc⟩
  | some n => exact ⟨_, _, consumeStage_unheld hc h⟩

section
variable {c : Credential} {ev : Evaluation} {s : State}

/-- What CONSUME leaves when the register had room: the record of the sighting, and the evaluation that reports it. -/
theorem consumeStage_sighted {r₀ : Record}
    (hr₀ : findRecord c.key (registerLookup c.key ev.snapshot.seconds ev.carriage s.irg.records).1 = some r₀) :
    ∃ ev' r, ((consumeStage c (quoted c (screened c ev s) s) (sighted c ev s)).ven.engine = .judging ev' ∨
        (consumeStage c (quoted c (screened c ev s) s) (sighted c ev s)).ven.parked =
          some { ev := ev', completed := false }) ∧
      findRecord c.key (consumeStage c (quoted c (screened c ev s) s) (sighted c ev s)).irg.records = some r ∧
      r.lastSeen = ev.snapshot.seconds ∧ r.lastCarriage = ev.carriage ∧ r.count = satSucc 255 r₀.count ∧
      ev'.regStatus = (registerLookup c.key ev.snapshot.seconds ev.carriage s.irg.records).2 ∧ ev'.inspCount = r.count ∧
      (consumeStage c (quoted c (screened c ev s) s) (sighted c ev s)).irg.records.map (·.key) =
        (registerLookup c.key ev.snapshot.seconds ev.carriage s.irg.records).1.map (·.key) := by
  obtain ⟨outcome, remaining, g, hven, hirg, -⟩ :=
    (consumeStage_consumed c (quoted c (screened c ev s) s) (sighted c ev s)).leaves
  obtain ⟨q, hq⟩ := quoted_screened c ev s
  have hinsp : (weighed c ev s).inspCount = satSucc 255 r₀.count := by
    rw [weighed_eq, hr₀]
    rfl
  have hstatus : (weighed c ev s).regStatus = (registerLookup c.key ev.snapshot.seconds ev.carriage s.irg.records).2 :=
    congrArg Evaluation.regStatus (weighed_eq c ev s)
  refine ⟨(quoted c (screened c ev s) s).setRide outcome remaining,
    Record.withRide g (seenUpdate ev.snapshot.seconds ev.carriage r₀), ?_, ?_, rfl, rfl, rfl, ?_, ?_, ?_⟩
  · rcases hven with hven | hven <;> rw [hven]
    · exact .inl rfl
    · exact .inr rfl
  · rw [hirg]
    simp only [sighted, findRecord_updateRecord (f := Record.withRide g) (fun _ => rfl), findRecord_sightedRecords, hr₀,
      Option.map_some]
  · rw [hq]
    exact hstatus
  · rw [hq]
    exact hinsp
  · rw [hirg]
    simp only [sighted, sightedRecords]
    rw [map_key_updateRecord (f := Record.withRide g) (fun _ => rfl),
      map_key_updateRecord (f := seenUpdate _ _) (fun _ => rfl)]

/-- With the register FULL nothing is recorded, and the verdict goes to ISSUE with no count. -/
theorem consumeStage_full (hcount : ev.inspCount = 0)
    (hfull : (registerLookup c.key ev.snapshot.seconds ev.carriage s.irg.records).2 = .full) :
    ∃ ev', (consumeStage c (quoted c (screened c ev s) s) (sighted c ev s)).ven.engine = .judging ev' ∧
      ev'.regStatus = .full ∧ ev'.hasRecord = false ∧ ev'.inspCount = 0 ∧
      (consumeStage c (quoted c (screened c ev s) s) (sighted c ev s)).irg = s.irg := by
  obtain ⟨q, hq⟩ := quoted_screened c ev s
  have hunheld : (quoted c (screened c ev s) s).hasRecord = false := by
    rw [hq, weighed_eq]
    simp [hfull]
  obtain ⟨outcome, remaining, hissue⟩ := consumeStage_issues (c := c) (sighted c ev s) hunheld
  rw [hissue]
  refine ⟨_, rfl, ?_, hunheld, ?_, ?_⟩
  · rw [hq]
    exact (congrArg Evaluation.regStatus (weighed_eq c ev s)).trans hfull
  · rw [hq]
    exact (weighed_inspCount c ev s hcount).trans (if_pos hfull)
  · have hkept : sightedRecords c.key ev.snapshot.seconds ev.carriage s.irg.records = s.irg.records := by
      rcases registerLookup_cases c.key ev.snapshot.seconds ev.carriage s.irg.records with
        ⟨-, he⟩ | ⟨-, -, he⟩ | ⟨-, -, -, he⟩ | ⟨hn, -, -, he⟩
      · rw [he] at hfull
        cases hfull
      · rw [he] at hfull
        cases hfull
      · rw [he] at hfull
        cases hfull
      · rw [sightedRecords, he]
        exact updateRecord_eq_self hn
    simp only [toIssue, withVen, sighted, hkept]

end

/-- Settles O39. -/
theorem sightingsAreRecorded : Obligations.SightingsAreRecorded := by
  intro ev check c s hr he hc hretiring hq hcount hmatch
  have hexec := exec_checkComplete_trusted hr he hc hretiring hmatch
  refine ⟨fun hroom => ?_, fun hn hfull hall => ?_, quoted c (screened c ev s) s, ?_, quoted_verdictOk hc, ?_,
    ?_, quoted_eq c ev s hq hcount⟩
  · rcases registerLookup_finds c.key ev.snapshot.seconds ev.carriage s.irg.records with
      ⟨r₀, hr₀, hs, hf⟩ | ⟨hn, -, hs, hf⟩ | ⟨hn, ⟨hfull, hall⟩, -, -⟩
    · obtain ⟨ev', r, hheld, hfind, hseen, hcarriage, hrise, hstatus, hinsp, -⟩ := consumeStage_sighted hf
      refine ⟨_, ev', r, hexec, hheld, hfind, hseen, hcarriage, fun old ho => ⟨?_, hstatus.trans hs⟩,
        fun hn => absurd (hr₀.symm.trans hn) (by simp), hinsp, fun _ _ _ hn => absurd (hr₀.symm.trans hn) (by simp)⟩
      obtain rfl := Option.some.inj (hr₀.symm.trans ho)
      exact hrise
    · obtain ⟨ev', r, hheld, hfind, hseen, hcarriage, hrise, hstatus, hinsp, hkeys⟩ := consumeStage_sighted hf
      refine ⟨_, ev', r, hexec, hheld, hfind, hseen, hcarriage, fun old ho => absurd (hn.symm.trans ho) (by simp),
        fun _ => ⟨hrise, hstatus.trans hs⟩, hinsp, fun front back old _ hfull hrs hfront hold => ?_⟩
      rw [hkeys, hrs]
      rw [hrs] at hn hfull
      exact registerLookup_keys hn hfull hfront hold
    · rcases hroom with hknown | hroom | ⟨r, hmem, hfree⟩
      · simp [hn] at hknown
      · exact absurd hroom (Nat.not_lt.2 hfull)
      · exact absurd (hall r hmem) hfree
  · have hstatus := (registerLookup_full c.key ev.snapshot.seconds ev.carriage s.irg.records).2 ⟨hn, hfull, hall⟩
    obtain ⟨ev', hen, hreg, hheld, hinsp, hirg⟩ := consumeStage_full (c := c) hcount hstatus
    exact ⟨_, ev', hexec, hen, hreg, hheld, hinsp, hirg⟩
  · rw [hexec]
    refine congrArg (fun rs => Host.Outcome.next (consumeStage c (quoted c (screened c ev s) s)
      { s with irg := { s.irg with records := rs } })) (inspected_eq c.key ev.snapshot.seconds ev.carriage s.irg.records).symm
  · obtain ⟨q, hquoted⟩ := quoted_screened c ev s
    rw [hquoted]
    exact policyStage_policies
  · obtain ⟨q, hquoted⟩ := quoted_screened c ev s
    rw [hquoted]
    exact weighed_has hretiring

end Sys2Proof.Machine
end

section
/-! ISSUE (R84, R85): the case that an ACTION verdict opens, the VERDICT notice, the INSPECTION record and the release. -/

namespace Sys2Proof.Machine

/-! ### The serial of a new case (R117) -/

theorem repeat_serialAfter_succ (k n : Nat) :
    Nat.repeat serialAfter (k + 1) n = Nat.repeat serialAfter k (serialAfter n) := by
  induction k with
  | zero => rfl
  | succ k ih => exact congrArg serialAfter ih

/-- The serials before the one that is taken are all in use. -/
theorem freshSerial_passes (held : List Nat) (fuel n : Nat) :
    ∃ k, freshSerial held fuel n = Nat.repeat serialAfter k n ∧ ∀ m < k, Nat.repeat serialAfter m n ∈ held := by
  induction fuel generalizing n with
  | zero => exact ⟨0, rfl, fun m hm => absurd hm (Nat.not_lt_zero m)⟩
  | succ fuel ih =>
    rw [freshSerial]
    split
    next hheld =>
      obtain ⟨k, hk, hpassed⟩ := ih (serialAfter n)
      refine ⟨k + 1, hk.trans (repeat_serialAfter_succ k n).symm, fun m hm => ?_⟩
      cases m with
      | zero => exact List.contains_iff_mem.1 hheld
      | succ m =>
        rw [repeat_serialAfter_succ]
        exact hpassed m (Nat.lt_of_succ_lt_succ hm)
    next => exact ⟨0, rfl, fun m hm => absurd hm (Nat.not_lt_zero m)⟩

theorem repeat_serialAfter {n : Nat} (h1 : 1 ≤ n) (h2 : n ≤ 65535) (k : Nat) :
    Nat.repeat serialAfter k n = (n - 1 + k) % 65535 + 1 := by
  induction k with
  | zero =>
    rw [Nat.repeat]
    omega
  | succ k ih =>
    rw [Nat.repeat, ih]
    rcases serialAfter_cases ((n - 1 + k) % 65535 + 1) with ⟨hlt, he⟩ | ⟨hge, he⟩ <;> rw [he] <;> omega

theorem mem_heldSerials {c : Ctb} {n : Nat} :
    n ∈ heldSerials c ↔ (∃ d ∈ c.cases, d.serial = n) ∨ ∃ d ∈ c.closedWaiting, d.serial = n := by
  simp [heldSerials]

theorem freshSerial_of_not_mem {held : List Nat} {n : Nat} (h : n ∉ held) (fuel : Nat) :
    freshSerial held (fuel + 1) n = n := by
  simp [freshSerial, h]

/-! ### The steps of ISSUE -/

theorem linksRecord_held {ev : Evaluation} {key : CredKey} {s : State} : linksRecord ev key s = true ↔
    ev.hasRecord = true ∧ ∃ r, findRecord key s.irg.records = some r ∧ r.caseLink = none := by
  rw [linksRecord_iff]
  cases hh : ev.hasRecord with
  | true => simp [recordOf_held hh]
  | false => simp [recordOf_unheld hh]

section
variable (s : State)

/-- The case that opens for an evaluation, with its serial (R117, R118). -/
def openedCase (c : Credential) (ev : Evaluation) : Case :=
  newCase (freshSerial (heldSerials s.ctb) 4 s.ctb.nextSerial) (linksRecord ev c.key s) c ev s

theorem openCase_opens (c : Credential) (ev : Evaluation) (h : heldSlots s.ctb < 4) :
    openCase c ev s =
      ({ s with
          ctb := { s.ctb with cases := s.ctb.cases ++ [openedCase s c ev],
                              nextSerial := serialAfter (openedCase s c ev).serial }
          irg := { s.irg with records := s.irg.records.map (fun r =>
            if (openedCase s c ev).linked = true ∧ r.key = c.key then
              { r with caseLink := some (openedCase s c ev).serial } else r) } },
        some (openedCase s c ev).serial) := by
  have hlinked : (openedCase s c ev).linked = linksRecord ev c.key s := rfl
  rw [hlinked]
  have hopened : newCase (freshSerial (heldSerials s.ctb) 4 s.ctb.nextSerial) (linksRecord ev c.key s) c ev s =
      openedCase s c ev := rfl
  simp only [openCase, if_pos h, hopened]
  cases linksRecord ev c.key s with
  | true =>
    simp only [if_true, true_and]
    rfl
  | false =>
    simp only [Bool.false_eq_true, if_false, false_and, List.map_id']
    rfl

theorem openForAction_uncased {ev : Evaluation} {v : Verdict} (hv : ev.verdict = some v)
    (h : v ≠ .action ∨ ev.credential = none ∨ 4 ≤ heldSlots s.ctb) : openForAction ev s = (s, none) := by
  unfold openForAction
  split
  next c haction hc =>
    rcases h with h | h | h
    · simp only [Evaluation.finalVerdict, hv, Option.getD_some] at haction
      exact absurd haction h
    · simp [h] at hc
    · rw [openCase, if_neg (Nat.not_lt.2 h)]
  next => rfl

theorem openForAction_cased {ev : Evaluation} {c : Credential} (hv : ev.verdict = some .action) (hc : ev.credential = some c) :
    openForAction ev s = openCase c ev s := by
  simp [openForAction, Evaluation.finalVerdict, hv, hc]

theorem releaseCard_eq (ev : Evaluation) : releaseCard ev s =
    { s with ciu := match ev.origin with
      | .link => s.ciu
      | .card _ session => releaseAtIssue ev.finalVerdict session s.ciu } := by
  unfold releaseCard
  cases ev.origin <;> rfl

theorem releaseAtIssue_eq (v : Verdict) (session : Nat) (c : Ciu) : releaseAtIssue v session c =
    if c.held = true ∧ c.tag = session ∧ c.state = .queued then
      { c with state := .settled, sending := c.sending ++ [.release (releaseOf v)] } else c := by
  simp only [releaseAtIssue, sessionPresent_iff]
  rfl

/-- The evaluation that ISSUE discards: the parked one, or the one in hand (R84). -/
def Ven.issued (ofParked : Bool) (v : Ven) : Ven :=
  if ofParked then { v with parked := none } else { v with engine := .idle }

variable {s} {ofParked : Bool} {ev : Evaluation} (hr : s.resetN = true) (hfree : 0 < freeSlots s.lif)
  (hparked : ofParked = true → s.ven.parked = some { ev := ev, completed := true })
  (hhand : ofParked = false → s.ven.engine = .judging ev)
include hr hfree hparked hhand

theorem exec_issue : exec (.issue ofParked) s =
    .next { issueVerdict ev s with ven := (issueVerdict ev s).ven.issued ofParked } := by
  refine congrArg _ ((whenRunning_of_running hr).trans ?_)
  rw [issue, if_neg (Nat.ne_of_gt hfree)]
  cases ofParked with
  | true => simp only [hparked rfl, if_true]; rfl
  | false => simp only [hhand rfl, Bool.false_eq_true, if_false]; rfl

end

/-- An ISSUE that has nothing to issue, or no room, waits (R84). -/
theorem issue_waits {ofParked : Bool} {s : State}
    (h : freeSlots s.lif = 0 ∨ (ofParked = false ∧ ∀ ev, s.ven.engine ≠ .judging ev) ∨
      (ofParked = true ∧ ∀ p, s.ven.parked = some p → p.completed = false)) : issue ofParked s = s := by
  by_cases hroom : freeSlots s.lif = 0
  · simp [issue, hroom]
  rcases h with h | ⟨rfl, h⟩ | ⟨rfl, h⟩
  · exact absurd h hroom
  · simp only [issue, if_neg hroom, Bool.false_eq_true, if_false]
  · simp only [issue, if_neg hroom, if_true]
    cases hp : s.ven.parked with
    | some p => simp [h p hp]
    | none => rfl

theorem issueVerdict_opened {ev : Evaluation} {v : Verdict} {s s' : State} {serial : Option Nat}
    (hv : ev.verdict = some v) (h : openForAction ev s = (s', serial)) :
    issueVerdict ev s =
      { journal (ev.inspection serial)
          { s' with lif := { s'.lif with outbound := s'.lif.outbound ++ [.frame (.notice (.verdict (ev.report serial)))] } }
        with ciu := match ev.origin with
          | .link => s'.ciu
          | .card _ session =>
            if s'.ciu.held = true ∧ s'.ciu.tag = session ∧ s'.ciu.state = .queued then
              { s'.ciu with state := .settled, sending := s'.ciu.sending ++ [.release (releaseOf v)] }
            else s'.ciu } := by
  have hfinal : ev.finalVerdict = v := by simp [Evaluation.finalVerdict, hv]
  simp only [issueVerdict, h, releaseCard_eq, releaseAtIssue_eq, hfinal]
  rfl

/-- Settles O41. -/
theorem issueReportsTheVerdict : Obligations.IssueReportsTheVerdict := by
  refine ⟨rfl, fun ofParked s h => congrArg _ (whenRunning_idle (issue_waits h)), ?_⟩
  intro ofParked ev v s hr hfree hparked hhand hv key findings quote fromCard finish
  have hexec := exec_issue hr hfree hparked hhand
  have hfinal : ev.finalVerdict = v := by simp [Evaluation.finalVerdict, hv]
  have hfinish {s' : State} {serial : Option Nat} (ho : openForAction ev s = (s', serial)) (hven : s'.ven = s.ven)
      (hciu : s'.ciu = s.ciu) : exec (.issue ofParked) s = .next (finish serial s') := by
    rw [hexec, issueVerdict_opened hv ho]
    simp only [hciu]
    rw [Ven.issued, journal_ven, hven]
    simp only [finish, Evaluation.report, Evaluation.inspection, hfinal]
    rfl
  refine ⟨fun hnone => hfinish (openForAction_uncased s hv hnone) rfl rfl, fun c haction hc hslots => ?_⟩
  subst haction
  have hfresh := freshSerial_not_mem (Nat.lt_of_le_of_lt (Nat.le_of_eq (heldSerials_length s.ctb)) hslots) s.ctb.nextSerial
  refine ⟨(openedCase s c ev).serial, openedCase s c ev, _,
    hfinish ((openForAction_cased s hv hc).trans (openCase_opens s c ev hslots)) rfl rfl, rfl, ?_, ?_, ?_, ?_, ?_,
    rfl, rfl, rfl, rfl, rfl, rfl, rfl, rfl, rfl, rfl, fun ho => ?_, fun k session ho => ?_, fun hrides => ?_,
    fun n htrust hrides => ?_, fun htrust => ?_, fun htrust => ?_⟩
  · exact fun d hd he => hfresh (mem_heldSerials.2 (.inl ⟨d, hd, he⟩))
  · exact fun d hd he => hfresh (mem_heldSerials.2 (.inr ⟨d, hd, he⟩))
  · intro hcases hclosed
    refine freshSerial_of_not_mem (fun hmem => ?_) 3
    rcases mem_heldSerials.1 hmem with ⟨d, hd, he⟩ | ⟨d, hd, he⟩
    · exact hcases d hd he
    · exact hclosed d hd he
  · intro h1 h2 inUse following
    obtain ⟨k, hk, hpassed⟩ := freshSerial_passes (heldSerials s.ctb) 4 s.ctb.nextSerial
    refine ⟨k, hk.trans (repeat_serialAfter h1 h2 k), fun hused => hfresh (mem_heldSerials.2 hused), fun m hm => ?_⟩
    have hused := hpassed m hm
    rw [repeat_serialAfter h1 h2] at hused
    exact mem_heldSerials.1 hused
  · exact linksRecord_held
  · simp [openedCase, newCase, ho]
  · simp [openedCase, newCase, ho]
  · simp [openedCase, newCase, hrides]
  · cases ho : ev.origin <;> simp [openedCase, newCase, hrides, htrust, currentRides, ho]
  · simp [openedCase, newCase, htrust]
  · simp [openedCase, newCase, htrust]

end Sys2Proof.Machine
end

section
/-! CLOSE_COMPLETION (R40): the cases close with their records and notices, and what the journal says comes last. -/

namespace Sys2Proof.Machine

/-! ### What an append reports (R176, R177, R181) -/

/-- The kinds of the journal's notices: JOURNAL-READY, JOURNAL-LOW and JOURNAL-FULL. -/
def Notice.ofJournal (n : Notice) : Prop := n.code = 0x94 ∨ n.code = 0x95 ∨ n.code = 0x96

theorem append_ofJournal (time now : Nat) (body : JournalBody) (j : Jnl) :
    ∀ n ∈ (j.append time now body).2, n.ofJournal := by
  have hdrop (k : Nat) : ∀ n ∈ (j.drop k).2, n.ofJournal := by
    intro n hn
    unfold Jnl.drop at hn
    simp only at hn
    split at hn
    · rw [List.mem_singleton.1 hn]
      exact .inr (.inr rfl)
    · simp at hn
  rcases append_cases time now body j with ⟨-, h⟩ | ⟨-, -, h⟩ | ⟨-, -, h⟩ <;> rw [h]
  · exact hdrop _
  · exact hdrop _
  · intro n hn
    rcases List.mem_append.1 hn with hlow | hbatch
    · unfold Jnl.lowCheck at hlow
      split at hlow
      · rw [List.mem_singleton.1 hlow]
        exact .inr (.inl rfl)
      · simp at hlow
    · unfold Jnl.batch at hbatch
      simp only at hbatch
      split at hbatch
      · rw [List.mem_singleton.1 hbatch]
        exact .inl rfl
      · simp at hbatch

/-- The journal after the appends of the records one by one, with all that they report. -/
def appendAll (time now : Nat) (bodies : List JournalBody) (p : Jnl × List Notice) : Jnl × List Notice :=
  bodies.foldl (fun p body => ((p.1.append time now body).1, p.2 ++ (p.1.append time now body).2)) p

/-! ### The last notice of each kind pends (R161) -/

/-- The last notice of the kind. -/
def lastOfKind (kind : Nat) (ns : List Notice) : Option Notice := (ns.filter (fun n => n.code = kind)).getLast?

/-- The last notice of each kind of the journal's, in kind order. -/
def lastOfKinds (ns : List Notice) : List Notice := [0x94, 0x95, 0x96].filterMap (fun kind => lastOfKind kind ns)

theorem lastOfKind_code {kind : Nat} {ns : List Notice} {n : Notice} (h : lastOfKind kind ns = some n) : n.code = kind := by
  have hmem := List.mem_of_getLast? h
  simpa using (List.mem_filter.1 hmem).2

theorem lastOfKind_snoc (kind : Nat) (ns : List Notice) (n : Notice) :
    lastOfKind kind (ns ++ [n]) = if n.code = kind then some n else lastOfKind kind ns := by
  by_cases h : n.code = kind
  · simp [lastOfKind, List.filter_append, h]
  · simp [lastOfKind, List.filter_append, h]

theorem lastOfKinds_eq (ns : List Notice) : lastOfKinds ns =
    (lastOfKind 0x94 ns).toList ++ ((lastOfKind 0x95 ns).toList ++ (lastOfKind 0x96 ns).toList) := by
  unfold lastOfKinds
  cases h4 : lastOfKind 0x94 ns <;> cases h5 : lastOfKind 0x95 ns <;> cases h6 : lastOfKind 0x96 ns <;>
    simp [h4, h5, h6]

/-- A new notice of the journal takes the place of the last one of its kind. -/
theorem lastOfKinds_snoc {n : Notice} (hn : n.ofJournal) (ns : List Notice) :
    lastOfKinds (ns ++ [n]) = insertPending n (lastOfKinds ns) := by
  have hready (m : Notice) (h : lastOfKind 0x94 ns = some m) : m.code = 0x94 := lastOfKind_code h
  have hlow (m : Notice) (h : lastOfKind 0x95 ns = some m) : m.code = 0x95 := lastOfKind_code h
  have hfull (m : Notice) (h : lastOfKind 0x96 ns = some m) : m.code = 0x96 := lastOfKind_code h
  simp only [lastOfKinds_eq, lastOfKind_snoc]
  generalize lastOfKind 0x94 ns = ready at hready ⊢
  generalize lastOfKind 0x95 ns = low at hlow ⊢
  generalize lastOfKind 0x96 ns = full at hfull ⊢
  rcases hn with hn | hn | hn <;> cases ready <;> cases low <;> cases full <;>
    simp_all [insertPending]

theorem pendNotice_ofJournal {n : Notice} (hn : n.ofJournal) (l : Lif) :
    pendNotice n l = { l with pendingNotices := insertPending n l.pendingNotices } := by
  have hnone : cancelledCode n = none := by
    cases n with
    | intakeHold => simp [Notice.ofJournal, Notice.code] at hn
    | intakeResume => simp [Notice.ofJournal, Notice.code] at hn
    | _ => rfl
  have hall : l.pendingNotices.filter (fun m => none != some m.code) = l.pendingNotices :=
    List.filter_eq_self.2 fun _ _ => rfl
  rw [pendNotice, hnone, hall]

theorem pendAll_lastOfKinds {ns ms : List Notice} {l : Lif} (hns : ∀ n ∈ ns, n.ofJournal)
    (h : l.pendingNotices = lastOfKinds ms) :
    pendAll ns l = { l with pendingNotices := lastOfKinds (ms ++ ns) } := by
  induction ns generalizing ms l with
  | nil =>
    rw [List.append_nil, ← h]
    rfl
  | cons n ns ih =>
    have hn := hns n List.mem_cons_self
    have hpend : pendNotice n l = { l with pendingNotices := lastOfKinds (ms ++ [n]) } := by
      rw [pendNotice_ofJournal hn, h, lastOfKinds_snoc hn]
    calc pendAll (n :: ns) l = pendAll ns (pendNotice n l) := rfl
      _ = { l with pendingNotices := lastOfKinds (ms ++ n :: ns) } := by
        rw [ih (fun m hm => hns m (List.mem_cons_of_mem n hm)) (congrArg Lif.pendingNotices hpend), hpend,
          List.append_assoc]
        rfl

/-! ### The pending notices enter while there is room (R40, R161) -/

theorem enterIfEmpty_full {l : Lif} (h : 24 ≤ l.outbound.length) (ns : List Notice) : ns.foldl enterIfEmpty l = l := by
  induction ns with
  | nil => rfl
  | cons n ns ih =>
    have hstays : enterIfEmpty l n = l := if_neg (Nat.not_lt.2 h)
    rw [List.foldl_cons, hstays, ih]

theorem enterIfEmpty_enters {n : Notice} {ns : List Notice} {l : Lif} (hroom : l.outbound.length < 24)
    (hl : l.pendingNotices = n :: ns) (hdistinct : ∀ m ∈ ns, m.code ≠ n.code) (hn : n.ofJournal) :
    enterIfEmpty l n = { l with outbound := l.outbound ++ [.frame (.notice n)], pendingNotices := ns } := by
  have hrest : l.pendingNotices.filter (fun m => m.code != n.code) = ns := by
    rw [hl, List.filter_cons_of_neg (by simp)]
    exact List.filter_eq_self.2 fun m hm => by simpa using hdistinct m hm
  have hfault : n.code ≠ 0x82 := by
    rcases hn with h | h | h <;> rw [h] <;> decide
  rw [enterIfEmpty, if_pos hroom, hrest, enterNotice_eq, enterNotice_faultCount, if_neg hfault]

/-- Of the pending notices of the journal those enter, in their order, that find room. -/
theorem flushPending_ofJournal {l : Lif} (hdistinct : l.pendingNotices.Pairwise (fun n m => m.code ≠ n.code))
    (hl : ∀ n ∈ l.pendingNotices, n.ofJournal) : flushPending l =
      { l with
        outbound := l.outbound ++ (l.pendingNotices.take (24 - l.outbound.length)).map (fun n => .frame (.notice n))
        pendingNotices := l.pendingNotices.drop (24 - l.outbound.length) } := by
  unfold flushPending
  generalize hns : l.pendingNotices = ns at hdistinct hl
  induction ns generalizing l with
  | nil =>
    rw [List.take_nil, List.drop_nil, List.map_nil, List.append_nil]
    exact congrArg (fun ms => { l with pendingNotices := ms }) hns
  | cons n ns ih =>
    by_cases hroom : l.outbound.length < 24
    · obtain ⟨hn, hdistinct⟩ := List.pairwise_cons.1 hdistinct
      have henters := enterIfEmpty_enters hroom hns hn (hl n List.mem_cons_self)
      have hsucc : 24 - l.outbound.length = (24 - (l.outbound.length + 1)) + 1 := by omega
      rw [List.foldl_cons, henters, ih rfl hdistinct fun m hm => hl m (List.mem_cons_of_mem n hm), hsucc]
      simp [List.append_assoc]
    · have hnone : 24 - l.outbound.length = 0 := by omega
      rw [enterIfEmpty_full (Nat.not_lt.1 hroom), hnone, List.take_zero, List.drop_zero, List.map_nil, List.append_nil]
      exact congrArg (fun ms => { l with pendingNotices := ms }) hns

/-! ### The cases close one by one -/

/-- The CASE-CLOSED of a case that the end of the journey closes (R119, R120). -/
def endedCase (c : Case) : ClosedCase := closedOf .journeyEnded .none c.rides c

/-- A case has closed: its record is appended, its notice entered, and what the journal says pends with `ns` before it. -/
def State.caseEnded (c : Case) (ns : List Notice) (s : State) : State :=
  { s with
    ctb := { s.ctb with cases := s.ctb.cases.filter (fun d => d.serial ≠ c.serial) }
    irg := { s.irg with records := s.irg.records.map (fun r =>
      if c.linked = true ∧ r.key = c.key then { r with caseLink := none } else r) }
    jnl := (s.jnl.append (tariffTime s) s.timebase (caseEndRecord (endedCase c))).1
    lif := { s.lif with
      outbound := s.lif.outbound ++ [.frame (.notice (.caseClosed (endedCase c)))]
      pendingNotices :=
        lastOfKinds (ns ++ (s.jnl.append (tariffTime s) s.timebase (caseEndRecord (endedCase c))).2) } }

theorem completeCase_eq {c : Case} {s : State} {ns : List Notice} (h : s.lif.pendingNotices = lastOfKinds ns) :
    completeCase s c = s.caseEnded c ns := by
  have hpend := pendAll_lastOfKinds
    (append_ofJournal (tariffTime s) s.timebase (caseEndRecord (endedCase c)) s.jnl) h
  rw [completeCase, detachCase_eq]
  exact congrArg (fun l => { s.caseEnded c ns with lif := enterNotice (.caseClosed (endedCase c)) l }) hpend

/-- What the cases that close leave: their records appended, their notices entered, and what the journal says pending. -/
theorem completeCases_eq {cs : List Case} {s : State} {ns : List Notice} (h : s.lif.pendingNotices = lastOfKinds ns) :
    let appended := appendAll (tariffTime s) s.timebase (cs.map fun c => caseEndRecord (endedCase c)) (s.jnl, ns)
    cs.foldl completeCase s =
      { s with
        ctb := { s.ctb with cases := (cs.foldl completeCase s).ctb.cases }
        irg := { s.irg with records := (cs.foldl completeCase s).irg.records }
        jnl := appended.1
        lif := { s.lif with
          outbound := s.lif.outbound ++ cs.map (fun c => .frame (.notice (.caseClosed (endedCase c))))
          pendingNotices := lastOfKinds appended.2 } } := by
  induction cs generalizing s ns with
  | nil =>
    simp only [List.foldl_nil, List.map_nil, List.append_nil, appendAll, ← h]
  | cons c cs ih =>
    have hout : (s.caseEnded c ns).lif.outbound ++ cs.map (fun c => .frame (.notice (.caseClosed (endedCase c)))) =
        s.lif.outbound ++ (c :: cs).map (fun c => .frame (.notice (.caseClosed (endedCase c)))) := by
      simp [State.caseEnded]
    rw [List.foldl_cons, completeCase_eq h, ← hout]
    exact ih rfl

/-- The close of the journey, with the journal's notices still pending (R40). -/
theorem completeClose_eq {j : Running} {s : State} (h : s.lif.pendingNotices = []) :
    let ends := s.ctb.cases.map fun c => caseEndRecord (endedCase c)
    let last := JournalBody.journeyEnd s.jcu.number j.epoch (j.route.stop j.position.index).code s.ctb.cases.length
    let appended := appendAll (tariffTime s) s.timebase (ends ++ [last]) (s.jnl, [])
    completeClose j s =
      { s with
        jcu := { s.jcu with journey := none, delay := 0 }
        irg := { s.irg with records := [] }
        ctb := { s.ctb with cases := [] }
        jnl := appended.1
        lif := flushPending { s.lif with
          outbound := s.lif.outbound ++ (s.ctb.cases.map (fun c => .frame (.notice (.caseClosed (endedCase c)))) ++
            [.frame (.notice (.journeyClosed s.jcu.number s.ctb.cases.length))])
          pendingNotices := lastOfKinds appended.2 } } := by
  intro ends last appended
  have hclosed := completeCases_eq (cs := s.ctb.cases) (s := s) (ns := []) h
  have hnone := completeCases_cases (cs := s.ctb.cases) (s := s) fun d hd => hd
  rw [hnone] at hclosed
  have happended : appended = appendAll (tariffTime s) s.timebase [last]
      (appendAll (tariffTime s) s.timebase ends (s.jnl, [])) := List.foldl_append ..
  have hpend := pendAll_lastOfKinds
    (append_ofJournal (tariffTime s) s.timebase last (appendAll (tariffTime s) s.timebase ends (s.jnl, [])).1)
    (congrArg (fun t : State => t.lif.pendingNotices) hclosed)
  rw [happended, ← List.append_assoc, completeClose, hclosed]
  rw [hclosed] at hpend
  exact congrArg (fun l => ({ s with
    jcu := { s.jcu with journey := none, delay := 0 }
    irg := { s.irg with records := [] }
    ctb := { s.ctb with cases := [] }
    jnl := (appendAll (tariffTime s) s.timebase [last] (appendAll (tariffTime s) s.timebase ends (s.jnl, []))).1
    lif := flushPending (enterNotice (.journeyClosed s.jcu.number s.ctb.cases.length) l) } : State)) hpend

theorem lastOfKinds_ofJournal (ns : List Notice) : ∀ n ∈ lastOfKinds ns, n.ofJournal := by
  intro n hn
  obtain ⟨kind, hkind, hlast⟩ := List.mem_filterMap.1 hn
  simpa [Notice.ofJournal, lastOfKind_code hlast] using hkind

theorem lastOfKinds_distinct (ns : List Notice) : (lastOfKinds ns).Pairwise (fun n m => m.code ≠ n.code) := by
  refine List.pairwise_filterMap.2 ?_
  have hkinds : [0x94, 0x95, 0x96].Pairwise (fun k l : Nat => l ≠ k) := by decide
  refine hkinds.imp fun hne n hn m hm => ?_
  rwa [lastOfKind_code hn, lastOfKind_code hm]

theorem canComplete_eq_false {s : State} (h : journeyClosing s = false ∨ s.iq.entries ≠ [] ∨ s.ven.engine ≠ .idle ∨
    s.ciu.state = .writing ∨ s.ven.parked ≠ none ∨ s.ctb.closedWaiting ≠ [] ∨
    freeSlots s.lif < s.ctb.cases.length + 1) : canComplete s = false := by
  rw [← Bool.not_eq_true]
  intro hcan
  simp only [canComplete, Bool.and_eq_true, List.isEmpty_iff, beq_iff_eq, bne_iff_ne, Option.isNone_iff_eq_none,
    decide_eq_true_eq] at hcan
  obtain ⟨⟨⟨⟨⟨⟨hclosing, hentries⟩, hengine⟩, hcard⟩, hparked⟩, hwaiting⟩, hroom⟩ := hcan
  rcases h with h | h | h | h | h | h | h
  · simp [h] at hclosing
  · exact h hentries
  · exact h hengine
  · exact hcard h
  · exact h hparked
  · exact h hwaiting
  · omega

/-- Settles O19. -/
theorem closeCompletes : Obligations.CloseCompletes := by
  intro j s hr hj
  refine ⟨fun h => ?_, ?_⟩
  · have hcan : canComplete s = false := by
      refine canComplete_eq_false (h.imp_left fun h => journeyClosing_eq_false fun j' hj' => ?_)
      obtain rfl := Option.some.inj (hj.symm.trans hj')
      exact h
    exact congrArg _ (whenRunning_idle (by simp only [closeCompletion, hj, hcan, Bool.false_eq_true, if_false]))
  · intro hclosing hentries hengine hcard hparked hwaiting hroom quoted closed ends last appended reports room
    have hcan : canComplete s = true := by
      simp [canComplete, journeyClosing_eq_true ⟨j, hj, hclosing⟩, hentries, hengine, hcard, hparked, hwaiting, hroom]
    have hfree : s.lif.waiting = [] ∧ s.lif.pendingNotices = [] := by
      refine Classical.byContradiction fun hnot => ?_
      rw [freeSlots_eq, if_neg hnot] at hroom
      omega
    have hcomplete : closeCompletion s = completeClose j s := by
      simp only [closeCompletion, hj, hcan, if_true]
    have hlength : (s.lif.outbound ++ (s.ctb.cases.map (fun c => Slot.frame (.notice (.caseClosed (endedCase c)))) ++
        [Slot.frame (.notice (.journeyClosed s.jcu.number s.ctb.cases.length))])).length =
        s.lif.outbound.length + s.ctb.cases.length + 1 := by
      simp only [List.length_append, List.length_map, List.length_singleton, Nat.add_assoc]
    refine congrArg _ ((whenRunning_of_running hr).trans ?_)
    rw [hcomplete, completeClose_eq hfree.2,
      flushPending_ofJournal (lastOfKinds_distinct _) (lastOfKinds_ofJournal _)]
    simp only [hlength, List.append_assoc, List.singleton_append]
    rfl

end Sys2Proof.Machine
end

section
/-! The bytes of a content and the numbers they spell (R187): the two directions of a field, and the fields before the kind
part. -/

namespace Sys2Proof.Machine

/-! ### A field's bytes are those of its number -/

theorem u8_mod (a n : Nat) : u8 (a * 256 + n) = u8 n := by
  simp only [u8, List.cons.injEq, and_true]
  exact BitVec.eq_of_toNat_eq (by simp only [BitVec.toNat_ofNat]; omega)

theorem u16_mod (a n : Nat) : u16 (a * 65536 + n) = u16 n := by
  simp only [u16, List.cons.injEq, and_true]
  exact ⟨BitVec.eq_of_toNat_eq (by simp only [BitVec.toNat_ofNat]; omega),
    BitVec.eq_of_toNat_eq (by simp only [BitVec.toNat_ofNat]; omega)⟩

theorem u16_eq (n : Nat) : u16 n = u8 (n / 256) ++ u8 n := rfl

theorem u32_mod (a n : Nat) : u32 (a * 4294967296 + n) = u32 n := by
  have hhigh : (a * 4294967296 + n) / 65536 = a * 65536 + n / 65536 := by omega
  have hlow : a * 4294967296 + n = (a * 65536) * 65536 + n := by omega
  rw [u32, u32, hhigh, u16_mod, hlow, u16_mod]

theorem u8_beNat {x : List Byte} (h : x.length = 1) : u8 (beNat x) = x := by
  obtain ⟨b, rfl⟩ := List.length_eq_one_iff.1 h
  simp only [u8, beNat, List.foldl_cons, List.foldl_nil, List.cons.injEq, and_true]
  exact BitVec.eq_of_toNat_eq (by simp)

/-- A string is the bytes of its number when its two halves are. -/
theorem beNat_halves {x : List Byte} {k m : Nat} {high low whole : Nat → List Byte} (hlen : x.length = k + m)
    (hwhole : ∀ n, whole n = high (n / 256 ^ m) ++ low n) (hmod : ∀ a n, low (a * 256 ^ m + n) = low n)
    (hhigh : ∀ y : List Byte, y.length = k → high (beNat y) = y) (hlow : ∀ y : List Byte, y.length = m → low (beNat y) = y) :
    whole (beNat x) = x := by
  have hm : (x.drop k).length = m := by rw [List.length_drop, hlen, Nat.add_sub_cancel_left]
  have hk : (x.take k).length = k := List.length_take_of_le (by omega)
  have hsplit : beNat x = beNat (x.take k) * 256 ^ m + beNat (x.drop k) := by
    rw [← hm, ← beNat_append, List.take_append_drop]
  have hlt : beNat (x.drop k) < 256 ^ m := Nat.lt_of_lt_of_eq (beNat_lt _) (by rw [hm])
  have hdiv : beNat x / 256 ^ m = beNat (x.take k) := by
    rw [hsplit, Nat.mul_comm, Nat.mul_add_div (Nat.pow_pos (by decide)), Nat.div_eq_of_lt hlt, Nat.add_zero]
  rw [hwhole, hdiv, hhigh _ hk, hsplit, hmod, hlow _ hm, List.take_append_drop]

theorem u16_beNat {x : List Byte} (h : x.length = 2) : u16 (beNat x) = x :=
  beNat_halves (k := 1) (m := 1) h u16_eq u8_mod (fun _ => u8_beNat) fun _ => u8_beNat

theorem u32_beNat {x : List Byte} (h : x.length = 4) : u32 (beNat x) = x :=
  beNat_halves (k := 2) (m := 2) h (fun _ => rfl) u16_mod (fun _ => u16_beNat) fun _ => u16_beNat

theorem u48_beNat {x : List Byte} (h : x.length = 6) : u48 (beNat x) = x :=
  beNat_halves (k := 2) (m := 4) h (fun _ => rfl) u32_mod (fun _ => u16_beNat) fun _ => u32_beNat

section
variable {c : List Byte} {off : Nat}

/-- A field that lies within the string stands there with the rest behind it. -/
theorem drop_eq_field {len : Nat} {field : Nat → List Byte} (hf : ∀ x : List Byte, x.length = len → field (beNat x) = x)
    (h : off + len ≤ c.length) : c.drop off = field (fieldAt c off len) ++ c.drop (off + len) := by
  have hlen : ((c.drop off).take len).length = len := by
    rw [List.length_take, List.length_drop]
    omega
  rw [fieldAt, hf _ hlen, ← List.drop_drop, List.take_append_drop]

theorem drop_eq_u8 (h : off + 1 ≤ c.length) : c.drop off = u8 (fieldAt c off 1) ++ c.drop (off + 1) :=
  drop_eq_field (fun _ => u8_beNat) h

theorem drop_eq_u16 (h : off + 2 ≤ c.length) : c.drop off = u16 (fieldAt c off 2) ++ c.drop (off + 2) :=
  drop_eq_field (fun _ => u16_beNat) h

theorem drop_eq_u32 (h : off + 4 ≤ c.length) : c.drop off = u32 (fieldAt c off 4) ++ c.drop (off + 4) :=
  drop_eq_field (fun _ => u32_beNat) h

theorem drop_eq_u48 (h : off + 6 ≤ c.length) : c.drop off = u48 (fieldAt c off 6) ++ c.drop (off + 6) :=
  drop_eq_field (fun _ => u48_beNat) h

end

/-! ### The fields before the kind part -/

/-- The fields of a content before its kind part (R187). -/
structure Header where
  issuer : Nat
  version : Nat
  serial : Nat
  length : Nat
  product : Nat
  word : Nat
  validFrom : Nat
  validUntil : Nat

/-- Each field fits its bytes. -/
structure Header.inRange (h : Header) : Prop where
  issuer : h.issuer < 256
  version : h.version < 256
  serial : h.serial < 281474976710656
  length : h.length < 256
  product : h.product < 65536
  word : h.word < 65536
  validFrom : h.validFrom < 4294967296
  validUntil : h.validUntil < 4294967296

/-- The header's bytes, with the rest behind them. -/
def Header.bytes (h : Header) (tail : List Byte) : List Byte :=
  u8 2 ++ (u8 h.issuer ++ (u8 h.version ++ (u48 h.serial ++ (u8 h.length ++ (u16 h.product ++ (u16 h.word ++
    (u32 h.validFrom ++ (u32 h.validUntil ++ tail))))))))

/-- The header that a content has. -/
def headerOf (c : List Byte) : Header :=
  { issuer := fieldAt c 1 1, version := fieldAt c 2 1, serial := fieldAt c 3 6, length := fieldAt c 9 1,
    product := fieldAt c 10 2, word := fieldAt c 12 2, validFrom := fieldAt c 14 4, validUntil := fieldAt c 18 4 }

theorem headerOf_inRange (c : List Byte) : (headerOf c).inRange :=
  ⟨fieldAt_lt c 1 1, fieldAt_lt c 2 1, fieldAt_lt c 3 6, fieldAt_lt c 9 1, fieldAt_lt c 10 2, fieldAt_lt c 12 2,
    fieldAt_lt c 14 4, fieldAt_lt c 18 4⟩

theorem Header.bytes_length (h : Header) (tail : List Byte) : (h.bytes tail).length = 22 + tail.length := by
  simp only [Header.bytes, List.length_append, u8_length, u16_length, u32_length, u48_length]
  omega

theorem Header.fieldAt_zero (h : Header) (tail : List Byte) : fieldAt (h.bytes tail) 0 1 = 2 :=
  fieldAt_u8_append _ (by decide)

theorem Header.headerOf_bytes {h : Header} (hr : h.inRange) (tail : List Byte) : headerOf (h.bytes tail) = h := by
  obtain ⟨hissuer, hversion, hserial, hlength, hproduct, hword, hfrom, huntil⟩ := hr
  simp (disch := exact Nat.le_of_ble_eq_true rfl) only [headerOf, Header.bytes, fieldAt_after, u8_length, u16_length,
    u32_length, u48_length, Nat.reduceSub, fieldAt_u8_append _ hissuer, fieldAt_u8_append _ hversion, fieldAt_u48_append _ hserial,
    fieldAt_u8_append _ hlength, fieldAt_u16_append _ hproduct, fieldAt_u16_append _ hword, fieldAt_u32_append _ hfrom,
    fieldAt_u32_append _ huntil]

theorem Header.bytes_eq (h : Header) (tail : List Byte) : h.bytes tail = h.bytes [] ++ tail := by
  simp only [Header.bytes, List.append_assoc, List.nil_append]

theorem Header.drop_bytes (h : Header) (tail : List Byte) (k : Nat) : (h.bytes tail).drop (22 + k) = tail.drop k := by
  have hlen : (h.bytes []).length = 22 := h.bytes_length []
  rw [h.bytes_eq, ← hlen, List.drop_length_add_append]

theorem Header.fieldAt_tail (h : Header) (tail : List Byte) (k len : Nat) :
    fieldAt (h.bytes tail) (22 + k) len = fieldAt tail k len := by
  rw [fieldAt, h.drop_bytes, fieldAt]

/-- A content that starts with the format byte is the bytes of its header, with the rest behind them. -/
theorem headerOf_bytes_drop {c : List Byte} (hl : 22 ≤ c.length) (hformat : fieldAt c 0 1 = 2) :
    (headerOf c).bytes (c.drop 22) = c := by
  have hstart := drop_eq_u8 (c := c) (off := 0) (by omega)
  rw [hformat, List.drop_zero] at hstart
  rw [Header.bytes, headerOf, ← drop_eq_u32 (off := 18) (by omega), ← drop_eq_u32 (off := 14) (by omega),
    ← drop_eq_u16 (off := 12) (by omega), ← drop_eq_u16 (off := 10) (by omega), ← drop_eq_u8 (off := 9) (by omega),
    ← drop_eq_u48 (off := 3) (by omega), ← drop_eq_u8 (off := 2) (by omega), ← drop_eq_u8 (off := 1) (by omega)]
  exact hstart.symm

end Sys2Proof.Machine
end

section
/-! The decoder of a credential content (R2 to R8, R187): a content is decoded exactly when it is a record written out. -/

namespace Sys2Proof.Machine

/-! ### The kind part (R6, R7) -/

/-- The kind part of a record, written out with its kind code. -/
def placed (kind : KindPart) (kindCode : Nat) (part : List Byte) : Prop :=
  (∃ o d, 1 ≤ o ∧ o < 65536 ∧ 1 ≤ d ∧ d < 65536 ∧ o ≠ d ∧ part = u16 o ++ u16 d ∧
    ((kindCode = 1 ∧ kind = .single o d) ∨ (kindCode = 2 ∧ kind = .returnTrip o d))) ∨
  (∃ area zones, area ≤ 7 ∧ 1 ≤ zones.length ∧ zones.length ≤ 8 ∧ zones.Nodup ∧ (∀ z ∈ zones, z ≤ 255) ∧
    part = u8 area ++ (u8 zones.length ++ zones.flatMap u8) ∧ kindCode = 3 ∧ kind = .zones area zones) ∨
  (∃ area, area ≤ 7 ∧ part = u8 area ∧ kindCode = 4 ∧ kind = .area area)

/-- One-byte fields that follow one another. -/
theorem take_eq_flatMap_u8 {c : List Byte} {off n : Nat} (h : off + n ≤ c.length) :
    (c.drop off).take n = ((List.range n).map (fun i => fieldAt c (off + i) 1)).flatMap u8 := by
  induction n with
  | zero => rfl
  | succ n ih =>
    rw [List.take_add, ih (by omega), List.drop_drop, drop_eq_u8 (by omega), List.range_succ, List.map_append,
      List.flatMap_append]
    rfl

theorem map_fieldAt_flatMap_u8 {zs : List Nat} (h : ∀ z ∈ zs, z ≤ 255) (rest : List Byte) :
    (List.range zs.length).map (fun i => fieldAt (zs.flatMap u8 ++ rest) i 1) = zs := by
  induction zs with
  | nil => rfl
  | cons z zs ih =>
    have hz : z < 256 := Nat.lt_succ_of_le (h z List.mem_cons_self)
    rw [List.length_cons, List.range_succ_eq_map, List.map_cons, List.map_map, List.flatMap_cons, List.append_assoc,
      fieldAt_u8_append _ hz]
    refine congrArg (z :: ·) (Eq.trans (List.map_congr_left fun i _ => ?_) (ih fun y hy => h y (List.mem_cons_of_mem z hy)))
    exact fieldAt_u8_skip _ z i 1

theorem placed_length {kind : KindPart} {kindCode : Nat} {part : List Byte} (h : placed kind kindCode part) :
    part.length ≤ 10 ∧ kindCode ≤ 4 := by
  rcases h with ⟨o, d, -, -, -, -, -, rfl, ⟨rfl, -⟩ | ⟨rfl, -⟩⟩ | ⟨area, zones, -, -, h8, -, -, rfl, rfl, -⟩ |
    ⟨area, -, rfl, rfl, -⟩
  · simp
  · simp
  · have hflat : (zones.flatMap u8).length = zones.length :=
      (length_flatMap_const u8_length zones).trans (Nat.mul_one _)
    simp only [List.length_append, u8_length, hflat]
    omega
  · simp

section
variable {b : List Byte} {kind : KindPart}

/-- A kind part that is decoded is one that was written. -/
theorem placed_of_decodeKind {n : Nat} (h : decodeKind b = some (kind, n)) (hl : 22 + n ≤ b.length) :
    placed kind (fieldAt b 12 2 / 8192) ((b.drop 22).take n) := by
  have hstops (hok : (fieldAt b 22 2 != 0 && fieldAt b 24 2 != 0 && fieldAt b 22 2 != fieldAt b 24 2) = true)
      (hn : 26 ≤ b.length) : 1 ≤ fieldAt b 22 2 ∧ fieldAt b 22 2 < 65536 ∧ 1 ≤ fieldAt b 24 2 ∧ fieldAt b 24 2 < 65536 ∧
      fieldAt b 22 2 ≠ fieldAt b 24 2 ∧ (b.drop 22).take 4 = u16 (fieldAt b 22 2) ++ u16 (fieldAt b 24 2) := by
    simp only [Bool.and_eq_true, bne_iff_ne] at hok
    obtain ⟨⟨ho, hd⟩, hne⟩ := hok
    refine ⟨Nat.pos_of_ne_zero ho, fieldAt_lt b 22 2, Nat.pos_of_ne_zero hd, fieldAt_lt b 24 2, hne, ?_⟩
    rw [drop_eq_u16 (off := 22) (by omega), drop_eq_u16 (off := 24) (by omega)]
    rfl
  unfold decodeKind at h
  simp only at h
  split at h
  · split at h
    next hcode hok =>
      obtain ⟨rfl, rfl⟩ := Prod.mk.inj (Option.some.inj h)
      obtain ⟨ho, ho', hd, hd', hne, hpart⟩ := hstops hok hl
      exact .inl ⟨_, _, ho, ho', hd, hd', hne, hpart, .inl ⟨hcode, rfl⟩⟩
    next => simp at h
  · split at h
    next hcode hok =>
      obtain ⟨rfl, rfl⟩ := Prod.mk.inj (Option.some.inj h)
      obtain ⟨ho, ho', hd, hd', hne, hpart⟩ := hstops hok hl
      exact .inl ⟨_, _, ho, ho', hd, hd', hne, hpart, .inr ⟨hcode, rfl⟩⟩
    next => simp at h
  · split at h
    next hcode hok =>
      obtain ⟨rfl, rfl⟩ := Prod.mk.inj (Option.some.inj h)
      obtain ⟨harea, h1, h8, hnodup⟩ := hok
      have hlen : (zoneList b).length = fieldAt b 23 1 := by simp [zoneList]
      refine .inr (.inl ⟨_, zoneList b, harea, by omega, by omega, hnodup, fun z hz => ?_, ?_, hcode, rfl⟩)
      · obtain ⟨i, -, rfl⟩ := List.mem_map.1 hz
        exact Nat.le_of_lt_succ (fieldAt_lt b (24 + i) 1)
      · have hzones : (b.drop 24).take (fieldAt b 23 1) = (zoneList b).flatMap u8 := take_eq_flatMap_u8 (by omega)
        rw [hlen, ← hzones, drop_eq_u8 (off := 22) (by omega), drop_eq_u8 (off := 23) (by omega), Nat.add_comm 2]
        rfl
    next => simp at h
  · split at h
    next hcode hok =>
      obtain ⟨rfl, rfl⟩ := Prod.mk.inj (Option.some.inj h)
      refine .inr (.inr ⟨_, hok, ?_, hcode, rfl⟩)
      rw [drop_eq_u8 (off := 22) (by omega)]
      rfl
    next => simp at h
  · simp at h

/-- A kind part that was written is decoded. -/
theorem decodeKind_of_placed {part rest : List Byte} (h : placed kind (fieldAt b 12 2 / 8192) part)
    (hb : b.drop 22 = part ++ rest) : decodeKind b = some (kind, part.length) := by
  have hfield (k len : Nat) : fieldAt b (22 + k) len = fieldAt (part ++ rest) k len := by
    rw [← hb, fieldAt_drop]
  rcases h with ⟨o, d, ho, ho', hd, hd', hne, rfl, hkind⟩ | ⟨area, zones, harea, h1, h8, hnodup, hbyte, rfl, hcode, rfl⟩ |
    ⟨area, harea, rfl, hcode, rfl⟩
  · have hfrom : fieldAt b 22 2 = o := by
      rw [hfield 0, List.append_assoc, fieldAt_u16_append _ ho']
    have hto : fieldAt b 24 2 = d := by
      rw [hfield 2, List.append_assoc, fieldAt_u16_skip _ o 0, fieldAt_u16_append _ hd']
    have hok : (o != 0 && d != 0 && o != d) = true := by
      simp only [Bool.and_eq_true, bne_iff_ne]
      exact ⟨⟨by omega, by omega⟩, hne⟩
    rcases hkind with ⟨hcode, rfl⟩ | ⟨hcode, rfl⟩
    · simp only [decodeKind, hcode, hfrom, hto, hok, if_true]
      rfl
    · simp only [decodeKind, hcode, hfrom, hto, hok, if_true]
      rfl
  · have hat : fieldAt b 22 1 = area := by
      rw [hfield 0, List.append_assoc, fieldAt_u8_append _ (by omega)]
    have hcount : fieldAt b 23 1 = zones.length := by
      rw [hfield 1, List.append_assoc, fieldAt_u8_skip _ area 0, List.append_assoc, fieldAt_u8_append _ (by omega)]
    have hzones : zoneList b = zones := by
      rw [zoneList, hcount]
      refine Eq.trans (List.map_congr_left fun i _ => ?_) (map_fieldAt_flatMap_u8 hbyte rest)
      have hi := hfield (2 + i) 1
      rw [Nat.add_comm 2 i, List.append_assoc, ← Nat.add_assoc i 1 1, fieldAt_u8_skip _ area, List.append_assoc,
        fieldAt_u8_skip _ zones.length] at hi
      rw [← hi]
      exact congrArg (fun k => fieldAt b k 1) (by omega)
    have hflat : (zones.flatMap u8).length = zones.length :=
      (length_flatMap_const u8_length zones).trans (Nat.mul_one _)
    simp only [decodeKind, hcode, hat, hcount, hzones]
    rw [if_pos ⟨harea, h1, h8, hnodup⟩]
    simp only [List.length_append, u8_length, hflat, ← Nat.add_assoc]
  · have hat : fieldAt b 22 1 = area := by
      rw [hfield 0, fieldAt_u8_append _ (by omega)]
    simp only [decodeKind, hcode, hat, harea, if_true]
    rfl

end

end Sys2Proof.Machine
end

section
/-! A content is decoded exactly when it is a record written out (R2 to R8, R187). -/

namespace Sys2Proof.Machine

/-! ### What the decoder reads -/

/-- The record is what the bytes say, field by field, with a kind part of `n` bytes (R5 to R8). -/
structure Credential.reads (c : Credential) (b : List Byte) (n : Nat) : Prop where
  kind : decodeKind b = some (c.kind, n)
  long : 22 ≤ b.length
  lengthByte : b.length = (headerOf b).length
  lengthParts : b.length = 22 + n + bit c.rides.isSome + 2 * bit c.service.isSome + 8
  format : fieldAt b 0 1 = 2
  issuer : c.key.issuer = (headerOf b).issuer
  serial : c.key.serial = (headerOf b).serial
  version : c.version = (headerOf b).version
  versionRange : c.version ≤ 15
  product : c.product = (headerOf b).product
  productRange : c.product ≤ 4095
  validFrom : c.validFrom = (headerOf b).validFrom
  validUntil : c.validUntil = (headerOf b).validUntil
  validity : c.validFrom ≤ c.validUntil
  cls : c.cls.code = (headerOf b).word / 2048 % 4
  adults : c.adults = (headerOf b).word / 128 % 16
  children : c.children = (headerOf b).word / 8 % 16
  travellers : 1 ≤ c.adults + c.children ∧ c.adults + c.children ≤ 9
  spare : (headerOf b).word / 4 % 2 = 0
  hasService : (headerOf b).word / 2 % 2 = bit c.service.isSome
  hasRides : (headerOf b).word % 2 = bit c.rides.isSome
  rides : ∀ r, c.rides = some r → r = fieldAt b (22 + n) 1
  service : ∀ r, c.service = some r → r = fieldAt b (22 + n + bit c.rides.isSome) 2 ∧ r ≠ 0
  checkInput : c.checkInput = b.take (b.length - 8)
  checkValue : c.checkValue = BitVec.ofNat 64 (fieldAt b (b.length - 8) 8)

/-- A flag of the word says whether its optional part is present. -/
theorem bit_flag (k : Nat) (hk : k < 2) (v : Nat) :
    bit ((if (k == 1) = true then some v else none).isSome) = k ∧ bit (k == 1) = k := by
  obtain rfl | rfl : k = 0 ∨ k = 1 := by omega
  · exact ⟨rfl, rfl⟩
  · exact ⟨rfl, rfl⟩

theorem decodeBytes_eq_some {b : List Byte} {c : Credential} : decodeBytes b = some c ↔ ∃ n, c.reads b n := by
  constructor
  · intro h
    simp only [decodeBytes] at h
    split at h
    case h_2 => simp at h
    next kind n cls hkind hcls =>
      split at h
      case isFalse => simp at h
      next hcond =>
        obtain ⟨hlong, hbyte, hparts, hformat, hversion, hproduct, -, -, hspare, hservice, hsome, hmost, hvalid⟩ := hcond
        obtain rfl := Option.some.inj h
        obtain ⟨hrides, hrides'⟩ := bit_flag (fieldAt b 12 2 % 2) (by omega) (fieldAt b (22 + n) 1)
        obtain ⟨hserv, hserv'⟩ := bit_flag (fieldAt b 12 2 / 2 % 2) (by omega)
          (fieldAt b (22 + n + bit (fieldAt b 12 2 % 2 == 1)) 2)
        refine ⟨n, {
          kind := hkind, long := hlong, lengthByte := hbyte, lengthParts := ?_, format := hformat, issuer := rfl,
          serial := rfl, version := rfl, versionRange := hversion, product := rfl, productRange := hproduct,
          validFrom := rfl, validUntil := rfl, validity := hvalid, cls := TravelClass.ofCode?_eq_some_iff.1 hcls,
          adults := rfl, children := rfl, travellers := ⟨hsome, hmost⟩, spare := hspare, hasService := hserv.symm,
          hasRides := hrides.symm, rides := fun r hr => ?_, service := fun r hr => ?_,
          checkInput := congrArg (fun k => b.take (k - 8)) hparts.symm,
          checkValue := congrArg (fun k => BitVec.ofNat 64 (fieldAt b (k - 8) 8)) hparts.symm }⟩
        · rw [hrides, hserv, ← hrides', ← hserv']
          exact hparts
        · obtain ⟨-, hread⟩ := Option.ite_none_right_eq_some.1 hr
          exact (Option.some.inj hread).symm
        · obtain ⟨hflag, hread⟩ := Option.ite_none_right_eq_some.1 hr
          obtain rfl := Option.some.inj hread
          exact ⟨congrArg (fun k => fieldAt b (22 + n + k) 2) (hrides'.trans hrides.symm), hservice hflag⟩
  · rintro ⟨n, r⟩
    have hcls : TravelClass.ofCode? (fieldAt b 12 2 / 2048 % 4) = some c.cls := TravelClass.ofCode?_eq_some_iff.2 r.cls
    have hflag (o : Bool) : (bit o == 1) = o := by cases o <;> rfl
    have hrides : (fieldAt b 12 2 % 2 == 1) = c.rides.isSome := (congrArg (· == 1) r.hasRides).trans (hflag _)
    have hserv : (fieldAt b 12 2 / 2 % 2 == 1) = c.service.isSome := (congrArg (· == 1) r.hasService).trans (hflag _)
    simp only [decodeBytes, r.kind, hcls, hrides, hserv, ← r.lengthParts]
    have hread (o : Option Nat) (v : Nat) (h : ∀ w, o = some w → w = v) :
        (if o.isSome = true then some v else none) = o := by
      cases o with
      | none => rfl
      | some w => exact congrArg some (h w rfl).symm
    rw [hread _ _ r.rides, hread _ _ fun w hw => (r.service w hw).1, if_pos]
    · obtain ⟨⟨issuer, serial⟩, version, product, kind, cls, adults, children, from', until', rides, service, input,
        value⟩ := c
      simp only [Option.some.injEq, Credential.mk.injEq, CredKey.mk.injEq, true_and]
      exact ⟨⟨r.issuer.symm, r.serial.symm⟩, r.version.symm, r.product.symm, r.adults.symm, r.children.symm,
        r.validFrom.symm, r.validUntil.symm, r.checkInput.symm, r.checkValue.symm⟩
    · have hadults : c.adults = fieldAt b 12 2 / 128 % 16 := r.adults
      have hchildren : c.children = fieldAt b 12 2 / 8 % 16 := r.children
      obtain ⟨hsome, hmost⟩ := r.travellers
      refine ⟨r.long, r.lengthByte, trivial, r.format, Nat.le_trans (Nat.le_of_eq r.version.symm) r.versionRange,
        Nat.le_trans (Nat.le_of_eq r.product.symm) r.productRange, by omega, by omega, r.spare, fun hs => ?_, by omega, by omega, ?_⟩
      · obtain ⟨w, hw⟩ := Option.isSome_iff_exists.1 hs
        obtain ⟨hat, hne⟩ := r.service w hw
        exact hat ▸ hne
      · have hvalid := r.validity
        rwa [r.validFrom, r.validUntil] at hvalid

/-! ### What is written out -/

/-- The optional parts of a record, in their order. -/
def Credential.optional (c : Credential) : List Byte :=
  (match c.rides with
    | some n => u8 n
    | none => []) ++
  (match c.service with
    | some n => u16 n
    | none => [])

/-- The word at offset 12. -/
def Credential.word (c : Credential) (kindCode : Nat) : Nat :=
  kindCode * 8192 + c.cls.code * 2048 + c.adults * 128 + c.children * 8 +
    (if c.service.isSome then 2 else 0) + (if c.rides.isSome then 1 else 0)

/-- The header of a record with a kind part of this code and size. -/
def Credential.header (c : Credential) (kindCode n : Nat) : Header :=
  { issuer := c.key.issuer, version := c.version, serial := c.key.serial, length := 30 + n + c.optional.length,
    product := c.product, word := c.word kindCode, validFrom := c.validFrom, validUntil := c.validUntil }

theorem Credential.optional_length (c : Credential) :
    c.optional.length = bit c.rides.isSome + 2 * bit c.service.isSome := by
  unfold Credential.optional
  cases c.rides <;> cases c.service <;> rfl

/-- The fields of a record are within their ranges (R6, R7). -/
structure Credential.inRange (c : Credential) : Prop where
  issuer : c.key.issuer < 256
  serial : c.key.serial < 281474976710656
  version : c.version ≤ 15
  product : c.product ≤ 4095
  some : 1 ≤ c.adults + c.children
  most : c.adults + c.children ≤ 9
  validity : c.validFrom ≤ c.validUntil
  validUntil : c.validUntil < 4294967296
  rides : ∀ n, c.rides = .some n → n ≤ 255
  service : ∀ n, c.service = .some n → 1 ≤ n ∧ n ≤ 65535

section
variable {c : Credential} {b : List Byte} {n : Nat}

/-! ### A record that was read -/

theorem Credential.reads.inRange (r : c.reads b n) : c.inRange where
  issuer := Nat.lt_of_le_of_lt (Nat.le_of_eq r.issuer) (headerOf_inRange b).issuer
  serial := Nat.lt_of_le_of_lt (Nat.le_of_eq r.serial) (headerOf_inRange b).serial
  version := r.versionRange
  product := r.productRange
  some := r.travellers.1
  most := r.travellers.2
  validity := r.validity
  validUntil := Nat.lt_of_le_of_lt (Nat.le_of_eq r.validUntil) (headerOf_inRange b).validUntil
  rides := fun k hk => Nat.le_of_lt_succ (Nat.lt_of_le_of_lt (Nat.le_of_eq (r.rides k hk)) (fieldAt_lt b (22 + n) 1))
  service := fun k hk => ⟨Nat.pos_of_ne_zero (r.service k hk).2,
    Nat.le_of_lt_succ (Nat.lt_of_le_of_lt (Nat.le_of_eq (r.service k hk).1) (fieldAt_lt b _ 2))⟩

theorem Credential.reads.word (r : c.reads b n) : (headerOf b).word = c.word ((headerOf b).word / 8192) := by
  have hservice : (if c.service.isSome then 2 else 0) = 2 * ((headerOf b).word / 2 % 2) := by
    rw [r.hasService]
    cases c.service.isSome <;> rfl
  have hrides : (if c.rides.isSome then 1 else 0) = (headerOf b).word % 2 := r.hasRides.symm
  have hspare := r.spare
  rw [Credential.word, hservice, hrides, r.cls, r.adults, r.children]
  have hlt := (headerOf_inRange b).word
  omega

theorem Credential.reads.header (r : c.reads b n) : headerOf b = c.header ((headerOf b).word / 8192) n := by
  have hlength : (headerOf b).length = 30 + n + c.optional.length := by
    rw [← r.lengthByte, r.lengthParts, c.optional_length]
    omega
  simp only [Credential.header, ← r.word, ← hlength, r.issuer, r.version, r.serial, r.product, r.validFrom, r.validUntil]

theorem Credential.reads.drop_rides (r : c.reads b n) : b.drop (22 + n) =
    (match c.rides with
      | .some k => u8 k
      | none => []) ++ b.drop (22 + n + bit c.rides.isSome) := by
  have hparts := r.lengthParts
  cases hr : c.rides with
  | none => rfl
  | some k =>
    rw [hr] at hparts
    rw [r.rides k hr]
    exact drop_eq_u8 (by simp only [Option.isSome_some, bit, if_true] at hparts; omega)

theorem Credential.reads.drop_service (r : c.reads b n) : b.drop (22 + n + bit c.rides.isSome) =
    (match c.service with
      | .some k => u16 k
      | none => []) ++ b.drop (b.length - 8) := by
  have hparts := r.lengthParts
  cases hs : c.service with
  | none =>
    rw [hs] at hparts
    rw [hparts]
    rfl
  | some k =>
    rw [hs] at hparts
    simp only [Option.isSome_some, bit, if_true] at hparts
    have hend : b.length - 8 = 22 + n + bit c.rides.isSome + 2 := by
      simp only [bit]
      omega
    rw [(r.service k hs).1, hend]
    exact drop_eq_u16 (by omega)

/-- Behind the kind part stand the optional parts and the check value. -/
theorem Credential.reads.drop_optional (r : c.reads b n) :
    b.drop (22 + n) = c.optional ++ b.drop (b.length - 8) := by
  rw [r.drop_rides, r.drop_service, ← List.append_assoc]
  rfl

/-- A record that was read is the one that was written out. -/
theorem Credential.reads.writtenOut (r : c.reads b n) : ∃ (kindCode : Nat) (part check : List Byte),
    placed c.kind kindCode part ∧ check.length = 8 ∧
      c.checkInput = (c.header kindCode part.length).bytes (part ++ c.optional) ∧
      c.checkValue = BitVec.ofNat 64 (beNat check) ∧ b = c.checkInput ++ check := by
  have hparts := r.lengthParts
  have hlong : 22 + n ≤ b.length := by omega
  have hcheck : (b.drop (b.length - 8)).length = 8 := by
    rw [List.length_drop]
    omega
  have hpart : ((b.drop 22).take n).length = n := by
    rw [List.length_take, List.length_drop]
    omega
  have htail : b.drop 22 = (b.drop 22).take n ++ (c.optional ++ b.drop (b.length - 8)) := by
    rw [← r.drop_optional, ← List.drop_drop, List.take_append_drop]
  have hb : b = (c.header ((headerOf b).word / 8192) n).bytes ((b.drop 22).take n ++ c.optional) ++
      b.drop (b.length - 8) := by
    rw [Header.bytes_eq, List.append_assoc, List.append_assoc, ← htail, ← Header.bytes_eq, ← r.header,
      headerOf_bytes_drop r.long r.format]
  have hinput : c.checkInput = (c.header ((headerOf b).word / 8192) n).bytes ((b.drop 22).take n ++ c.optional) := by
    refine r.checkInput.trans (List.append_cancel_right (bs := b.drop (b.length - 8)) ?_)
    rw [List.take_append_drop, ← hb]
  refine ⟨(headerOf b).word / 8192, (b.drop 22).take n, b.drop (b.length - 8), placed_of_decodeKind r.kind hlong, hcheck,
    ?_, ?_, ?_⟩
  · rw [hpart]
    exact hinput
  · rw [r.checkValue, fieldAt, List.take_of_length_le (Nat.le_of_eq hcheck)]
  · rw [r.checkInput, List.take_append_drop]

/-! ### A record that was written out -/

variable {kindCode : Nat} {part check : List Byte} (h : c.inRange) (hp : placed c.kind kindCode part)
  (hb : b = (c.header kindCode part.length).bytes (part ++ c.optional) ++ check) (hcheck : check.length = 8)

include h hp in
theorem Credential.header_inRange : (c.header kindCode part.length).inRange := by
  obtain ⟨hpart, hcode⟩ := placed_length hp
  have hsome := h.most
  have hcls : c.cls.code ≤ 2 := by cases c.cls <;> decide
  have hoptional : c.optional.length ≤ 3 := by
    rw [c.optional_length]
    cases c.rides.isSome <;> cases c.service.isSome <;> decide
  refine ⟨h.issuer, Nat.lt_of_le_of_lt h.version (by decide), h.serial, ?_, Nat.lt_of_le_of_lt h.product (by decide), ?_,
    Nat.lt_of_le_of_lt h.validity h.validUntil, h.validUntil⟩
  · simp only [Credential.header]
    omega
  · simp only [Credential.header, Credential.word]
    split <;> split <;> omega

include h hp in
theorem Credential.word_fields : c.word kindCode / 8192 = kindCode ∧ c.word kindCode / 2048 % 4 = c.cls.code ∧
    c.word kindCode / 128 % 16 = c.adults ∧ c.word kindCode / 8 % 16 = c.children ∧ c.word kindCode / 4 % 2 = 0 ∧
    c.word kindCode / 2 % 2 = bit c.service.isSome ∧ c.word kindCode % 2 = bit c.rides.isSome := by
  obtain ⟨-, hcode⟩ := placed_length hp
  have hmost := h.most
  have hcls : c.cls.code ≤ 2 := by cases c.cls <;> decide
  simp only [Credential.word, bit]
  split <;> split <;> omega

include hb in
theorem Credential.written_tail :
    b = (c.header kindCode part.length).bytes (part ++ (c.optional ++ check)) := by
  rw [hb, Header.bytes_eq, Header.bytes_eq _ (part ++ (c.optional ++ check)), List.append_assoc, List.append_assoc]

include hb in
/-- A field behind the kind part is one of the optional parts or of the check value. -/
theorem Credential.written_field (k len : Nat) :
    fieldAt b (22 + part.length + k) len = fieldAt (c.optional ++ check) k len := by
  rw [Credential.written_tail hb, Nat.add_assoc, Header.fieldAt_tail, fieldAt_after (Nat.le_add_right _ _),
    Nat.add_sub_cancel_left]

include h hp hb hcheck in
/-- A record that was written out is the one that is read. -/
theorem Credential.reads_of_writtenOut (hinput : c.checkInput = (c.header kindCode part.length).bytes (part ++ c.optional))
    (hvalue : c.checkValue = BitVec.ofNat 64 (beNat check)) : c.reads b part.length := by
  have htail := Credential.written_tail hb
  have hhead : headerOf b = c.header kindCode part.length := by
    rw [htail, Header.headerOf_bytes (c.header_inRange h hp)]
  have hword : (headerOf b).word = c.word kindCode := congrArg Header.word hhead
  obtain ⟨hcode, hcls, hadults, hchildren, hspare, hservice, hrides⟩ := c.word_fields h hp
  have hlength : b.length = 22 + part.length + c.optional.length + 8 := by
    rw [htail, Header.bytes_length]
    simp only [List.length_append, hcheck, Nat.add_assoc]
  have hsplit : b = c.checkInput ++ check := by rw [hinput, hb]
  have hend : b.length - 8 = c.checkInput.length := by
    rw [hsplit, List.length_append, hcheck, Nat.add_sub_cancel]
  have hbyte : (headerOf b).length = 30 + part.length + c.optional.length := congrArg Header.length hhead
  refine {
    kind := decodeKind_of_placed (rest := c.optional ++ check) ?_ ?_, long := by omega, lengthByte := by omega,
    lengthParts := ?_, format := ?_, issuer := (congrArg Header.issuer hhead).symm,
    serial := (congrArg Header.serial hhead).symm, version := (congrArg Header.version hhead).symm,
    versionRange := h.version, product := (congrArg Header.product hhead).symm, productRange := h.product,
    validFrom := (congrArg Header.validFrom hhead).symm, validUntil := (congrArg Header.validUntil hhead).symm,
    validity := h.validity, cls := ?_, adults := ?_, children := ?_, travellers := ⟨h.some, h.most⟩, spare := ?_,
    hasService := ?_, hasRides := ?_, rides := fun k hk => ?_, service := fun k hk => ⟨?_, ?_⟩,
    checkInput := ?_, checkValue := ?_ }
  · have hkind : fieldAt b 12 2 / 8192 = kindCode := (congrArg (· / 8192) hword).trans hcode
    rw [hkind]
    exact hp
  · rw [htail]
    exact Header.drop_bytes _ _ 0
  · rw [hlength, c.optional_length]
    omega
  · rw [htail, Header.fieldAt_zero]
  · rw [hword, hcls]
  · rw [hword, hadults]
  · rw [hword, hchildren]
  · rw [hword, hspare]
  · rw [hword, hservice]
  · rw [hword, hrides]
  · have hat := c.written_field hb 0 1
    rw [Credential.optional, hk, List.append_assoc, fieldAt_u8_append _ (Nat.lt_succ_of_le (h.rides k hk))] at hat
    exact hat.symm
  · have hlt := Nat.lt_succ_of_le (h.service k hk).2
    rw [c.written_field hb, Credential.optional, hk]
    cases c.rides with
    | none => exact (fieldAt_u16_append _ hlt).symm
    | some j => exact ((fieldAt_u8_skip _ j 0 2).trans (fieldAt_u16_append _ hlt)).symm
  · exact Nat.ne_of_gt (h.service k hk).1
  · rw [hend, hsplit, List.take_left]
  · have hfield : fieldAt b c.checkInput.length 8 = beNat check := by
      rw [hsplit, fieldAt_after (Nat.le_refl _), Nat.sub_self, fieldAt_all hcheck]
    rw [hend, hfield, hvalue]

end

/-! ### Contents of a card, and short ones (R2, R3) -/

theorem decodeBytes_short {b : List Byte} (h : b.length < 22) : decodeBytes b = none := by
  rw [Option.eq_none_iff_forall_ne_some]
  intro c hc
  obtain ⟨n, r⟩ := decodeBytes_eq_some.1 hc
  exact absurd r.long (Nat.not_le.2 h)

/-- Settles O25. -/
theorem decodedCredentialsAreInRange : Obligations.DecodedCredentialsAreInRange := by
  refine ⟨fun content c => ⟨fun h => ?_, ?_⟩, fun counter session content padding hlong hbyte => ?_,
    fun counter session content h => decodeBytes_short (Nat.lt_of_le_of_lt (List.length_take_le _ _) h),
    fun content h => decodeBytes_short h⟩
  · obtain ⟨n, r⟩ := decodeBytes_eq_some.1 h
    obtain ⟨kindCode, part, check, hplaced, hcheck, hinput, hvalue, hsplit⟩ := r.writtenOut
    have hin := r.inRange
    exact ⟨hin.issuer, hin.serial, hin.version, hin.product, hin.some, hin.most, hin.validity, hin.validUntil, hin.rides,
      hin.service, kindCode, part, check, hplaced, hcheck, hinput, hvalue, hsplit⟩
  · rintro ⟨hissuer, hserial, hversion, hproduct, hsome, hmost, hvalid, huntil, hrides, hservice, kindCode, part, check,
      hplaced, hcheck, hinput, hvalue, hsplit⟩
    exact decodeBytes_eq_some.2 ⟨_, c.reads_of_writtenOut (part := part)
      ⟨hissuer, hserial, hversion, hproduct, hsome, hmost, hvalid, huntil, hrides, hservice⟩ hplaced
      (hsplit.trans (congrArg (· ++ check) hinput)) hcheck hinput hvalue⟩
  · have hfield : fieldAt (content ++ padding) 9 1 = content.length := by
      rw [← hbyte, fieldAt, fieldAt, List.drop_append_of_le_length (by omega),
        List.take_append_of_le_length (by rw [List.length_drop]; omega)]
    have htake : (content ++ padding).take (fieldAt (content ++ padding) 9 1) = content := by
      rw [hfield, List.take_left]
    exact congrArg decodeBytes htake

end Sys2Proof.Machine
end
